-- ==== Sys2Proof/Word.lean ====
section
/-!
DEFINITION. Word.lean: the 32-bit register word (R30), the byte, and the plainest arithmetic on them: taking a bit
range out of a number, and reading a bit range as a signed number (R8).
-/
namespace Sys2Proof

/-- A register word: all vendor-page registers are 32 bits wide (R30). -/
abbrev Word := BitVec 32

/-- One byte of a memory. -/
abbrev Byte := BitVec 8

/-- `w` bits of `v` from bit `lo` upward (R8: bit 0 is the least significant bit). -/
def bits (v lo w : Nat) : Nat := v / 2 ^ lo % 2 ^ w

/-- Bit `k` of `v`. -/
def bitOf (v k : Nat) : Bool := bits v k 1 == 1

/-- The number a field of `w` bits holds when it is read as two's complement. -/
def signed (w v : Nat) : Int := if 2 ^ w ≤ 2 * v then (v : Int) - 2 ^ w else v

/-- The low `w` bits of an integer, as a field of `w` bits holds them. -/
def toField (w : Nat) (x : Int) : Nat := (x % 2 ^ w).toNat

/-- `x` held between `lo` and `hi`. -/
def clampNat (lo hi x : Nat) : Nat := if x < lo then lo else if hi < x then hi else x

/-- `x` held between `lo` and `hi`. -/
def clampInt (lo hi x : Int) : Int := if x < lo then lo else if hi < x then hi else x

/-- Addition that stops at `top`. -/
def satAdd (top x y : Nat) : Nat := if top < x + y then top else x + y

/-- The byte `k` of a number, byte 0 the least significant (R8). -/
def byteOf (v k : Nat) : Nat := bits v (8 * k) 8

/-- The `n` bytes of `v`, least significant first (R8). -/
def leBytes (v : Nat) : Nat → List Nat
  | 0 => []
  | n + 1 => v % 256 :: leBytes (v / 256) n

/-- The number that bytes spell, least significant first (R8). -/
def leNat : List Nat → Nat
  | [] => 0
  | b :: bs => b % 256 + 256 * leNat bs

end Sys2Proof
end

