-- ==== Sys2Proof/Syntax.lean ====
section
/-!
DEFINITION. Syntax.lean: the commands of the device, one constructor per row of the command table, and the types of
their operands. A command's operands are what the outside world brings to it: the register value written, the sample
or frame that arrives, the outcome of an analogue or media process that the spec does not compute.
-/
namespace Sys2Proof

/-- An arm die, 0 to 3 (R1). -/
abbrev ArmId := Fin 4

/-- A Wiloz core, 0 to 7 (R42). -/
abbrev CoreId := Fin 8

/-- A Felox link position, FL0 to FL6 (R14). -/
abbrev LinkId := Fin 7

/-- A buffer die, 0 or 1 (R1). -/
abbrev BufId := Fin 2

/-- A head of an arm, 0 to 7 (R6). -/
abbrev HeadId := Fin 8

/-- A channel of an arm: channel A or the joker (R72). -/
inductive Chan
  | a | joker
  deriving DecidableEq, Repr

/-- Who makes a register access: a core, or the host through BAR0 (R30). -/
inductive Who
  | core (c : CoreId)
  | host
  deriving DecidableEq, Repr

/-- The two traffic classes of a Felox link (R15). -/
inductive FlitClass
  | bulk | sideband
  deriving DecidableEq, Repr

/-- Widths of a core's memory access in bytes. -/
inductive MemSize
  | b1 | b2 | b4 | b8
  deriving DecidableEq, Repr

/-- The number of bytes of an access. -/
def MemSize.bytes : MemSize → Nat
  | .b1 => 1 | .b2 => 2 | .b4 => 4 | .b8 => 8

/-- A register page: its row in the table of pages (R28), 0 for GLB to 52 for REG. -/
abbrev PageNo := Fin 53

/-- The RISC-V integer operations that read and write only registers (R42: RV64IMAC; the meaning of each is the
unprivileged RISC-V instruction set's). -/
inductive AluOp
  | add | sub | sll | slt | sltu | xor | srl | sra | or | and
  | mul | mulh | mulhsu | mulhu | div | divu | rem | remu
  deriving DecidableEq, Repr

/-- Conditions of the RISC-V branches. -/
inductive BrOp
  | eq | ne | lt | ge | ltu | geu
  deriving DecidableEq, Repr

/-- Second operand of a register operation: a register or a sign-extended immediate. -/
inductive Src
  | reg (r : Fin 32)
  | imm (v : Int)
  deriving DecidableEq, Repr

/-- How a CSR instruction changes the register it names: write, set bits, clear bits. -/
inductive CsrKind
  | write | set | clear
  deriving DecidableEq, Repr

/-- What one RV64IMAC instruction does, decoded (R42). `CoreOp.illegal` is any instruction outside the set, and
`CoreOp.interrupt` is the core taking a pending interrupt in place of an instruction (R39, R46). -/
inductive CoreOp
  | illegal
  | alu (op : AluOp) (word : Bool) (rd rs1 : Fin 32) (src : Src)
  | lui (rd : Fin 32) (imm : Int)
  | auipc (rd : Fin 32) (imm : Int)
  | jal (rd : Fin 32) (off : Int)
  | jalr (rd rs1 : Fin 32) (off : Int)
  | branch (op : BrOp) (rs1 rs2 : Fin 32) (off : Int)
  | load (size : MemSize) (sext : Bool) (rd rs1 : Fin 32) (off : Int)
  | store (size : MemSize) (rs2 rs1 : Fin 32) (off : Int)
  | fence
  | csr (kind : CsrKind) (rd : Fin 32) (num : Nat) (src : Src)
  | ecall
  | ebreak
  | mret
  | wfi
  | interrupt
  deriving DecidableEq, Repr

/-- The atomic memory operations of the A extension. -/
inductive AmoOp
  | swap | add | xor | and | or | min | max | minu | maxu
  deriving DecidableEq, Repr

/-- What an LR, SC or AMO instruction does (R43). -/
inductive AtomOp
  | lr | sc | amo (op : AmoOp)
  deriving DecidableEq, Repr

/-- One image slot as Boot ROM reads it (R50): the 512 bytes of its header and the payload's bytes. -/
structure SlotImage where
  header : List Nat
  payload : List Nat
  deriving DecidableEq, Repr

/-- What Boot ROM finds outside the device while it runs (R52): whether SFDP makes the NOR usable, the 64 bytes of either
directory copy, the bytes of the memory configuration record that the directory names, the interleave setting, capacity and
ranks per channel and data rate that training sets up, whether LP5X training passes, whether the NOR advertises a 4 KiB erase,
and the two slots. -/
structure BootInput where
  norOk : Bool
  dir0 : List Nat
  dir1 : List Nat
  mcr : List Nat
  ilv : Nat
  chgib : Nat
  ranks : Nat
  mts : Nat
  trainOk : Bool
  erase4k : Bool
  slotA : SlotImage
  slotB : SlotImage
  deriving DecidableEq, Repr

/-- What the outside brings to a register write that starts something (R30): the Hall code now (a spindle start), the vault
sectors whose reading fails and the places of the blocks a replay restores, and whether the start-up tests of the random
generator pass, and the header of a host's request. -/
structure RegEnv where
  hall : Nat
  bad : List (Nat × Nat)
  places : List (Nat × Nat)
  rngOk : Bool
  hdr : List Nat
  deriving DecidableEq, Repr

/-- What a servo field brings under the selected head (R57 to R63, R124): whether its SAM is found, the 36 bits read as
wedge index, the amplitude of the clock lane (1/256 of full scale), its phase residual against the prediction and the
sum of the burst's time differences (both in burst-timer LSBs), whether the measured slope exceeds 24,000 rpm/s, the
wedge period in burst-timer LSBs, whether the LDR's front end is judged failed for this field, and the position that the
L1 state predicts (2^30 a track), used where the wedge brings no sample or no valid index (R125). -/
structure WedgeIn where
  sam : Bool
  index : Nat
  amp : Nat
  resid : Int
  steep : Bool
  rawsum : Int
  period : Nat
  ldrFail : Bool
  pred : Int
  deriving DecidableEq, Repr

/-- What the loop engine takes in at a quarter point beyond what the device holds (R144): the L1 velocity estimate in
tracks/ms and the supply V12 in mV that the power die reports. -/
structure LoopIn where
  vEst : Int
  v12 : Int
  deriving DecidableEq, Repr

/-- A sector under the head (R68, R73, R88): the sync mark detections in the window, as offsets in bits from the
prediction; the ADC outputs of the LDR and the TRR, one a channel bit from 128 bits before the sector's first bit to its last, split pad
left out; and whether a front end reports an open input. -/
structure SectorIn where
  syncs : List Int
  l : List Int
  t : List Int
  openL : Bool
  openT : Bool
  deriving DecidableEq, Repr

/-- What one decode of a sector in the sample buffer meets (R79, R80): which of the sectors in the buffer it is, from the oldest, the
position it is tried at (bits from the prediction), whether a
parity or normalisation fault of the channel strikes, which hard decisions differ from those whose syndrome the decoder has
checked, and whether such a fault strikes the channel that shadows it. -/
structure DecodeIn where
  index : Nat
  offset : Int
  fault : Bool
  flips : List Nat
  shadowFault : Bool
  deriving DecidableEq, Repr

/-- A sector that comes round for a ladder attempt (R90): its samples, those of further revolutions that rung 9 averages, and what its
decode meets, as for `DecodeIn`. -/
structure AttemptIn where
  io : SectorIn
  more : List (List Int × List Int)
  fault : Bool
  flips : List Nat
  deriving DecidableEq, Repr

/-- A response frame of the preamplifier (R114): the data of a read, STATUS, and the CRC received. -/
structure FrameRsp where
  data : Nat
  status : Nat
  crc : Nat
  deriving DecidableEq, Repr

/-- A Hall edge of the spindle (R155, R158 to R160): the code, the CLK_CTL cycles since the edge before it, the angle in degrees
electrical by which the observer differs from it, and the CLK_CTL cycles of the revolution that by the observer has ended since the
edge before it, if one has. -/
structure HallIn where
  code : Nat
  dt : Nat
  ang : Nat
  rev : Option Nat
  deriving DecidableEq, Repr

/-- A written sector that is read back (R108): its samples, and what its decode meets, as for `DecodeIn`. -/
structure RawIn where
  io : SectorIn
  fault : Bool
  flips : List Nat
  deriving DecidableEq, Repr

/-- A media-cache location that firmware has chosen for a held conventional block, and queued to a hand (R211, R246). -/
structure McPlace where
  ns : Nat
  lba : Nat
  head : HeadId
  track : Nat
  sector : Nat
  deriving DecidableEq, Repr

/-- How the read-back revolution of a calibration point went (R186): whether a sector did not converge, the iterations of
all its sectors, and their number. -/
structure CalRead where
  fail : Bool
  iters : Nat
  sectors : Nat
  deriving DecidableEq, Repr

/-- What channel A has adapted for one set (R180, R183): variant A or C, slot, the words 0 to 32, and the two initial VGA
gains of word 34. -/
structure Adapted where
  varC : Bool
  slot : Fin 64
  words : List Nat
  gains : Nat
  deriving DecidableEq, Repr

/-- How a reference measurement ends (R189): the CLK_AUX cycles counted, no edge on REFCAL_CLK, or REFCAL_V in 20 µV. -/
inductive RefDone
  | clock (count : Nat)
  | noClock
  | volt (v : Nat)
  deriving DecidableEq, Repr

/-- A stripe position that on-the-fly decoding delivered for a reconstruction (R210): the position and its 4,112 bytes. -/
structure StripeRead where
  pos : Fin 64
  bytes : List Nat
  deriving DecidableEq, Repr

/-- A request of the host or a peer to BAR2 (R234): offset, length in bytes, for a write the bytes, and the header. -/
structure WinReq where
  off : Nat
  len : Nat
  data : Option (List Nat)
  hdr : List Nat
  deriving DecidableEq, Repr

/-- An error that the endpoint meets in what it receives (R232): a request of a kind it does not support; a message it
does not use; a poisoned posted write; a failed ECRC; a malformed TLP, flow-control protocol error, receiver overflow or
data link protocol error; the correctable link errors. -/
inductive TlpError
  | unsupported | ignored | poisonedWrite | ecrc | malformed | flowControl | overflow | dataLink
  | receiver | badTlp | badDllp | replayTimeout | replayRollover
  deriving DecidableEq, Repr

/-- What a scrub read takes (R298): a line of core-local memory, buffer store or SDRAM at its home; a hub-cache line by row
and way; a victim-area line. -/
inductive ScrubAt
  | home (ln : Nat)
  | way (row : Nat) (w : Fin 16)
  | area (ln : Nat)
  deriving DecidableEq, Repr

/-- The commands of the device, one per row of the command table. -/
inductive Instr
  /-- POWER_UP: All rails reach range and the on-die power-on reset releases, which starts the device from its reset state. (R399) -/
  | powerUp (lanes : List Nat) (rng : Bool) (nor : Nat)
  /-- CORE_REGULATOR_START: The core regulator controller starts VDD_CORE 1 ms after the group-3 rail monitors report in range. (R399) -/
  | coreRegulatorStart
  /-- VDDQ_ENABLE: The power-up sequencer drives GPIO7 high after VDD_CORE has been in range for 1 ms. (R400) -/
  | vddqEnable
  /-- VDD_CORE_FALL: VDD_CORE falls below 90 % of its set-point, and GPIO7 goes low within 10 µs. (R400) -/
  | vddCoreFall
  /-- BROWN_OUT: VDD_CORE, VDD_SRAM or VDD_IO stays below 85 % for 1 µs, and the device resets as at power-up without vaulting. (R401) -/
  | brownOut (nor : Nat)
  /-- RAIL_OUT_OF_RANGE: A monitored rail leaves ±5 % of nominal and raises REG event bit 3 or 4. (R174) -/
  | railOutOfRange (r : Fin 9) (mv uv : Nat)
  /-- REG_PHASE_FAULT: A regulator phase disagrees with the phase mean by more than 50 % for 100 µs and counts one REG class error. (R174) -/
  | regPhaseFault (p : Fin 4)
  /-- BOOT_ROM_RUN: Core 0 runs the Boot ROM sequence after power-up or an internal reset. (R52) -/
  | bootRomRun (b : BootInput)
  /-- CORE_INSTRUCTION: A Wiloz core executes an RV64IMAC instruction, faulting on illegal, misaligned or out-of-map accesses. (R42) -/
  | coreInstruction (c : CoreId) (short : Bool) (op : CoreOp) (env : RegEnv)
  /-- LR_SC_AMO: A core executes an LR, SC or AMO instruction, which faults on register pages and Boot ROM. (R43) -/
  | lrScAmo (c : CoreId) (op : AtomOp) (dbl : Bool) (rdst rs1 rs2 : Fin 32)
  /-- FENCE_I: A core executes FENCE.I, which makes its own I-cache coherent with written code. (R44) -/
  | fenceI (c : CoreId)
  /-- MACHINE_TIMER_INTERRUPT: The time count reaches GLB_MTCMPc and asserts the machine timer interrupt of core c. (R46) -/
  | machineTimerInterrupt (c : CoreId)
  /-- REGISTER_WRITE: A write to a register that has no row of its own is applied, or is discarded under the width, lock, reserved-encoding and die-presence rules. (R30) -/
  | registerWrite (who : Who) (off : Nat) (size : MemSize) (v : Nat) (env : RegEnv)
  /-- RC_READ: A read of an RC field returns the value and clears it. (R10) -/
  | rcRead (who : Who) (off : Nat) (size : MemSize) (hdr : List Nat)
  /-- PG_EVEN_WRITE: A write to a page's event enables takes effect and delivers any event whose status bit is already set. (R38) -/
  | pgEvenWrite (page : PageNo) (v : Nat)
  /-- PG_EVSTAT_CLEAR: A W1C write clears event status bits, unless a new occurrence arrives in the same cycle. (R38) -/
  | pgEvstatClear (page : PageNo) (v again : Nat)
  /-- EVT_SWSET: A write to EVT_SWSET raises software events that the router takes and delivers in the next cycle. (R36) -/
  | evtSwset (v : Nat)
  /-- EVT_CLAIM: A core reads EVT_CLAIMc and so removes the highest-severity pending event from its pending set. (R38) -/
  | evtClaim (c : CoreId)
  /-- EVT_ROUTE_WRITE: A write to a route entry changes later deliveries and drops pending entries for cores that it clears. (R40) -/
  | evtRouteWrite (n : Fin 768) (v : Nat)
  /-- PG_ERRWIN_WRITE: A write to PG_ERRWIN sets the window and threshold and empties the window. (R41) -/
  | pgErrwinWrite (page : PageNo) (v : Nat)
  /-- LASTING_CLEAR: Clearing PG_ERRCNT.LASTING re-arms promotion and empties the window. (R41) -/
  | lastingClear (page : PageNo)
  /-- ERROR_WINDOW_EXPIRY: An error's age reaches WINDOW, and the error leaves the window count. (R41) -/
  | errorWindowExpiry (page : PageNo)
  /-- PAGE_LOCK: Setting PG_CTL.LOCK makes the page's RWL fields read only until power cycle. (R33) -/
  | pageLock (page : PageNo)
  /-- CORE_RELEASE: Setting GLB_CORERUN bits releases cores from reset at their GLB_COREPCc addresses. (R55) -/
  | coreRelease (v : Nat)
  /-- WATCHDOG_KICK: A write to GLB_WDKICKc restarts the timeout, or expires the watchdog when the value is not 0x0000_A5C3. (R48) -/
  | watchdogKick (c : CoreId) (v : Nat)
  /-- WATCHDOG_EXPIRY: A core watchdog times out, sets EXP, delivers event 0x000 + c as non-maskable to the other live cores and sets CSTS.CFS. (R48) -/
  | watchdogExpiry (c : CoreId)
  /-- ROLLBACK_BURN: GLB_ROLLBACK.GO starts burning the rollback counter to TARGET when the conditions hold. (R47) -/
  | rollbackBurn (target : Fin 256)
  /-- ROLLBACK_BURN_COMPLETE: The rollback burn reaches TARGET, GO clears and GLB event 0x00A is raised. (R47) -/
  | rollbackBurnComplete
  /-- KEY0_REVOKE: A KEY0REV write revokes key-hash slot 0 permanently when the running image was verified by slot 1. (R47) -/
  | key0Revoke
  /-- FLIT_RECEIVE: A Felox flit arrives; a flit that fails its CRC is discarded and replayed, with order kept within each class. (R16) -/
  | flitReceive (l : LinkId) (c : FlitClass) (no : Nat) (crcOk : Bool)
  /-- LINK_TRAINING_TIMEOUT: No Felox width trains within 100 µs, and the link is down. (R16) -/
  | linkTrainingTimeout (l : LinkId)
  /-- LINK_RETRAIN_RETRY: The hub retries training a down Felox link every 10 ms. (R16) -/
  | linkRetrainRetry (l : LinkId)
  /-- LINK_DOWN: A Felox link of a fitted die goes down, with the consequences for arm, buffer or power dies. (R18) -/
  | linkDown (l : LinkId)
  /-- LINK_UP: A Felox link comes up at full or reduced width and raises the matching GLB event. (R17) -/
  | linkUp (l : LinkId) (lanes : Nat)
  /-- SECOND_COPY_REBUILD: The dealer rebuilds lost second copies in another memory as trump-class work. (R18) -/
  | secondCopyRebuild (keep to' : Nat)
  /-- VCM_CURRENT_COMMAND: A VCM drive command arrives at the power die and takes effect at the next PWM period. (R172) -/
  | vcmCurrentCommand (n : ArmId)
  /-- MISSED_CURRENT_COMMANDS: The power die misses two consecutive current-loop commands for a VCM and retracts that arm. (R173) -/
  | missedCurrentCommands (n : ArmId)
  /-- CURRENT_SAMPLE: A current sample arrives at the arm engine from the power die. (R172) -/
  | currentSample (n : ArmId) (i : Int) (slew : Bool)
  /-- REACTION_BUS_SAMPLE: A reaction-bus sample tagged with a wedge number arrives at another arm for its feedforward. (R138) -/
  | reactionBusSample (src dst : ArmId)
  /-- SPEED_STEP_NOTICE: A speed-step start or end notice arrives at an arm die or the hub, and the dealer estimates and calibration runs react to it. (R163) -/
  | speedStepNotice (dest : Fin 5)
  /-- WEDGE_BOUNDARY: A servo field passes under the selected head, and the arm reads its SAM, index, clock lane and burst. (R127) -/
  | wedgeBoundary (n : ArmId) (w : WedgeIn)
  /-- SYNTH_UNLOCK: A second consecutive lane rejection unlocks the synthesiser and inhibits writing. (R62) -/
  | synthUnlock (n : ArmId)
  /-- SYNTH_RELOCK: Two consecutive accepted lanes relock the synthesiser and lift its write inhibit at the next sector boundary. (R62) -/
  | synthRelock (n : ArmId)
  /-- REVOLUTION_INDEX: The arm reaches cell 0 of wedge 0 on its selected head. (R56) -/
  | revolutionIndex (n : ArmId) (pt : CalRead)
  /-- BAND_TABLE_LOAD_REQUEST: Setting ARM_FMTCTL.LOAD requests a band-table load, which runs at once while the heads are unloaded. (R71) -/
  | bandTableLoadRequest (n : ArmId)
  /-- L0_SAMPLE: At a quarter point of the wedge the engine computes the current loop. (R127) -/
  | l0Sample (n : ArmId) (q : Fin 4) (io : LoopIn)
  /-- FF_SOURCE_DROP: Four consecutive missing samples from one source drop that feedforward source. (R138) -/
  | ffSourceDrop (n src : ArmId)
  /-- FF_SOURCE_RESTORE: Sixteen consecutive samples from a dropped source restore it. (R138) -/
  | ffSourceRestore (n src : ArmId)
  /-- SECTOR_BOUNDARY: A sector boundary arrives, at which channel roles, set installs, reader changes and rewrites take effect. (R85) -/
  | sectorBoundary (n : ArmId)
  /-- SECTOR_READ: The sector's samples are taken, and the sync window decides the decode positions. (R68) -/
  | sectorRead (n : ArmId) (io : SectorIn)
  /-- SECTOR_DECODE_DONE: An LDPC decode ends, and the delivery checks decide whether the sector is delivered. (R80) -/
  | sectorDecodeDone (n : ArmId) (x : DecodeIn)
  /-- LADDER_ATTEMPT_DONE: A ladder attempt or rung-7 pass ends, and the ladder delivers, retries, moves rung or stops at the deadline. (R91) -/
  | ladderAttemptDone (n : ArmId) (xs : List AttemptIn)
  /-- SELFTEST_DONE: A channel self-test ends, and the channel returns to service or fails. (R86) -/
  | selftestDone (n : ArmId) (ch : Chan) (pass : Bool)
  /-- SET_SELECT: A write to RCH_SETSEL loads the selected set into the staging buffer and resets the pointer. (R83) -/
  | setSelect (n : ArmId) (ch : Chan) (v : Nat)
  /-- SET_DATA_ACCESS: A read or write of RCH_SETDATA accesses the staging word and advances the pointer. (R83) -/
  | setDataAccess (n : ArmId) (ch : Chan) (w : Option Nat)
  /-- SET_COMMIT: RCH_SETCTL.COMMIT checks the staged set's CRC and installs it at once or at the next sector boundary. (R83) -/
  | setCommit (n : ArmId) (ch : Chan)
  /-- SET_COPY: RCH_SETCTL.COPYA starts copying all sets of channel A into the joker. (R87) -/
  | setCopy (n : ArmId)
  /-- SET_COPY_DONE: The set copy ends and COPYBUSY clears. (R87) -/
  | setCopyDone (n : ArmId)
  /-- HAND_DISPATCH: A hand picks its next media work item by class deadline, trump work first. (R254) -/
  | handDispatch (n : ArmId) (mc : List McPlace)
  /-- WRITE_BURST_START: The arm raises write gate and starts streaming a write burst once write-settled and the mode frames are done. (R100) -/
  | writeBurstStart (n : ArmId)
  /-- PREAMP_FRAME: The arm die sends a serial control frame to the preamplifier. (R114) -/
  | preampFrame (n : ArmId)
  /-- PREAMP_FRAME_RESPONSE: A frame response or its absence ends the frame, with retry or failure. (R117) -/
  | preampFrameResponse (n : ArmId) (x : Option FrameRsp)
  /-- RAW_FRAME_QUEUE: ALK_FRMCTL.GO queues a raw frame, or refuses it. (R119) -/
  | rawFrameQueue (n : ArmId)
  /-- PREAMP_IDLE_TIMEOUT: IDLE µs after the last burst the arm die returns the preamplifier to READ mode. (R101) -/
  | preampIdleTimeout (n : ArmId)
  /-- WRITE_INHIBIT_FIRMWARE: A write to WRP_WGCTL.INHIBIT sets or clears inhibit source 8 from the next sector boundary. (R103) -/
  | writeInhibitFirmware (n : ArmId) (v : Nat)
  /-- ASSIST_DUTY_TRIP: Write gate exceeds DUTY in an aligned 1 ms window, and the assist watchdog trips. (R105) -/
  | assistDutyTrip (n : ArmId)
  /-- ASSIST_ONTIME_TRIP: Write gate stays high beyond ONMAX, and the assist watchdog trips. (R105) -/
  | assistOntimeTrip (n : ArmId)
  /-- RAW_RESULT: A read-after-write decode ends with pass, weak or fail, and copies are released or a rewrite follows. (R109) -/
  | rawResult (n : ArmId) (x : RawIn)
  /-- DEFERRED_VERIFY_READ: With the TRR out of use, the LDR reads back a written track on the next revolution. (R111) -/
  | deferredVerifyRead (n : ArmId) (xs : List RawIn)
  /-- FLT_N_ASSERT: The preamplifier asserts FLT_N, write gate drops, and the arm reads and handles the fault status. (R120) -/
  | fltNAssert (n : ArmId) (status : Nat)
  /-- FLT_N_RELEASE: FLT_N is released, and the fault inhibit lifts. (R120) -/
  | fltNRelease (n : ArmId)
  /-- FLT_N_PERSIST: FLT_N is still asserted 10 ms after the clear, and the arm stays inhibited and reports again. (R120) -/
  | fltNPersist (n : ArmId)
  /-- ARM_DIE_POWER_UP: An arm die comes up, and the arm link starts with the preamplifier in SLEEP and an IDENT read. (R123) -/
  | armDiePowerUp (n : ArmId) (caps : Option Nat)
  /-- SEEK_OWNERSHIP_REQUEST: A write to SRV_CTL.FWOWN requests or returns the seek interface. (R139) -/
  | seekOwnershipRequest (n : ArmId) (v : Nat)
  /-- SEEK_INTERFACE_HANDOVER: The hand ends its present media operation, and OWNED becomes 1. (R139) -/
  | seekInterfaceHandover (n : ArmId)
  /-- SEEK_ORDER: SRV_SEEK.GO orders a seek, loading heads first if parked, or is refused. (R140) -/
  | seekOrder (n : ArmId) (v : Nat)
  /-- HEAD_LOAD_TIMEOUT: No SAM is found within TMO, and the load fails with a retract. (R416) -/
  | headLoadTimeout (n : ArmId)
  /-- ARM_SETTLED: |PES| stays within the window for RDN or WRN wedges, and the arm becomes read- or write-settled. (R142) -/
  | armSettled (n : ArmId)
  /-- SETTLE_TIMEOUT: The arm is not read-settled within TMO, enters hold and reports the seek as failed. (R142) -/
  | settleTimeout (n : ArmId)
  /-- TABLE_SELECT: A write to CTL_TBLSEL loads the selected table into the staging buffer. (R132) -/
  | tableSelect (n : ArmId) (v : Nat)
  /-- TABLE_DATA_ACCESS: An access to CTL_TBLDATA reads or writes the staging word and advances the pointer. (R132) -/
  | tableDataAccess (n : ArmId) (w : Option Nat)
  /-- TABLE_COMMIT: CTL_TBLCTL.COMMIT checks the staged table and its cost, and schedules installation. (R132) -/
  | tableCommit (n : ArmId) (v : Nat)
  /-- CURRENT_LOOP_FAULT: Four coil-model deviations or two missing current samples make a current-loop fault, with inhibit and retract. (R145) -/
  | currentLoopFault (n : ArmId)
  /-- FOLLOWING_ERROR_INHIBIT: |PES| above FELIM for more than FETIME wedges inhibits writing. (R143) -/
  | followingErrorInhibit (n : ArmId)
  /-- FROZEN_FEEDBACK_RETRACT: Sixteen samples with equal RAWSUM order a retract. (R143) -/
  | frozenFeedbackRetract (n : ArmId)
  /-- HOLD_ENTRY: Two missing SAMs or four failed indexes put the loops in hold and inhibit writing. (R146) -/
  | holdEntry (n : ArmId)
  /-- HOLD_EXIT: Four valid samples during hold resume track-following. (R146) -/
  | holdExit (n : ArmId)
  /-- FEEDBACK_LOSS_RETRACT: Eight missing SAMs or sixteen failed indexes order a retract. (R146) -/
  | feedbackLossRetract (n : ArmId)
  /-- CAPTURE_START: CTL_CAPCTL.GO starts a capture. (R151) -/
  | captureStart (n : ArmId) (v : Nat)
  /-- CAPTURE_DONE: The capture reaches CAPLEN samples, sets DONE and raises event bit 5. (R151) -/
  | captureDone (n : ArmId)
  /-- SPINDLE_START: SPN_CTL.START starts or catches the spindle, or is refused. (R157) -/
  | spindleStart (v hall : Nat)
  /-- SPINDLE_STOP: SPN_CTL.STOP sets target 5: retract all arms and brake to standstill. (R163) -/
  | spindleStop (v : Nat)
  /-- HALL_EDGE: A Hall edge arrives and drives commutation, observer checks and handover. (R158) -/
  | hallEdge (h : HallIn)
  /-- ATSPEED_REACHED: Speed stays in band for 50 revolutions, and ATSPEED becomes 1. (R159) -/
  | atspeedReached
  /-- SPIN_START_TIMEOUT: No handover or target step within TMO of START, so phases go off and the start fails. (R159) -/
  | spinStartTimeout
  /-- LOSS_OF_SYNC: The observer breaks its angle, rate or flux limits, and the spindle returns to six-step or coasts. (R161) -/
  | lossOfSync (ang acc flux : Nat)
  /-- FOC_REACQUIRE: Twelve agreeing edges after loss of synchronism resume FOC. (R161) -/
  | focReacquire
  /-- DEALER_GOVERNOR_TICK: Every 100 ms the dealer computes DEMAND and BREACH and writes them to the pace governor. (R256) -/
  | dealerGovernorTick
  /-- PACE_GOVERNOR_DECISION: On each DEMAND sample the governor decides at most one step change. (R164) -/
  | paceGovernorDecision
  /-- RAMP_END: The ramp reaches its target, the end notice is sent and DWELL starts. (R165) -/
  | rampEnd
  /-- STEPLIM_WRITE: A write to SPN_STEPLIM sets MIN or MAX or is discarded. (R162) -/
  | steplimWrite (v : Nat)
  /-- CHOPPER_ON: VHOLD rises above ON while decelerating, and BRK_SW switches on. (R166) -/
  | chopperOn (v : Nat)
  /-- CHOPPER_OFF: VHOLD falls below OFF, and BRK_SW switches off. (R166) -/
  | chopperOff (v : Nat)
  /-- CHOPPER_FAULT: The chopper shows no current for 20 µs, or current while off, and a chopper fault is declared. (R166) -/
  | chopperFault
  /-- LOW_SIDE_SHORT: VHOLD rises above SHORT with a faulted chopper, and the low-side FETs turn on. (R166) -/
  | lowSideShort (v : Nat)
  /-- LOW_SIDE_SHORT_RELEASE: VHOLD falls below RELEASE, and the spindle returns to FOC. (R166) -/
  | lowSideShortRelease (v : Nat)
  /-- OUTPUT_DISCONNECT: VHOLD rises above DISC, outputs go high impedance and every arm is retracted. (R166) -/
  | outputDisconnect (v : Nat)
  /-- OUTPUT_RECONNECT: VHOLD falls below RECON, and the outputs reconnect. (R166) -/
  | outputReconnect (v : Nat)
  /-- POWER_LOSS_DETECT: V12 or V5 stays below threshold for DEB, and the power-loss sequence runs. (R168) -/
  | powerLossDetect (v12 v5 : Nat)
  /-- SPINDLE_BELOW_VAULT_SPEED: The spindle falls below 3,000 rpm in vault mode, and vault mode ends. (R168) -/
  | spindleBelowVaultSpeed
  /-- VAULT_FLUSH_COMPLETE: The hub reports the flush complete, and the power die ends vault mode. (R168) -/
  | vaultFlushComplete
  /-- SUPPLY_RETURN: V12 and V5 stay above threshold for 10 ms in vault mode, and normal operation resumes after the flush. (R170) -/
  | supplyReturn
  /-- RETRACT_ORDER: A retract order for an arm arrives from a unit or BRK_RETCTL, and the full-voltage phase starts. (R171) -/
  | retractOrder (n : ArmId)
  /-- RETRACT_PHASE_END: RETT ms elapse, and the retract drops to quarter voltage. (R171) -/
  | retractPhaseEnd (n : ArmId)
  /-- RETRACT_COMPLETE: HOLDT ms elapse, the bridge turns off and the arm is parked. (R171) -/
  | retractComplete (n : ArmId)
  /-- VCM_TRIP: VCM current exceeds ITRIP, and the bridge is cut for the PWM period. (R172) -/
  | vcmTrip (n : ArmId)
  /-- OPEN_COIL: Eight L0 samples show too little current, and the bridge is turned off. (R173) -/
  | openCoil (n : ArmId)
  /-- CHARGE_PUMP_FAULT: The charge pump leaves regulation, and all MA outputs go to 0 V. (R173) -/
  | chargePumpFault
  /-- MA_OVERCURRENT: An MA output over-currents and goes to 0 V until re-enabled. (R173) -/
  | maOvercurrent (n : ArmId)
  /-- CAL_INTERVAL_TRIGGER: MAXINT hours pass since the last CH run, and CH and SRV runs are triggered. (R181) -/
  | calIntervalTrigger (n : ArmId)
  /-- CAL_ORDER: CAL_CMD.GO orders calibration runs, or is refused. (R182) -/
  | calOrder (n : ArmId) (v : Nat)
  /-- CAL_RUN_START: A pending run starts once its conditions hold. (R182) -/
  | calRunStart (n : ArmId)
  /-- CH_ADAPT_END: NSLOT slots complete or TMAX elapses, and the plausibility check installs accepted sets. (R183) -/
  | chAdaptEnd (n : ArmId) (sets : List Adapted)
  /-- SRV_CAL_FIT: 4,096 wedges are collected, and the coil model is fitted and checked. (R185) -/
  | srvCalFit (n : ArmId) (rcoil lcoil : Nat)
  /-- SRV_CAL_TIMEOUT: TMAX elapses before collection ends, and the SRV run is abandoned. (R185) -/
  | srvCalTimeout (n : ArmId)
  /-- REF_CLOCK_MEASURE: GLB_REFCTL.CGO counts CLK_AUX over REFCAL_CLK cycles. (R189) -/
  | refClockMeasure
  /-- REF_VOLTAGE_MEASURE: GLB_REFCTL.VGO converts REFCAL_V. (R189) -/
  | refVoltageMeasure
  /-- REF_MEASURE_DONE: A reference measurement completes, or ends with NOCLK after 10 ms. (R189) -/
  | refMeasureDone (r : RefDone)
  /-- CAL_RESULT_SELECT: A write to CAL_RESSEL selects a result set and resets the pointer. (R191) -/
  | calResultSelect (n : ArmId) (v : Nat)
  /-- CAL_RESULT_READ: A read of CAL_RESDATA returns a result word and advances the pointer. (R191) -/
  | calResultRead (n : ArmId)
  /-- ZONE_TABLE_LOAD: ZON_CTL.LOAD reads the namespace table and counts spares, or is rejected. (R195) -/
  | zoneTableLoad
  /-- ZONE_RESET: Zone Reset, once all accepted writes are verified, empties the zone. (R199) -/
  | zoneReset (zi : Nat)
  /-- ZONE_FINISH: Zone Finish completes the last stripe and sets the zone Full. (R199) -/
  | zoneFinish (zi : Nat)
  /-- ZONE_OPEN: Zone Open takes a context or fails on MAR, MOR or context shortage. (R196) -/
  | zoneOpen (zi : Nat)
  /-- ZONE_CLOSE: Zone Close closes the zone and keeps its context. (R199) -/
  | zoneClose (zi : Nat)
  /-- ZONE_FINISH_BY_DEVICE: SLIPS reaches SLIPFIN, and the zone engine finishes the zone with ZFC. (R203) -/
  | zoneFinishByDevice (zi : Nat)
  /-- RELOCATION_ORDER: ZON_RELOC.GO orders a relocation, or is refused. (R204) -/
  | relocationOrder (v : Nat)
  /-- RELOCATION_START: The next queued relocation takes a spare and starts copying, or finds no spare. (R204) -/
  | relocationStart
  /-- RELOCATION_COMMIT: The copy ends, and the zone record is switched to the spare and journaled. (R204) -/
  | relocationCommit
  /-- ZONE_RECONSTRUCT: Rung 10 asks the zone engine to reconstruct a sector from its stripe. (R210) -/
  | zoneReconstruct (n : ArmId)
  /-- ZONE_RECONSTRUCT_DONE: The reconstruction ends with a delivered sector or without result. (R210) -/
  | zoneReconstructDone (n : ArmId) (read : List StripeRead)
  /-- MEDIA_CACHE_ENTRY_COMPLETE: Firmware frees a bucket entry, and the held rewrite entry is completed. (R213) -/
  | mediaCacheEntryComplete
  /-- SCAN_START: ZON_SCANn.GO starts a background scan of a zone. (R214) -/
  | scanStart (n : ArmId) (v : Nat)
  /-- SCAN_END: The scan completes or ends early, BUSY clears and ZON event bit 9 is raised. (R214) -/
  | scanEnd (n : ArmId)
  /-- DL_UP: The PCIe data link comes up. (R238) -/
  | dlUp (width : Nat) (rev : Bool)
  /-- DL_DOWN: The PCIe data link is lost or disabled, with the NVMe Controller Reset scope. (R238) -/
  | dlDown
  /-- HOT_RESET: A Hot Reset is received and applies the controller reset scope, then retrains. (R238) -/
  | hotReset
  /-- LINK_RETRAIN: The link changes speed or width by host direction or error retraining. (R218) -/
  | linkRetrain (speed width : Nat)
  /-- ASPM_L1_ENTRY: IDLE µs without pending TLPs, and the endpoint requests L1, then L1.2 if enabled. (R223) -/
  | aspmL1Entry
  /-- LTR_SEND: A change of HEP_ASPMCTL.LTRVAL sends an LTR message. (R223) -/
  | ltrSend (v : Nat)
  /-- CONFIG_REQUEST: A configuration request reads or writes configuration space, including D-state changes. (R220) -/
  | configRequest (off : Nat) (w : Option (Nat × Fin 16))
  /-- HOST_BAR0_REQUEST: A host memory request to BAR0 is handled by offset or answered as Unsupported Request. (R224) -/
  | hostBar0Request (off n : Nat) (data : Option Nat) (env : RegEnv)
  /-- DOORBELL_WRITE: A host doorbell write updates a queue tail or head, or is recorded or discarded. (R241) -/
  | doorbellWrite (k : Fin 258) (v : Nat)
  /-- CC_ENABLE: The host sets CC.EN, and RDY follows once FWRDY is set. (R241) -/
  | ccEnable (v : Nat)
  /-- CC_DISABLE: The host clears CC.EN, which applies the NVMe Controller Reset scope. (R365) -/
  | ccDisable
  /-- CC_SHUTDOWN: The host writes CC.SHN, and the dealer stops fetching and drains. (R260) -/
  | ccShutdown (abrupt : Bool)
  /-- SHUTDOWN_COMPLETE: All accepted writes are verified or vaulted, and SHST becomes 0b10. (R260) -/
  | shutdownComplete
  /-- WINDOW_REQUEST: A host or peer request to BAR2 is carried out through a window or is unsupported. (R234) -/
  | windowRequest (r : WinReq)
  /-- WINDOW_COMMIT: HEP_WINCOMMIT.GO checks the staged windows and takes the commit point. (R235) -/
  | windowCommit
  /-- WINDOW_COMMIT_INSTALL: Requests before the commit point are translated, and the new mapping is installed. (R235) -/
  | windowCommitInstall
  /-- HOST_ACCESS_LOCK: Setting GLB_HOSTACC.LOCK closes the vendor pages to the host until power cycle. (R225) -/
  | hostAccessLock
  /-- COMPLETION_RECEIVED: A completion for a device read arrives, is used, fails the read or is discarded as unexpected. (R230) -/
  | completionReceived (tag : Nat) (status : Fin 3) (ep : Bool) (bytes hdr : List Nat)
  /-- COMPLETION_TIMEOUT: A device read exceeds its completion timeout and fails. (R229) -/
  | completionTimeout (tag : Nat)
  /-- RECEIVED_TLP_ERROR: A malformed, ECRC-failed, poisoned or unsupported TLP is handled and reported. (R232) -/
  | receivedTlpError (e : TlpError) (hdr : List Nat)
  /-- SUBMISSION_FETCH: The dealer fetches a submission entry by round robin and allocates a context. (R242) -/
  | submissionFetch
  /-- NVM_READ: A Read command is admitted, looked up in the caches and dispatched to its hand. (R248) -/
  | nvmRead (i : Nat)
  /-- NVM_WRITE: A Write command is admitted and goes to the budget check. (R248) -/
  | nvmWrite (i : Nat)
  /-- WRITE_ZEROES: A Write Zeroes command is admitted and handled as a write. (R248) -/
  | writeZeroes (i : Nat)
  /-- ZONE_APPEND: A Zone Append command is admitted and assigned its LBA at WP on acceptance. (R197) -/
  | zoneAppend (i : Nat)
  /-- FLUSH: A Flush completes at once with VWC = 0, or after verification with VWC = 1. (R250) -/
  | flush (i : Nat)
  /-- ABORT: The dealer applies an Abort to its target and passes it to firmware as kind 2. (R247) -/
  | abort (i : Nat)
  /-- FIRMWARE_PATH_COMMAND: A command outside the hardware path is appended to the firmware queue. (R245) -/
  | firmwarePathCommand (i : Nat)
  /-- SET_FEATURES_TIMESTAMP: Set Features Timestamp appends a host timestamp record. (R332) -/
  | setFeaturesTimestamp (i : Nat) (data : List Nat)
  /-- GET_LOG_PAGE_C8: Get Log Page 0xC8 returns the event-recorder header and records from the requested SEQ. (R339) -/
  | getLogPageC8 (i : Nat) (spans : List (Nat × Nat))
  /-- FIRMWARE_COMPLETION: A write to CMD_FWDONE completes a firmware-path command. (R245) -/
  | firmwareCompletion (v : Nat)
  /-- FIRMWARE_READY: Setting CMD_CTL.FWRDY lets CSTS.RDY follow CC.EN and starts the billing tick the first time. (R241) -/
  | firmwareReady
  /-- TOKEN_BUCKET_TICK: Each millisecond the bucket levels rise and waiting commands are admitted. (R257) -/
  | tokenBucketTick
  /-- BUDGET_CHECK_PASS: A waiting write finds budget and mirror room, and passes its budget check. (R249) -/
  | budgetCheckPass (places : List (Nat × Nat))
  /-- WRITE_ACCEPT: The second copy is acknowledged with the first copy complete, and the write is accepted. (R248) -/
  | writeAccept (i : Nat)
  /-- BILLING_TICK: The tick timer reaches SEC, and a billing boundary snapshots the counters. (R263) -/
  | billingTick
  /-- BILLING_LATCH: TEN_LATCH.GO makes a billing boundary now. (R263) -/
  | billingLatch
  /-- BANK_WRITE_DONE: A snapshot write ends, the bank becomes UNREAD and a deferred boundary runs. (R264) -/
  | bankWriteDone
  /-- BANK_ACK: A write to TEN_ACK returns banks to EMPTY. (R264) -/
  | bankAck (v : Nat)
  /-- NAMESPACE_BIND: A write to CRY_NSBIND binds a namespace to a key slot, or is refused. (R315) -/
  | namespaceBind (v : Nat)
  /-- CACHE_RECONFIGURE: A write to HCC_WAYCFG cleans and invalidates the cache and applies new geometry. (R271) -/
  | cacheReconfigure (v : Nat)
  /-- WAY_LOCK: A write to HCC_LOCK.MASK locks or unlocks ways, or is discarded. (R274) -/
  | wayLock (v : Nat)
  /-- CZERO: A write to HCC_CZERO allocates a zeroed dirty line. (R276) -/
  | czero (v : Nat)
  /-- RANGE_INVALIDATE: Range operation 0 drops the lines of the range. (R277) -/
  | rangeInvalidate
  /-- RANGE_CLEAN: Range operation 1 writes dirty lines of the range to their home. (R277) -/
  | rangeClean
  /-- RANGE_CLEANINV: Range operation 2 cleans and then invalidates the range. (R277) -/
  | rangeCleaninv
  /-- RANGE_ZERO: Range operation 3 zeroes every line of the range. (R277) -/
  | rangeZero
  /-- LOCKFILL: Range operation 4 fills a locked way with a 4 MiB block. (R275) -/
  | lockfill (way : Fin 16)
  /-- LOCKZERO: Range operation 5 zero-fills a locked way with a 4 MiB block. (R275) -/
  | lockzero (way : Fin 16)
  /-- RANGE_OP_DONE: A range operation ends, setting DONE and ERR as needed. (R277) -/
  | rangeOpDone
  /-- VICTIM_OFFER: An evicted line enters the victim buffer and is offered to the next level. (R281) -/
  | victimOffer (k : Fin 8) (repl : Option Nat)
  /-- VICTIM_ACCEPTED: The next level acknowledges a victim line, and its entry is freed. (R281) -/
  | victimAccepted (k : Fin 8)
  /-- BUF_CFG_WRITE: A write to BUF_CFGd or BUF_MIRd changes the areas and invalidates the victim area, or is discarded. (R278) -/
  | bufCfgWrite (mirror : Bool) (b : BufId) (v : Nat)
  /-- SCRUB_READ: The scrubber reads a line, corrects, classifies or poisons it. (R298) -/
  | scrubRead (p : ScrubAt) (flips : List (Nat × Nat × Nat))
  /-- SCRUB_PASS_END: A scrub loop completes its pass and raises MEP event bit 3 or 4. (R298) -/
  | scrubPassEnd (sdram : Bool)
  /-- COPY_RESTORE: A poisoned copy of accepted data is restored from the other copy as trump work. (R299) -/
  | copyRestore (a : Nat)
  /-- TEST_RAW_WRITE: MEP test operation 0 writes one word raw with the given check bits. (R302) -/
  | testRawWrite
  /-- TEST_RAW_READ: MEP test operation 1 reads one word and its check bits raw. (R302) -/
  | testRawRead
  /-- SDRAM_FILL: DRC_FILLCTL.GO starts the fill engine writing zero lines, or is refused. (R295) -/
  | sdramFill (len : Nat)
  /-- SDRAM_FILL_DONE: The fill completes, DONE sets and MAPLOCK becomes 1. (R295) -/
  | sdramFillDone
  /-- REFRESH_RATE_CHANGE: An SDRAM device reports a refresh-rate change in MR4, and the controller doubles or restores refresh. (R297) -/
  | refreshRateChange (channel : Fin 2) (doubled : Bool)
  /-- SELF_REFRESH_ENTRY: In PS3, SDRAM enters self-refresh after 10 µs without a pending access. (R356) -/
  | selfRefreshEntry
  /-- SEALED_UNIT_DECRYPTED: The last block of a sealed unit is decrypted and its tag checked. (R312) -/
  | sealedUnitDecrypted (i : Nat)
  /-- KMU_LOADWRAP: KMU operation 0 unwraps a blob under a KEK and loads it into a slot. (R318) -/
  | kmuLoadwrap (who : Who) (v : Nat)
  /-- KMU_LOADVEROM: KMU operation 1 loads a slot from Verom data-key slots. (R318) -/
  | kmuLoadverom (who : Who) (v : Nat)
  /-- KMU_GENERATE: KMU operation 2 draws a key, loads it and returns it wrapped. (R318) -/
  | kmuGenerate (who : Who) (v : Nat)
  /-- KMU_CLEAR: KMU operation 3 overwrites a slot with DRBG output and marks it empty. (R318) -/
  | kmuClear (who : Who) (v : Nat)
  /-- KMU_REVOKE: KMU operation 4 burns a Verom slot's usage bits to revoked. (R318) -/
  | kmuRevoke (who : Who) (v : Nat)
  /-- KMU_OP_COMPLETE: A KMU operation ends with DONE or an error code. (R319) -/
  | kmuOpComplete (drawn : List Nat)
  /-- KMU_LOCK_ACQUIRE: A write of a requester's owner code to a free KMU_LOCK makes it the owner. (R321) -/
  | kmuLockAcquire (who : Who) (v : Fin 15)
  /-- KMU_LOCK_RELEASE: The owner writes 0 to KMU_LOCK, which frees it and zeroes the blobs. (R321) -/
  | kmuLockRelease (who : Who)
  /-- KMU_LOCK_EXPIRY: A lock held for 10 ms expires. (R322) -/
  | kmuLockExpiry
  /-- ENTROPY_SAMPLE: An entropy sample passes or fails the continuous health tests. (R324) -/
  | entropySample (ok : Bool)
  /-- DRBG_RESEED: CRY_RNGCTL.RESEED reseeds the DRBG. (R324) -/
  | drbgReseed
  /-- DRBG_RESEED_DUE: The DRBG reaches its reseed interval, reseeds, or enters its error state after twice the interval. (R324) -/
  | drbgReseedDue
  /-- DRBG_REINIT: CRY_RNGCTL.REINIT reruns start-up tests and instantiates the DRBG. (R324) -/
  | drbgReinit (pass : Bool)
  /-- LOG_SCAN: The recorder reads the counter and record areas and classifies every slot. (R334) -/
  | logScan
  /-- LOG_SCAN_DONE: The scan ends, READY sets and the 0x0300 record is appended. (R334) -/
  | logScanDone
  /-- LOG_APPEND: The recorder programs the next queued record into a free slot or by block copy. (R331) -/
  | logAppend
  /-- NOR_OPERATION_DONE: A NOR program or erase ends, and the mark is programmed or a failure is retried. (R340) -/
  | norOperationDone (ok : Bool)
  /-- COUNTER_ENTRY_TICK: After 60 s of powered time the recorder writes a counter entry. (R329) -/
  | counterEntryTick
  /-- COMPAT_MODE_FIX: Writing LOG_CTL.MODE = 1 fixes WZ320 compatibility mode and appends 0x0302. (R336) -/
  | compatModeFix
  /-- LOG_READ: A write to LOG_RDSEQ places the next record at or above SEQ in LOG_RDDATA. (R338) -/
  | logRead (v : Nat)
  /-- LOG_OPSEC_READ: A read of LOG_OPSECL latches LOG_OPSECH. (R329) -/
  | logOpsecRead
  /-- FIRMWARE_LOG_APPEND: LOG_FWCTL.GO queues a firmware record, or refuses a code below 0x1000. (R335) -/
  | firmwareLogAppend (v : Nat)
  /-- NOR_ACCESS_REFUSED: A program or erase touching the log partition or its directory fields is refused. (R337) -/
  | norAccessRefused (a n : Nat) (prog : Option (List Nat))
  /-- THERMAL_CONVERSION: Every 1 ms all sensors convert, and validity, substitutes and thresholds are evaluated. (R343) -/
  | thermalConversion (ns : List Nat)
  /-- THROTTLE_STEP_RELEASE: The release margin holds for 1,000 conversions, and one state is left. (R349) -/
  | throttleStepRelease (which : Fin 3)
  /-- SENSOR_EXCLUDE: A sensor invalid for EXCLT seconds is excluded until power cycle. (R344) -/
  | sensorExclude (n : Fin 48)
  /-- HOLD_RELEASE: The sensor is valid for 16 conversions, and HOLD clears. (R348) -/
  | holdRelease
  /-- HOLD_RELEASE_FIRMWARE: THM_THRCTL.HOLDREL clears HOLD. (R348) -/
  | holdReleaseFirmware
  /-- SHUTDOWN_LATCH: Two conversions at TCRIT, or with no valid sensor, latch shutdown with retract, link stop and clock stop. (R353) -/
  | shutdownLatch
  /-- POWER_STATE_ORDER: PWS_PSCTL.GO starts a transition through the intermediate states, or is refused. (R357) -/
  | powerStateOrder (v hall : Nat)
  /-- BUFFER_SAVE_DONE: The buffer dies' areas and flags are saved to SDRAM, and the dies are gated. (R359) -/
  | bufferSaveDone
  /-- BUFFER_RESTORE_DONE: The save region is restored to the buffer dies, and redirection ends. (R359) -/
  | bufferRestoreDone
  /-- POWER_STATE_REACHED: A transition reaches its target state and raises PWS event bit 0. (R357) -/
  | powerStateReached (hall : Nat)
  /-- PS4_WAKE: An event delivered to a core in PS4 ungates cores and fabric, and the device enters PS3. (R356) -/
  | ps4Wake
  /-- PERST_ASSERT: PERST_N is asserted for at least 1 µs, and quiesce-and-vault starts. (R362) -/
  | perstAssert
  /-- QUIESCE_TIMEOUT: Quiesce exceeds 1.5 s, QLATE is set and event bit 5 is raised. (R363) -/
  | quiesceTimeout
  /-- INTERNAL_RESET: Quiesce steps end, and the hub resets and arm and buffer dies are power-cycled. (R362) -/
  | internalReset (lanes : List Nat)
  /-- VAULT_FLUSH_START: A flush starts an epoch, writing journal and data entries to the vault areas. (R379) -/
  | vaultFlushStart
  /-- VAULT_END_MARK: All earlier entries of an area pass read-after-write, and the end mark is written. (R379) -/
  | vaultEndMark (a : Fin 2)
  /-- VAULT_REPLAY: GLB_VLTCTL.REPLAY runs the replay engine over the retention index and vault areas. (R381) -/
  | vaultReplay (bad places : List (Nat × Nat))
  /-- REPLAY_DONE: Replay sets CSN, INC and DONE, and raises GLB event 0x00E. (R381) -/
  | replayDone
  /-- VAULT_RELEASE: GLB_VLTCTL.RELEASE declares held entries consumed. (R382) -/
  | vaultRelease
  /-- VAULT_ZONES_RESET: All replayed blocks are verified and the journal is consumed, so the vault zones are reset and EMPTY set. (R382) -/
  | vaultZonesReset
  /-- JOURNAL_TAIL_WRITE: A write to GLB_JNLTAIL advances the tail, or is discarded when outside the span. (R378) -/
  | journalTailWrite (v : Nat)
  /-- TEST_UNLOCK_KEY: A write to TST_UNLOCK arms, unlocks or is refused. (R387) -/
  | testUnlockKey (who : Who) (v : Nat)
  /-- TEST_UNLOCK_WINDOW_EXPIRY: The 1 ms window after the first key ends without a second key. (R387) -/
  | testUnlockWindowExpiry
  /-- TEST_RELOCK: TST_CTL.RELOCK relocks the page and resets every perturbation. (R389) -/
  | testRelock
  /-- TEST_FUSE_BURN: TST_CTL.DISFUSE burns the test-disable fuse and relocks. (R388) -/
  | testFuseBurn
  /-- SERVO_JITTER_SET: A write to TST_SRVJIT sets jitter on parked arms, or is discarded. (R391) -/
  | servoJitterSet (v : Nat)
  /-- DMA_BACKPRESSURE_PERIOD: Each DMA back-pressure period starts a hold and releases held TLPs in order when it ends. (R390) -/
  | dmaBackpressurePeriod (hold : Bool)
  /-- COMPLETION_DELAY_EXPIRY: A delayed completion entry's DELAY elapses, and it leaves the ordered queue. (R390) -/
  | completionDelayExpiry
  /-- JTAG_TAP_RESET: The TAP resets and selects IDCODE. (R394) -/
  | jtagTapReset
  /-- JTAG_IDCODE: Instruction 0x01 selects the 32-bit IDCODE register. (R394) -/
  | jtagIdcode
  /-- JTAG_SAMPLE_PRELOAD: Instruction 0x02 selects the boundary register for sample and preload. (R394) -/
  | jtagSamplePreload (balls preload : Nat)
  /-- JTAG_EXTEST: Instruction 0x03 drives the boundary register, retracts all arms, coasts the spindle and stops the endpoint. (R395) -/
  | jtagExtest
  /-- JTAG_CLAMP: Instruction 0x04 clamps outputs with bypass selected, with the same stop actions. (R395) -/
  | jtagClamp
  /-- JTAG_HIGHZ: Instruction 0x05 sets outputs to high impedance, with the same stop actions. (R395) -/
  | jtagHighz
  /-- JTAG_THMSTAT: Instruction 0x10 reads THM_STAT, also while the shutdown latch holds. (R394) -/
  | jtagThmstat
  /-- JTAG_BYPASS: Instruction 0xFF or any unlisted code selects bypass. (R394) -/
  | jtagBypass (code : Fin 256)
  /-- ACTIVITY_STRETCH_EXPIRY: The 50 ms stretch of the GPIO0 activity indicator ends. (R400) -/
  | activityStretchExpiry
  /-- SPINDLE_STANDSTILL: A stop (target 5) or a coast (target 6) reaches standstill, the end notice is sent and the spindle state becomes stopped. (R163) -/
  | spindleStandstill
  /-- READ_DEADLINE_EXPIRY: A read's media deadline passes while its work waits for a seek, a relock or a head reload, and the read ends at rung 11 or with Unrecovered Read Error. (R142) -/
  | readDeadlineExpiry (n : ArmId)
  /-- PERST_DEASSERT: PERST_N is deasserted, and PCIe link training and configuration responses start once the internal reset has ended. (R363) -/
  | perstDeassert
  deriving DecidableEq, Repr

end Sys2Proof
end

