-- ==== Sys2Proof/Decode.lean ====
section
/-!
DEFINITION. Decode.lean: commands that a word of the opcode table spells. The table's rows are operations and events of the
device; every row's list of fields is empty, so no row gives a word, and no word spells a command.
-/
namespace Sys2Proof

/-- The command that a word spells by the table's bits: the table gives bits for none. -/
def decodeTableWord (_nbits _w : Nat) : Option Instr := none

end Sys2Proof
end

