-- ==== Sys2Proof/Machine/Crc.lean ====
section
/-!
DEFINITION. Machine/Crc.lean: the two cyclic redundancy codes the device computes: CRC-32C over the bytes of tables,
sets and records (R70, R82, R130, R378), and the CRC-8 of arm-link frames (R115).
-/
namespace Sys2Proof.Machine

/-- One bit step of the reflected CRC-32C register. -/
def crc32cBit (c : Nat) : Nat := if c % 2 = 1 then (c / 2) ^^^ 0x82F63B78 else c / 2

/-- One byte into the CRC-32C register. -/
def crc32cByte (c b : Nat) : Nat :=
  let x := c ^^^ (b % 256)
  crc32cBit (crc32cBit (crc32cBit (crc32cBit (crc32cBit (crc32cBit (crc32cBit (crc32cBit x)))))))

/-- CRC-32C (Castagnoli) of a list of bytes. -/
def crc32c (bs : List Nat) : Nat := bs.foldl crc32cByte 0xFFFFFFFF ^^^ 0xFFFFFFFF

/-- One bit, most significant first, into the CRC-8 register: polynomial x^8 + x^2 + x + 1 (R115). -/
def crc8Bit (c : Nat) (b : Bool) : Nat :=
  let top := c.testBit 7 != b
  let s := c * 2 % 256
  if top then s ^^^ 0x07 else s

/-- The low `n` bits of `v`, most significant first. -/
def msbBits (v : Nat) : Nat → List Bool
  | 0 => []
  | n + 1 => v.testBit n :: msbBits v n

/-- CRC-8 of the low `n` bits of `v` in transmitted order, initial value 0 (R115). -/
def crc8 (v n : Nat) : Nat := (msbBits v n).foldl crc8Bit 0

/-- The words of a set or table as bytes, each least significant byte first (R82). -/
def wordBytes (ws : List Nat) : List Nat := ws.flatMap (fun w => leBytes w 4)

end Sys2Proof.Machine
end

