-- ==== Sys2Proof/Machine/Sha.lean ====
section
/-!
DEFINITION. Machine/Sha.lean: SHA-384, with which Boot ROM checks images (R50, R51), as FIPS 180-4 defines it.
-/
namespace Sys2Proof.Machine

/-- Round constants 0 to 19. -/
def shaK0 : List Nat :=
  [
    0x428a2f98d728ae22, 0x7137449123ef65cd, 0xb5c0fbcfec4d3b2f, 0xe9b5dba58189dbbc,
    0x3956c25bf348b538, 0x59f111f1b605d019, 0x923f82a4af194f9b, 0xab1c5ed5da6d8118,
    0xd807aa98a3030242, 0x12835b0145706fbe, 0x243185be4ee4b28c, 0x550c7dc3d5ffb4e2,
    0x72be5d74f27b896f, 0x80deb1fe3b1696b1, 0x9bdc06a725c71235, 0xc19bf174cf692694,
    0xe49b69c19ef14ad2, 0xefbe4786384f25e3, 0x0fc19dc68b8cd5b5, 0x240ca1cc77ac9c65 ]

/-- Round constants 20 to 39. -/
def shaK1 : List Nat :=
  [
    0x2de92c6f592b0275, 0x4a7484aa6ea6e483, 0x5cb0a9dcbd41fbd4, 0x76f988da831153b5,
    0x983e5152ee66dfab, 0xa831c66d2db43210, 0xb00327c898fb213f, 0xbf597fc7beef0ee4,
    0xc6e00bf33da88fc2, 0xd5a79147930aa725, 0x06ca6351e003826f, 0x142929670a0e6e70,
    0x27b70a8546d22ffc, 0x2e1b21385c26c926, 0x4d2c6dfc5ac42aed, 0x53380d139d95b3df,
    0x650a73548baf63de, 0x766a0abb3c77b2a8, 0x81c2c92e47edaee6, 0x92722c851482353b ]

/-- Round constants 40 to 59. -/
def shaK2 : List Nat :=
  [
    0xa2bfe8a14cf10364, 0xa81a664bbc423001, 0xc24b8b70d0f89791, 0xc76c51a30654be30,
    0xd192e819d6ef5218, 0xd69906245565a910, 0xf40e35855771202a, 0x106aa07032bbd1b8,
    0x19a4c116b8d2d0c8, 0x1e376c085141ab53, 0x2748774cdf8eeb99, 0x34b0bcb5e19b48a8,
    0x391c0cb3c5c95a63, 0x4ed8aa4ae3418acb, 0x5b9cca4f7763e373, 0x682e6ff3d6b2b8a3,
    0x748f82ee5defb2fc, 0x78a5636f43172f60, 0x84c87814a1f0ab72, 0x8cc702081a6439ec ]

/-- Round constants 60 to 79. -/
def shaK3 : List Nat :=
  [
    0x90befffa23631e28, 0xa4506cebde82bde9, 0xbef9a3f7b2c67915, 0xc67178f2e372532b,
    0xca273eceea26619c, 0xd186b8c721c0c207, 0xeada7dd6cde0eb1e, 0xf57d4f7fee6ed178,
    0x06f067aa72176fba, 0x0a637dc5a2c898a6, 0x113f9804bef90dae, 0x1b710b35131c471b,
    0x28db77f523047d84, 0x32caab7b40c72493, 0x3c9ebe0a15c9bebc, 0x431d67c49c100d4c,
    0x4cc5d4becb3e42b6, 0x597f299cfc657e2a, 0x5fcb6fab3ad6faec, 0x6c44198c4a475817 ]

/-- The round constants of SHA-512 and SHA-384. -/
def shaK : List Nat := shaK0 ++ shaK1 ++ shaK2 ++ shaK3

/-- The initial hash value of SHA-384. -/
def shaStart : List Nat :=
  [
    0xcbbb9d5dc1059ed8, 0x629a292a367cd507, 0x9159015a3070dd17, 0x152fecd8f70e5939,
    0x67332667ffc00b31, 0x8eb44a8768581511, 0xdb0c2e0d64f98fa7, 0x47b5481dbefa4fa4 ]

/-- Rotate a 64-bit number right. -/
def shaRotr (x n : Nat) : Nat := x / 2 ^ n + x % 2 ^ n * 2 ^ (64 - n)

/-- The next word of the message schedule, from the last 16 words, newest first. -/
def shaNext (ws : List Nat) : Nat :=
  let w15 := ws.getD 14 0
  let w2 := ws.getD 1 0
  let s0 := shaRotr w15 1 ^^^ shaRotr w15 8 ^^^ (w15 / 2 ^ 7)
  let s1 := shaRotr w2 19 ^^^ shaRotr w2 61 ^^^ (w2 / 2 ^ 6)
  (s1 + ws.getD 6 0 + s0 + ws.getD 15 0) % 2 ^ 64

/-- The message schedule of a block: its 16 words and `n` more, newest first. -/
def shaSchedule : Nat → List Nat → List Nat
  | 0, ws => ws
  | n + 1, ws => shaSchedule n (shaNext ws :: ws)

/-- One round on the working variables a to h. -/
def shaRound (v : List Nat) (kw : Nat) : List Nat :=
  match v with
  | [a, b, c, d, e, f, g, h] =>
    let s1 := shaRotr e 14 ^^^ shaRotr e 18 ^^^ shaRotr e 41
    let ch := (e &&& f) ^^^ ((2 ^ 64 - 1 - e) &&& g)
    let t1 := h + s1 + ch + kw
    let s0 := shaRotr a 28 ^^^ shaRotr a 34 ^^^ shaRotr a 39
    let mj := (a &&& b) ^^^ (a &&& c) ^^^ (b &&& c)
    [(t1 + s0 + mj) % 2 ^ 64, a, b, c, (d + t1) % 2 ^ 64, e, f, g]
  | _ => v

/-- A number from bytes, most significant byte first. -/
def beNum (bs : List Nat) : Nat := bs.foldl (fun n b => n * 256 + b) 0

/-- Take `n` bytes at a time; `fuel` bounds how often. -/
def shaGroups (n : Nat) : Nat → List Nat → List (List Nat)
  | 0, _ => []
  | fuel + 1, bs => if bs.isEmpty then [] else bs.take n :: shaGroups n fuel (bs.drop n)

/-- One block of 128 bytes. -/
def shaBlock (h : List Nat) (block : List Nat) : List Nat :=
  let ws := (shaSchedule 64 ((shaGroups 8 16 block).map beNum).reverse).reverse
  let v := ((shaK.zip ws).map (fun p => p.1 + p.2)).foldl shaRound h
  (h.zip v).map (fun p => (p.1 + p.2) % 2 ^ 64)

/-- The bytes of a number, most significant byte first. -/
def numBytes (n v : Nat) : List Nat := (List.range n).map (fun k => v / 256 ^ (n - 1 - k) % 256)

/-- A message with its padding. -/
def shaPad (bs : List Nat) : List Nat :=
  bs ++ [0x80] ++ List.replicate ((239 - bs.length % 128) % 128) 0 ++ numBytes 16 (8 * bs.length)

/-- SHA-384 of a byte string, 48 bytes. -/
def sha384 (bs : List Nat) : List Nat :=
  let m := shaPad bs
  (((shaGroups 128 (m.length / 128) m).foldl shaBlock shaStart).take 6).flatMap (numBytes 8)

end Sys2Proof.Machine
end

