-- ==== Sys2Proof/Machine/Ecdsa.lean ====
section
/-!
DEFINITION. Machine/Ecdsa.lean: the check of an ECDSA signature over P-384 with SHA-384, with which Boot ROM verifies images
(R50, R51), as FIPS 186-5 and SP 800-186 define it. Points are Jacobian: (X, Y, Z) stands for (X/Z², Y/Z³), Z = 0 for the point
at infinity.
-/
namespace Sys2Proof.Machine

/-- The field prime, the curve's coefficient b, the group order and the base point. -/
def ecP : Nat := 2 ^ 384 - 2 ^ 128 - 2 ^ 96 + 2 ^ 32 - 1
def ecB : Nat := 0xb3312fa7e23ee7e4988e056be3f82d19181d9c6efe8141120314088f5013875ac656398d8a2ed19d2a85c8edd3ec2aef
def ecN : Nat := 0xffffffffffffffffffffffffffffffffffffffffffffffffc7634d81f4372ddf581a0db248b0a77aecec196accc52973
def ecG : Nat × Nat × Nat :=
  (0xaa87ca22be8b05378eb1c71ef320ad746e1d3b628ba79b9859f741e082542a385502f25dbf55296c3a545e3872760ab7,
    0x3617de4a96262c6f5d9e98bf9292dc29f8f41dbd289a147ce9da3113b5f0b8c00a60b1ce1d7e819d7a431d7c90ea0e5f, 1)

/-- Difference in the field. -/
def ecSub (a b : Nat) : Nat := (a + (ecP - b % ecP)) % ecP

/-- Twice a point. -/
def ecDouble (q : Nat × Nat × Nat) : Nat × Nat × Nat :=
  let (x, y, z) := q
  let delta := z * z % ecP
  let gamma := y * y % ecP
  let beta := x * gamma % ecP
  let alpha := 3 * (ecSub x delta * (x + delta)) % ecP
  let x3 := ecSub (alpha * alpha) (8 * beta)
  (x3, ecSub (alpha * ecSub (4 * beta) x3) (8 * (gamma * gamma)), 2 * (y * z) % ecP)

/-- Sum of two points. -/
def ecAdd (p q : Nat × Nat × Nat) : Nat × Nat × Nat :=
  let (x1, y1, z1) := p
  let (x2, y2, z2) := q
  if z1 = 0 then q
  else if z2 = 0 then p
  else
    let zz1 := z1 * z1 % ecP
    let zz2 := z2 * z2 % ecP
    let u1 := x1 * zz2 % ecP
    let u2 := x2 * zz1 % ecP
    let s1 := y1 * (z2 * zz2 % ecP) % ecP
    let s2 := y2 * (z1 * zz1 % ecP) % ecP
    if u1 = u2 then if s1 = s2 then ecDouble p else (1, 1, 0)
    else
      let h := ecSub u2 u1
      let r := ecSub s2 s1
      let hh := h * h % ecP
      let hhh := h * hh % ecP
      let v := u1 * hh % ecP
      let x3 := ecSub (r * r) (hhh + 2 * v)
      (x3, ecSub (r * ecSub v x3) (s1 * hhh), z1 * z2 % ecP * h % ecP)

/-- The bits of a 384-bit number, most significant first. -/
def bits384 (k : Nat) : List Bool := (List.range 384).map (fun i => k.testBit (383 - i))

/-- A power in the integers modulo `m`. -/
def powMod (m a k : Nat) : Nat :=
  (bits384 k).foldl (fun acc b => if b then acc * acc % m * a % m else acc * acc % m) 1

/-- u·G + v·Q. -/
def ecSum (u v : Nat) (q : Nat × Nat × Nat) : Nat × Nat × Nat :=
  let both := ecAdd ecG q
  ((bits384 u).zip (bits384 v)).foldl (fun acc b =>
    let acc := ecDouble acc
    if b.1 && b.2 then ecAdd acc both else if b.1 then ecAdd acc ecG else if b.2 then ecAdd acc q else acc) (1, 1, 0)

/-- The point is on the curve. -/
def ecOnCurve (x y : Nat) : Bool :=
  decide (x < ecP) && decide (y < ecP) && y * y % ecP == (x * x % ecP * x + (ecP - 3) * x + ecB) % ecP

/-- Signature `sig` (r then s, 48 bytes each, big-endian) over `msg` verifies under the public key `key` (an uncompressed
point: 0x04, X, Y). -/
def ecdsaOk (key msg sig : List Nat) : Bool :=
  let x := beNum ((key.drop 1).take 48)
  let y := beNum ((key.drop 49).take 48)
  let r := beNum (sig.take 48)
  let s := beNum ((sig.drop 48).take 48)
  let w := powMod ecN s (ecN - 2)
  let u := beNum (sha384 msg) * w % ecN
  let t := ecSum u (r * w % ecN) (x, y, 1)
  let zz := t.2.2 * t.2.2 % ecP
  key.length == 97 && key.headD 0 == 4 && ecOnCurve x y && decide (0 < r) && decide (r < ecN) && decide (0 < s) && decide (s < ecN)
    && t.2.2 != 0 && (r * zz % ecP == t.1 || (decide (r + ecN < ecP) && (r + ecN) * zz % ecP == t.1))

end Sys2Proof.Machine
end

