-- ==== Sys2Proof/Machine/Aes.lean ====
section
/-!
DEFINITION. Machine/Aes.lean: the ciphers of the cipher engine and the key management unit: AES-256 (FIPS 197), XTS
(IEEE 1619) and GCM (NIST SP 800-38D) over whole 16-byte blocks (R306), and AES key wrap (RFC 3394, R318). The spec
names these standards; the algorithms are theirs. PRESUMED, notes/assumptions/31. Blocks are lists of 16 bytes.
-/
namespace Sys2Proof.Machine

/-- Hand a number on by its value: it is worked out before `f` takes it. -/
def byValue {α : Type} (v : Nat) (f : Nat → α) : α :=
  match v with
  | 0 => f 0
  | k + 1 => f (k + 1)

/-- The same for a list of bytes. -/
def bytesByValue {α : Type} (bs : List Nat) (f : List Nat → α) : α :=
  byValue bs.length (fun n => byValue (leNat bs) (fun v => f (leBytes v n)))

/-- Multiplication by x in GF(2^8) with x^8 + x^4 + x^3 + x + 1. -/
def xtime (a : Nat) : Nat := (a * 2 % 256) ^^^ (a / 128 % 2 * 0x1B)

/-- Product in GF(2^8) with a coefficient below 16. -/
def gmul (a c : Nat) : Nat :=
  byValue (xtime a) (fun a2 => byValue (xtime a2) (fun a4 =>
    (a * (c % 2)) ^^^ (a2 * (c / 2 % 2)) ^^^ (a4 * (c / 4 % 2)) ^^^ (xtime a4 * (c / 8 % 2))))

/-- The S-box of FIPS 197, 32 entries to a row, the lowest in the least significant byte. -/
def sboxRows : List Nat := [
  0xc072a49cafa2d4adf04759fa7dc982ca76abd7fe2b670130c56f6bf27b777c63,
  0x75b227ebe28012079a059618c323c7041531d871f1e5a534ccf73f362693fdb7,
  0xcf584c4a39becb6a5bb1fc20ed00d153842fe329b3d63b52a05a6e1b1a2c8309,
  0xd2f3ff1021dab6bcf5389d928f40a351a89f3c507f02f94585334d43fbaaefd0,
  0xdb0b5ede14b8ee4688902a22dc4f816073195d643d7ea7c41744975fec130ccd,
  0x08ae7a65eaf4566ca94ed58d6d37c8e779e4959162acd3c25c2406490a3a32e0,
  0x9e1dc186b95735610ef6034866b53e708a8bbd4b1f74dde8c6b4a61c2e2578ba,
  0x16bb54b00f2d99416842e6bf0d89a18cdf2855cee9871e9b948ed9691198f8e1]
/-- Its inverse. -/
def sboxInvRows : List Nat := [
  0xcbe9dec444438e3487ff2f9b8239e37cfbd7f3819ea340bf38a53630d56a0952,
  0x25d18b6d49a25b76b224d92866a12e084ec3fa420b954cee3d23c2a632947b54,
  0x849d8da75746155edab9edfd5048706c92b6655dcc5ca4d41698688664f6f872,
  0x6b8a130103bdafc1020f3fca8f1e2cd00645b3b80558e4f70ad3bc8c00abd890,
  0x6edf751ce837f9e28535ade72274ac9673e6b4f0cecff297eadc674f4111913a,
  0xf45acd78fec0db9a2079d2c64b3e56fc1bbe18aa0e62b76f89c5291d711af147,
  0xef9cc9939f7ae52d0d4ab519a97f51605fec8027591012b131c7078833a8dd1f,
  0x7d0c2155631469e126d677ba7e042b17619953833cbbebc8b0f52aae4d3be0a0]

def sbox (a : Nat) : Nat := sboxRows.getD (a / 32) 0 / 256 ^ (a % 32) % 256
def sboxInv (a : Nat) : Nat := sboxInvRows.getD (a / 32) 0 / 256 ^ (a % 32) % 256

def xorBytes (a b : List Nat) : List Nat := (a.zip b).map (fun p => p.1 ^^^ p.2)

/-- Words `i` to `i + n - 1` of the AES-256 key schedule, in front of the words before them, newest first, each 4 bytes as a
little-endian number. -/
def moreWords : Nat → Nat → Nat → List Nat → List Nat
  | 0, _, _, ws => ws
  | n + 1, i, rcon, ws =>
    let b := leBytes (ws.getD 0 0) 4
    let g := if i % 8 = 0 then xorBytes ((b.drop 1 ++ b.take 1).map sbox) [rcon, 0, 0, 0]
      else if i % 8 = 4 then b.map sbox else b
    byValue (leNat g ^^^ ws.getD 7 0) (fun w => moreWords n (i + 1) (if i % 8 = 0 then xtime rcon else rcon) (w :: ws))

/-- The 60 words of the AES-256 key schedule, newest first. -/
def keyWords (key : List Nat) : List Nat :=
  moreWords 52 8 1 ((List.range 8).map (fun i => leNat ((key.drop (28 - 4 * i)).take 4)))

/-- Round key `r`. -/
def roundKey (ws : List Nat) (r : Nat) : List Nat := (List.range 4).flatMap (fun k => leBytes (ws.getD (59 - 4 * r - k) 0) 4)

/-- Rounds `k` to `k + n - 1` of a cipher. -/
def rounds (f : Nat → List Nat → List Nat) : Nat → Nat → List Nat → List Nat
  | 0, _, s => s
  | n + 1, k, s => bytesByValue s (fun s => rounds f n (k + 1) (f k s))

def shiftRows (s : List Nat) : List Nat := (List.range 16).map (fun i => s.getD ((i + 4 * (i % 4)) % 16) 0)
def shiftRowsInv (s : List Nat) : List Nat := (List.range 16).map (fun i => s.getD ((i + 16 - 4 * (i % 4)) % 16) 0)

/-- Mix the columns with coefficients `c` (0, 1, 2, 3 places down). -/
def mixCols (c : List Nat) (s : List Nat) : List Nat :=
  (List.range 16).map (fun i =>
    let m := fun k => gmul (s.getD (i / 4 * 4 + k) 0) (c.getD ((k + 4 - i % 4) % 4) 0)
    m 0 ^^^ m 1 ^^^ m 2 ^^^ m 3)

/-- AES-256 encryption of one block. -/
def aesEnc (key blk : List Nat) : List Nat :=
  let ws := keyWords key
  let s := rounds (fun r s => xorBytes (mixCols [2, 3, 1, 1] (shiftRows (s.map sbox))) (roundKey ws r)) 13 1
    (xorBytes blk (roundKey ws 0))
  xorBytes (shiftRows (s.map sbox)) (roundKey ws 14)

/-- AES-256 decryption of one block. -/
def aesDec (key blk : List Nat) : List Nat :=
  let ws := keyWords key
  let s := rounds (fun r s => mixCols [14, 11, 13, 9] (xorBytes ((shiftRowsInv s).map sboxInv) (roundKey ws (14 - r)))) 13 1
    (xorBytes blk (roundKey ws 14))
  xorBytes ((shiftRowsInv s).map sboxInv) (roundKey ws 0)

/-- The 16-byte blocks of a list of bytes. -/
def blocks16 (bs : List Nat) : List (List Nat) := (List.range ((bs.length + 15) / 16)).map (fun i => (bs.drop (16 * i)).take 16)

/-- Multiplication of an XTS tweak by α: little-endian, x^128 + x^7 + x^2 + x + 1. -/
def xtsNext (t : List Nat) : List Nat :=
  let v := leNat t * 2
  leBytes (if v.testBit 128 then (v - 2 ^ 128) ^^^ 0x87 else v) 16

/-- XTS over whole blocks: `f` is the block cipher under Key1, the tweak is `n` as a little-endian integer (R306). -/
def xts (f : List Nat → List Nat) (key2 : List Nat) (n : Nat) (bs : List Nat) : List Nat :=
  ((blocks16 bs).foldl (fun (st : List Nat × List Nat) b =>
    (xtsNext st.1, st.2 ++ xorBytes (f (xorBytes b st.1)) st.1)) (aesEnc key2 (leBytes n 16), [])).2

def xtsEnc (k1 k2 : List Nat) (lba : Nat) (bs : List Nat) : List Nat := xts (aesEnc k1) k2 lba bs
def xtsDec (k1 k2 : List Nat) (lba : Nat) (bs : List Nat) : List Nat := xts (aesDec k1) k2 lba bs

/-- A number from bytes, most significant first, and its `n` bytes. -/
def beNat (bs : List Nat) : Nat := bs.foldl (fun v b => v * 256 + b % 256) 0
def beBytes (v n : Nat) : List Nat := (leBytes v n).reverse

/-- Product in GCM's GF(2^128), bit 0 of the standard being the most significant bit. -/
def ghMul (x y : Nat) : Nat :=
  ((List.range 128).foldl (fun (st : Nat × Nat) i =>
    let z := if x.testBit (127 - i) then st.2 ^^^ st.1 else st.2
    (if st.1 % 2 = 1 then (st.1 / 2) ^^^ (0xE1 * 2 ^ 120) else st.1 / 2, z)) (y, 0)).2

def ghash (h : Nat) (bs : List Nat) : Nat := (blocks16 bs).foldl (fun y b => ghMul (y ^^^ beNat (b ++ List.replicate (16 - b.length) 0)) h) 0

/-- The counter mode of GCM from counter 2 on, for a 12-byte nonce. -/
def gcmCtr (key nonce bs : List Nat) : List Nat :=
  ((blocks16 bs).zipIdx.map (fun p => xorBytes p.1 (aesEnc key (nonce ++ beBytes (p.2 + 2) 4)))).flatten

/-- The GCM tag of a ciphertext with its additional data, both whole multiples of 16 bytes here (R308). -/
def gcmTag (key nonce aad ct : List Nat) : List Nat :=
  let h := beNat (aesEnc key (List.replicate 16 0))
  let s := ghash h (aad ++ ct ++ beBytes (aad.length * 8) 8 ++ beBytes (ct.length * 8) 8)
  xorBytes (beBytes s 16) (aesEnc key (nonce ++ [0, 0, 0, 1]))

/-- AES key wrap of RFC 3394, over a first register `a` of 8 bytes and `r` of the others: steps `t` to `t + n - 1` of
wrapping, then of unwrapping counted from the last of `m`. -/
def kwSteps (kek : List Nat) : Nat → Nat → List Nat → List (List Nat) → List Nat × List (List Nat)
  | 0, _, a, r => (a, r)
  | n + 1, t, a, r =>
    let i := t % r.length
    bytesByValue (aesEnc kek (a ++ r.getD i [])) (fun b =>
      kwSteps kek n (t + 1) (xorBytes (b.take 8) (beBytes (t + 1) 8)) (r.set i (b.drop 8)))
def kwStepsBack (kek : List Nat) : Nat → List Nat → List (List Nat) → List Nat × List (List Nat)
  | 0, a, r => (a, r)
  | t + 1, a, r =>
    let i := t % r.length
    bytesByValue (aesDec kek (xorBytes a (beBytes (t + 1) 8) ++ r.getD i [])) (fun b =>
      kwStepsBack kek t (b.take 8) (r.set i (b.drop 8)))

/-- Six rounds of AES key wrap over registers of 8 bytes (RFC 3394). -/
def kwWrap (kek : List Nat) (key : List Nat) : List Nat :=
  let n := key.length / 8
  let st := kwSteps kek (6 * n) 0 (List.replicate 8 0xA6) ((List.range n).map (fun i => (key.drop (8 * i)).take 8))
  st.1 ++ st.2.flatten

/-- The reverse; nothing where the first register does not come out as the constant. -/
def kwUnwrap (kek : List Nat) (blob : List Nat) : Option (List Nat) :=
  let n := blob.length / 8 - 1
  let st := kwStepsBack kek (6 * n) (blob.take 8) ((List.range n).map (fun i => (blob.drop (8 + 8 * i)).take 8))
  if st.1 = List.replicate 8 0xA6 then some st.2.flatten else none

end Sys2Proof.Machine
end

