-- ==== Sys2Proof/Machine/Store.lean ====
section
/-!
DEFINITION. Machine/Store.lean: sparse storage by number, as plain data in one canonical form. A store lists
(key, value) pairs with the keys strictly rising; a key that is not listed holds the store's default value, and no
entry equals it, so that equal contents are equal data.
-/
namespace Sys2Proof.Machine

/-- Sparse contents: (key, value) pairs, keys strictly rising, no value equal to the default. -/
abbrev Store (β : Type) := List (Nat × β)

/-- The value held at key `k`, where `d` is what an unlisted key holds. -/
def Store.get {β : Type} (d : β) (k : Nat) : Store β → β
  | [] => d
  | (j, v) :: m => if j = k then v else Store.get d k m

/-- The store without any entry at `k`. -/
def Store.del {β : Type} (k : Nat) : Store β → Store β
  | [] => []
  | (j, v) :: m => if j = k then Store.del k m else (j, v) :: Store.del k m

/-- The store with `v` listed at `k`, in its place by rising keys. -/
def Store.ins {β : Type} (k : Nat) (v : β) : Store β → Store β
  | [] => [(k, v)]
  | (j, u) :: m =>
    if k < j then (k, v) :: (j, u) :: m else if k = j then (k, v) :: m else (j, u) :: Store.ins k v m

/-- Write `v` at `k`: writing the default takes the entry out, so the canonical form is kept. -/
def Store.put {β : Type} [DecidableEq β] (d : β) (k : Nat) (v : β) (m : Store β) : Store β :=
  if v = d then Store.del k m else Store.ins k v m

/-- The keys rise strictly, all of them at or above `lo`, and no entry equals what an unlisted key holds, `f` of it. -/
def Store.wfFrom {β : Type} [DecidableEq β] (f : Nat → β) (lo : Nat) : Store β → Bool
  | [] => true
  | (j, v) :: m => decide (lo ≤ j) && decide (v ≠ f j) && Store.wfFrom f (j + 1) m

/-- The canonical form of a store whose unlisted key `k` holds `f k`. -/
def Store.wf {β : Type} [DecidableEq β] (f : Nat → β) (m : Store β) : Bool := Store.wfFrom f 0 m

/-- Write a list of values at consecutive keys from `k` on, where an unlisted key holds `f` of it. -/
def Store.puts {β : Type} [DecidableEq β] (f : Nat → β) (k : Nat) : List β → Store β → Store β
  | [], m => m
  | v :: vs, m => Store.puts f (k + 1) vs (Store.put (f k) k v m)

/-- The `n` values at consecutive keys from `k` on. -/
def Store.gets {β : Type} (f : Nat → β) (k : Nat) : Nat → Store β → List β
  | 0, _ => []
  | n + 1, m => Store.get (f k) k m :: Store.gets f (k + 1) n m

/-- The store without its entries at keys from `lo` to below `hi`. -/
def Store.cut {β : Type} (lo hi : Nat) (m : Store β) : Store β := m.filter (fun p => p.1 < lo || hi ≤ p.1)

end Sys2Proof.Machine
end

