-- ==== Sys2Proof/Machine/Field.lean ====
section
/-!
DEFINITION. Machine/Field.lean: what a register field is (R9, R10, R11): where it stands, how wide it is, its access
code, its reset value and the values that are not reserved. The tables of the fields follow in Regs*.lean.
-/
namespace Sys2Proof.Machine

/-- The access codes of R10. -/
inductive Acc
  | ro | rw | wo | w1c | w1s | rc | rwl | rws
  deriving DecidableEq, Repr

/-- One field of a register: BAR0 offset of the register, lowest bit, width, access code (R10), reset value, and the
ranges of values that are not reserved (R11; an empty list: no value is reserved). -/
structure Fld where
  off : Nat
  lo : Nat
  w : Nat
  acc : Acc
  rst : Nat
  ok : List (Nat × Nat)
  deriving DecidableEq, Repr

/-- The number a field is stored under: its register's offset and its lowest bit. -/
def Fld.key (f : Fld) : Nat := f.off * 32 + f.lo

/-- The value may be written to the field: no encoding the table reserves (R11). -/
def Fld.allows (f : Fld) (v : Nat) : Bool :=
  f.ok.isEmpty || f.ok.any (fun r => decide (r.1 ≤ v) && decide (v ≤ r.2))

/-- Reset value of RCH_RUNGr.PARAM (R90). -/
def rungParamReset (r : Nat) : Nat := [0x0C, 0x18, 0x40, 0, 8, 8, 0, 3, 1, 4, 0, 0].getD r 0

/-- Values of RCH_RUNGr.PARAM that are not reserved (R90): the listed range of the rung, and 0 alone where the whole
parameter is reserved. -/
def rungParamOk (r : Nat) : List (Nat × Nat) :=
  [[(1, 12)], [(1, 64)], [(1, 64)], [(0, 0)], [(1, 16)], [(1, 16)], [(0, 0)], [(0, 3)], [(1, 3)], [(2, 8)],
    [(0, 0)], [(0, 0)]].getD r []

/-- Reset value of CAL_LIMk.MIN in the field's code, signed for classes 0 to 2 (R184). -/
def calLimMin (k : Nat) : Nat := [0x200, 0x200, 0x200, 1, 0, 0, 1, 0, 0].getD k 0

/-- Reset value of CAL_LIMk.MAX (R184). -/
def calLimMax (k : Nat) : Nat := [511, 511, 511, 255, 255, 1023, 1023, 1023, 255].getD k 0

/-- Reset value of CAL_LIMk.STEP (R184). -/
def calLimStep (k : Nat) : Nat := [48, 32, 64, 64, 24, 32, 40, 64, 16].getD k 0

/-- Reset value of CMD_LCTGTc.TGT (R259): the latency target of class `c` in units of 100 µs. -/
def lctgtReset (c : Nat) : Nat := [0x32, 0xC8, 0x3E8, 0x2710].getD c 0

end Sys2Proof.Machine
end

