-- ==== Sys2Proof/Machine/RegsNvme.lean ====
section
/-!
DEFINITION. Machine/RegsNvme.lean: the NVMe controller registers at BAR0 offsets below 0x1000 (R224, R240). The spec
names them and takes their layout from NVM Express Base 2.0; the places and reset values here are that standard's.
PRESUMED, notes/assumptions/15.
-/
namespace Sys2Proof.Machine

/- CC: controller configuration, offset 0x14 -/
def NVME_CC_EN : Fld := ⟨0x14, 0, 1, .rw, 0, []⟩
def NVME_CC_CSS : Fld := ⟨0x14, 4, 3, .rw, 0, []⟩
def NVME_CC_MPS : Fld := ⟨0x14, 7, 4, .rw, 0, []⟩
def NVME_CC_AMS : Fld := ⟨0x14, 11, 3, .rw, 0, []⟩
def NVME_CC_SHN : Fld := ⟨0x14, 14, 2, .rw, 0, []⟩
def NVME_CC_IOSQES : Fld := ⟨0x14, 16, 4, .rw, 0, []⟩
def NVME_CC_IOCQES : Fld := ⟨0x14, 20, 4, .rw, 0, []⟩

/- CSTS: controller status, offset 0x1C -/
def NVME_CSTS_RDY : Fld := ⟨0x1C, 0, 1, .ro, 0, []⟩
def NVME_CSTS_CFS : Fld := ⟨0x1C, 1, 1, .ro, 0, []⟩
def NVME_CSTS_SHST : Fld := ⟨0x1C, 2, 2, .ro, 0, []⟩

/- AQA: admin queue attributes, offset 0x24 -/
def NVME_AQA_ASQS : Fld := ⟨0x24, 0, 12, .rw, 0, []⟩
def NVME_AQA_ACQS : Fld := ⟨0x24, 16, 12, .rw, 0, []⟩

/- ASQ and ACQ: admin queue base addresses, offsets 0x28 to 0x34 -/
def NVME_ASQ_LO : Fld := ⟨0x28, 12, 20, .rw, 0, []⟩
def NVME_ASQ_HI : Fld := ⟨0x2C, 0, 32, .rw, 0, []⟩
def NVME_ACQ_LO : Fld := ⟨0x30, 12, 20, .rw, 0, []⟩
def NVME_ACQ_HI : Fld := ⟨0x34, 0, 32, .rw, 0, []⟩

/-- CAP (R240): MQES 0xFFFF, CQR 1, AMS 0, TO 0x28, DSTRD 0, CSS 0x41, MPSMIN 0 (R249). The controller memory
buffer is found through CMBLOC and CMBSZ alone (R237): CMBS 0. -/
def nvmeCap : Nat := 0xFFFF + 2 ^ 16 + 0x28 * 2 ^ 24 + 0x41 * 2 ^ 37

/-- VS: NVM Express Base 2.0 (R240). -/
def nvmeVs : Nat := 0x00020000

end Sys2Proof.Machine
end

