-- ==== Sys2Proof/Config.lean ====
section
/-!
DEFINITION. Config.lean: what an implementation fixes and the values the spec leaves open. Each is an opaque constant
without a body, so that nothing can be proved of the value it gives: a statement that meets one holds whatever the
value is. The assumption log says which rule leaves each open.
-/
namespace Sys2Proof

/-- A free value, the `k`-th that a run draws. -/
opaque Config.free : Nat → Nat

/-- What the data bits of a word hold that nothing has written (R293), by word number. -/
opaque Config.unwritten : Nat → BitVec 64

/-- The syndrome reported for a word that nothing has written (R293), by word number. -/
opaque Config.unwrittenSynd : Nat → Nat

/-- The byte of Boot ROM at an offset; its contents are not given. -/
opaque Config.bootRom : Nat → Nat

/-- Where a core's non-maskable interrupt enters (R39 asserts the input; no vector is given). -/
opaque Config.nmiVector : Nat → Nat

/-- What a core's vendor, architecture and implementation identity registers read, by CSR number; the spec gives none. -/
opaque Config.coreIdent : Nat → Nat

/-- Whether a quotient that is not exact is rounded up (odd) or down (even), by dividend and divisor: the spec gives the
result of its arithmetic and no rounding. -/
opaque Config.roundUp : Int → Int → Nat

/-- The result of a division by zero, by dividend, where a table's values make a divisor 0. -/
opaque Config.divZero : Int → Int

/-- A stream between two samples, at a fraction in 1/64 bit, in 1/64 LSB (R76 gives no interpolation). -/
opaque Config.skewInterp : Nat → Int → Int → Int

/-- The metric of a branch whose condition has noise variance 0 (R77 divides by it). -/
opaque Config.zeroVariance : Int → Int

end Sys2Proof
end

