-- ==== Sys2Proof/Machine/RegsArm.lean ====
section
/-!
DEFINITION. Machine/RegsArm.lean: the registers of the arm dies' pages (ARM, RCH, WRP, SRV, CTL, CAL, ALK), field by field; `n` is the arm, `c` is 0 for channel A and 1 for the joker.
Each line is one field: offset, lowest bit, width, access code (R10), reset value, and the values that are not
reserved (R11; an empty list where every value is allowed).
-/
namespace Sys2Proof.Machine

/- ARM_FMTBASE: band table address, offset 0x12_0040 + n·0x1_0000 (04_recording_format_and_clock_lane.md) -/
def ARM_FMTBASE_ADDR (n : Nat) : Fld := ⟨0x120040 + 0x10000 * n, 0, 28, .rw, 0, []⟩

/- ARM_FMTCTL: band table control, offset 0x12_0044 + n·0x1_0000 (04_recording_format_and_clock_lane.md) -/
def ARM_FMTCTL_LOAD (n : Nat) : Fld := ⟨0x120044 + 0x10000 * n, 0, 1, .w1s, 0, []⟩
def ARM_FMTCTL_PEND (n : Nat) : Fld := ⟨0x120044 + 0x10000 * n, 1, 1, .ro, 0, []⟩
def ARM_FMTCTL_VALID (n : Nat) : Fld := ⟨0x120044 + 0x10000 * n, 2, 1, .ro, 0, []⟩
def ARM_FMTCTL_STEPOK (n : Nat) : Fld := ⟨0x120044 + 0x10000 * n, 4, 3, .ro, 4, []⟩
def ARM_FMTCTL_BADMAP (n : Nat) : Fld := ⟨0x120044 + 0x10000 * n, 16, 8, .ro, 0, []⟩

/- ARM_LSCTL: lane synthesiser limits, offset 0x12_0048 + n·0x1_0000 (04_recording_format_and_clock_lane.md) -/
def ARM_LSCTL_QMIN (n : Nat) : Fld := ⟨0x120048 + 0x10000 * n, 0, 8, .rw, 0x40, []⟩
def ARM_LSCTL_PHRES (n : Nat) : Fld := ⟨0x120048 + 0x10000 * n, 8, 8, .rw, 0x30, []⟩

/- ARM_LSSTAT: lane synthesiser status, offset 0x12_004C + n·0x1_0000 (04_recording_format_and_clock_lane.md) -/
def ARM_LSSTAT_LOCK (n : Nat) : Fld := ⟨0x12004C + 0x10000 * n, 0, 1, .ro, 0, []⟩
def ARM_LSSTAT_HOLD (n : Nat) : Fld := ⟨0x12004C + 0x10000 * n, 1, 1, .ro, 0, []⟩
def ARM_LSSTAT_SLOPE (n : Nat) : Fld := ⟨0x12004C + 0x10000 * n, 2, 1, .w1c, 0, []⟩
def ARM_LSSTAT_TRRSRV (n : Nat) : Fld := ⟨0x12004C + 0x10000 * n, 3, 1, .ro, 0, []⟩
def ARM_LSSTAT_REJ (n : Nat) : Fld := ⟨0x12004C + 0x10000 * n, 8, 8, .ro, 0, []⟩
def ARM_LSSTAT_RESID (n : Nat) : Fld := ⟨0x12004C + 0x10000 * n, 16, 16, .ro, 0, []⟩

/- ARM_LSFREQ: synthesised bit clock, offset 0x12_0050 + n·0x1_0000 (04_recording_format_and_clock_lane.md) -/
def ARM_LSFREQ_FBIT (n : Nat) : Fld := ⟨0x120050 + 0x10000 * n, 0, 32, .ro, 0, []⟩

/- ARM_TRRSRVh: TRR servo offset of head h, offset 0x12_0060 + n·0x1_0000 + 4·h (h = 0–7) (04_recording_format_and_clock_lane.md) -/
def ARM_TRRSRV_XOFS (n : Nat) (h : Nat) : Fld := ⟨0x120060 + 0x10000 * n + 4 * h, 0, 16, .rw, 0, []⟩

/- RCH_MODE: channel mode, offset +0x040 (05_read_channel.md) -/
def RCH_MODE_MODE (n c : Nat) : Fld := ⟨0x121000 + 0x10000 * n + 0x1000 * c + 0x40, 0, 3, .ro, if c = 0 then 1 else 2, []⟩
def RCH_MODE_SHADOWEN (n c : Nat) : Fld := ⟨0x121000 + 0x10000 * n + 0x1000 * c + 0x40, 3, 1, if c = 0 then .ro else .rw, if c = 0 then 0 else 1, []⟩
def RCH_MODE_RDR (n c : Nat) : Fld := ⟨0x121000 + 0x10000 * n + 0x1000 * c + 0x40, 4, 2, .ro, 0, []⟩
def RCH_MODE_SLOT (n c : Nat) : Fld := ⟨0x121000 + 0x10000 * n + 0x1000 * c + 0x40, 8, 6, .ro, 0, []⟩
def RCH_MODE_VARIANT (n c : Nat) : Fld := ⟨0x121000 + 0x10000 * n + 0x1000 * c + 0x40, 14, 2, .ro, 0, []⟩

/- RCH_SYNCWIN: sync search window, offset +0x044 (arm-level) (05_read_channel.md) -/
def RCH_SYNCWIN_WIN (n : Nat) : Fld := ⟨0x121044 + 0x10000 * n, 0, 4, .rw, 8, [(2, 8)]⟩

/- RCH_LDPCCTL: decoder control, offset +0x048 (05_read_channel.md) -/
def RCH_LDPCCTL_ALPHA (n c : Nat) : Fld := ⟨0x121000 + 0x10000 * n + 0x1000 * c + 0x48, 0, 4, .rw, 5, [(0, 8)]⟩
def RCH_LDPCCTL_LLRCLIP (n c : Nat) : Fld := ⟨0x121000 + 0x10000 * n + 0x1000 * c + 0x48, 4, 4, .rw, 0xF, []⟩
def RCH_LDPCCTL_ETERM (n c : Nat) : Fld := ⟨0x121000 + 0x10000 * n + 0x1000 * c + 0x48, 8, 1, .rw, 1, []⟩

/- RCH_SETSEL: set selection, offset +0x050 (05_read_channel.md) -/
def RCH_SETSEL_SLOT (n c : Nat) : Fld := ⟨0x121000 + 0x10000 * n + 0x1000 * c + 0x50, 0, 6, .rw, 0, []⟩
def RCH_SETSEL_VARIANT (n c : Nat) : Fld := ⟨0x121000 + 0x10000 * n + 0x1000 * c + 0x50, 6, 2, .rw, 0, [(0, 2)]⟩

/- RCH_SETDATA: staging word, offset +0x054 (05_read_channel.md) -/
def RCH_SETDATA_DATA (n c : Nat) : Fld := ⟨0x121000 + 0x10000 * n + 0x1000 * c + 0x54, 0, 32, .rw, 0, []⟩

/- RCH_SETCTL: set commit and copy, offset +0x058 (05_read_channel.md) -/
def RCH_SETCTL_COMMIT (n c : Nat) : Fld := ⟨0x121000 + 0x10000 * n + 0x1000 * c + 0x58, 0, 1, .w1s, 0, []⟩
def RCH_SETCTL_PEND (n c : Nat) : Fld := ⟨0x121000 + 0x10000 * n + 0x1000 * c + 0x58, 1, 1, .ro, 0, []⟩
def RCH_SETCTL_BAD (n c : Nat) : Fld := ⟨0x121000 + 0x10000 * n + 0x1000 * c + 0x58, 2, 1, .w1c, 0, []⟩
def RCH_SETCTL_COPYA (n c : Nat) : Fld := ⟨0x121000 + 0x10000 * n + 0x1000 * c + 0x58, 3, 1, if c = 0 then .ro else .w1s, 0, []⟩
def RCH_SETCTL_COPYBUSY (n c : Nat) : Fld := ⟨0x121000 + 0x10000 * n + 0x1000 * c + 0x58, 4, 1, .ro, 0, []⟩
def RCH_SETCTL_PTR (n c : Nat) : Fld := ⟨0x121000 + 0x10000 * n + 0x1000 * c + 0x58, 8, 6, .ro, 0, []⟩

/- RCH_RUNGr: ladder rung r, offset +0x060 + 4·r (r = 0–11, arm-level) (05_read_channel.md) -/
def RCH_RUNG_EN (n : Nat) (r : Nat) : Fld := ⟨0x121060 + 0x10000 * n + 4 * r, 0, 1, .rw, 1, []⟩
def RCH_RUNG_TRIES (n : Nat) (r : Nat) : Fld := ⟨0x121060 + 0x10000 * n + 4 * r, 4, 4, .rw, 1, [(1, 15)]⟩
def RCH_RUNG_PARAM (n : Nat) (r : Nat) : Fld := ⟨0x121060 + 0x10000 * n + 4 * r, 8, 8, .rw, rungParamReset r, rungParamOk r⟩
def RCH_RUNG_BUDGET (n : Nat) (r : Nat) : Fld := ⟨0x121060 + 0x10000 * n + 4 * r, 16, 16, .rw, 0, []⟩

/- RCH_LADSTAT: ladder status, offset +0x090 (arm-level) (05_read_channel.md) -/
def RCH_LADSTAT_ACTIVE (n : Nat) : Fld := ⟨0x121090 + 0x10000 * n, 0, 1, .ro, 0, []⟩
def RCH_LADSTAT_RUNG (n : Nat) : Fld := ⟨0x121090 + 0x10000 * n, 1, 4, .ro, 0, []⟩
def RCH_LADSTAT_PENDSEC (n : Nat) : Fld := ⟨0x121090 + 0x10000 * n, 8, 8, .ro, 0, []⟩
def RCH_LADSTAT_ELAPSED (n : Nat) : Fld := ⟨0x121090 + 0x10000 * n, 16, 16, .ro, 0, []⟩

/- RCH_SECCNT: sectors decoded, offset +0x0A0 (05_read_channel.md) -/
def RCH_SECCNT_SECTORS (n c : Nat) : Fld := ⟨0x121000 + 0x10000 * n + 0x1000 * c + 0xA0, 0, 32, .rc, 0, []⟩

/- RCH_ITERSUM: iterations used, offset +0x0A4 (05_read_channel.md) -/
def RCH_ITERSUM_ITER (n c : Nat) : Fld := ⟨0x121000 + 0x10000 * n + 0x1000 * c + 0xA4, 0, 32, .rc, 0, []⟩

/- RCH_SYNCMISS: missed sync marks, offset +0x0A8 (05_read_channel.md) -/
def RCH_SYNCMISS_SYNC_MISS (n c : Nat) : Fld := ⟨0x121000 + 0x10000 * n + 0x1000 * c + 0xA8, 0, 32, .rc, 0, []⟩

/- RCH_SYNCEL: early and late sync, offset +0x0AC (05_read_channel.md) -/
def RCH_SYNCEL_EARLY (n c : Nat) : Fld := ⟨0x121000 + 0x10000 * n + 0x1000 * c + 0xAC, 0, 16, .rc, 0, []⟩
def RCH_SYNCEL_LATE (n c : Nat) : Fld := ⟨0x121000 + 0x10000 * n + 0x1000 * c + 0xAC, 16, 16, .rc, 0, []⟩

/- RCH_CHKCNT: delivery checks, offset +0x0B0 (05_read_channel.md) -/
def RCH_CHKCNT_PIFAIL (n c : Nat) : Fld := ⟨0x121000 + 0x10000 * n + 0x1000 * c + 0xB0, 0, 16, .rc, 0, []⟩
def RCH_CHKCNT_OVERRUN (n c : Nat) : Fld := ⟨0x121000 + 0x10000 * n + 0x1000 * c + 0xB0, 16, 16, .rc, 0, []⟩

/- RCH_RECCNTr: ladder counts of rung r, offset +0x0C0 + 4·r (r = 0–11) (05_read_channel.md) -/
def RCH_RECCNT_TRY (n c : Nat) (r : Nat) : Fld := ⟨0x121000 + 0x10000 * n + 0x1000 * c + 0xC0 + 4 * r, 0, 16, .rc, 0, []⟩
def RCH_RECCNT_OK (n c : Nat) (r : Nat) : Fld := ⟨0x121000 + 0x10000 * n + 0x1000 * c + 0xC0 + 4 * r, 16, 16, .rc, 0, []⟩

/- RCH_AFECTL: front-end control, offset +0x100 (arm-level) (05_read_channel.md) -/
def RCH_AFECTL_LDREN (n : Nat) : Fld := ⟨0x121100 + 0x10000 * n, 0, 1, .rw, 1, []⟩
def RCH_AFECTL_TRREN (n : Nat) : Fld := ⟨0x121100 + 0x10000 * n, 1, 1, .rw, 1, []⟩
def RCH_AFECTL_HPF (n : Nat) : Fld := ⟨0x121100 + 0x10000 * n, 2, 2, .rw, 1, []⟩
def RCH_AFECTL_GAINHOLD (n : Nat) : Fld := ⟨0x121100 + 0x10000 * n, 4, 1, .rw, 0, []⟩

/- RCH_AFESTAT: front-end status, offset +0x104 (arm-level) (05_read_channel.md) -/
def RCH_AFESTAT_GAINL (n : Nat) : Fld := ⟨0x121104 + 0x10000 * n, 0, 8, .ro, 0, []⟩
def RCH_AFESTAT_GAINT (n : Nat) : Fld := ⟨0x121104 + 0x10000 * n, 8, 8, .ro, 0, []⟩
def RCH_AFESTAT_FAILL (n : Nat) : Fld := ⟨0x121104 + 0x10000 * n, 16, 1, .ro, 0, []⟩
def RCH_AFESTAT_FAILT (n : Nat) : Fld := ⟨0x121104 + 0x10000 * n, 17, 1, .ro, 0, []⟩

/- RCH_RDRERRWIN: reader error window, offset +0x108 (arm-level) (05_read_channel.md) -/
def RCH_RDRERRWIN_WINDOW (n : Nat) : Fld := ⟨0x121108 + 0x10000 * n, 0, 16, .rwl, 0x3E8, []⟩
def RCH_RDRERRWIN_THRESH (n : Nat) : Fld := ⟨0x121108 + 0x10000 * n, 16, 8, .rwl, 4, []⟩

/- RCH_RDRERRCNT: reader error counts, offset +0x10C (arm-level) (05_read_channel.md) -/
def RCH_RDRERRCNT_WINCNTL (n : Nat) : Fld := ⟨0x12110C + 0x10000 * n, 0, 8, .ro, 0, []⟩
def RCH_RDRERRCNT_LASTINGL (n : Nat) : Fld := ⟨0x12110C + 0x10000 * n, 8, 1, .w1c, 0, []⟩
def RCH_RDRERRCNT_WINCNTT (n : Nat) : Fld := ⟨0x12110C + 0x10000 * n, 16, 8, .ro, 0, []⟩
def RCH_RDRERRCNT_LASTINGT (n : Nat) : Fld := ⟨0x12110C + 0x10000 * n, 24, 1, .w1c, 0, []⟩

/- RCH_ADCTRIMk: ADC trims of reader k, offset +0x110 + 4·k (k = 0 LDR, 1 TRR; arm-level) (05_read_channel.md) -/
def RCH_ADCTRIM_OFS0 (n : Nat) (k : Nat) : Fld := ⟨0x121110 + 0x10000 * n + 4 * k, 0, 7, .rw, 0, []⟩
def RCH_ADCTRIM_OFS1 (n : Nat) (k : Nat) : Fld := ⟨0x121110 + 0x10000 * n + 4 * k, 7, 7, .rw, 0, []⟩
def RCH_ADCTRIM_GAINM (n : Nat) (k : Nat) : Fld := ⟨0x121110 + 0x10000 * n + 4 * k, 14, 8, .rw, 0, []⟩
def RCH_ADCTRIM_SKEW (n : Nat) (k : Nat) : Fld := ⟨0x121110 + 0x10000 * n + 4 * k, 22, 8, .rw, 0, []⟩

/- WRP_WGCTL: write gate control, offset +0x040 (06_write_path_assist_and_arm_link.md) -/
def WRP_WGCTL_INHIBIT (n : Nat) : Fld := ⟨0x123040 + 0x10000 * n, 0, 1, .rw, 0, []⟩
def WRP_WGCTL_IDLE (n : Nat) : Fld := ⟨0x123040 + 0x10000 * n, 8, 8, .rw, 0x32, []⟩
def WRP_WGCTL_PRE (n : Nat) : Fld := ⟨0x123040 + 0x10000 * n, 16, 8, .rw, 0x64, []⟩

/- WRP_WISTAT: write inhibit sources, offset +0x044 (06_write_path_assist_and_arm_link.md) -/
def WRP_WISTAT_SRC (n : Nat) : Fld := ⟨0x123044 + 0x10000 * n, 0, 11, .ro, 0, []⟩

/- WRP_ASTIM: assist timing, offset +0x048 (06_write_path_assist_and_arm_link.md) -/
def WRP_ASTIM_LEAD (n : Nat) : Fld := ⟨0x123048 + 0x10000 * n, 0, 8, .rw, 0x19, [(0, 250)]⟩
def WRP_ASTIM_RAMPCOLD (n : Nat) : Fld := ⟨0x123048 + 0x10000 * n, 8, 8, .rw, 0x40, []⟩

/- WRP_ASWD: assist watchdog, offset +0x04C (06_write_path_assist_and_arm_link.md) -/
def WRP_ASWD_ONMAX (n : Nat) : Fld := ⟨0x12304C + 0x10000 * n, 0, 8, .rwl, 0x1E, [(1, 255)]⟩

/- WRP_ASLIMh: assist limits of head h, offset +0x050 + 4·h (h = 0–7) (06_write_path_assist_and_arm_link.md) -/
def WRP_ASLIM_ILIM (n : Nat) (h : Nat) : Fld := ⟨0x123050 + 0x10000 * n + 4 * h, 0, 10, .rwl, 0x2AA, []⟩
def WRP_ASLIM_DUTY (n : Nat) (h : Nat) : Fld := ⟨0x123050 + 0x10000 * n + 4 * h, 10, 8, .rwl, 0xF4, []⟩

/- WRP_ASSTAT: assist watchdog status, offset +0x070 (06_write_path_assist_and_arm_link.md) -/
def WRP_ASSTAT_HEAD (n : Nat) : Fld := ⟨0x123070 + 0x10000 * n, 0, 3, .ro, 0, []⟩
def WRP_ASSTAT_CAUSE (n : Nat) : Fld := ⟨0x123070 + 0x10000 * n, 3, 2, .ro, 0, []⟩
def WRP_ASSTAT_CLAMPS (n : Nat) : Fld := ⟨0x123070 + 0x10000 * n, 16, 16, .rc, 0, []⟩

/- WRP_RAWCTL: read-after-write control, offset +0x074 (06_write_path_assist_and_arm_link.md) -/
def WRP_RAWCTL_DEFEN (n : Nat) : Fld := ⟨0x123074 + 0x10000 * n, 0, 1, .rw, 1, []⟩
def WRP_RAWCTL_WEAKFAIL (n : Nat) : Fld := ⟨0x123074 + 0x10000 * n, 1, 1, .rw, 0, []⟩

/- WRP_RAWTHR: read-after-write thresholds, offset +0x078 (06_write_path_assist_and_arm_link.md) -/
def WRP_RAWTHR_ITERMAX (n : Nat) : Fld := ⟨0x123078 + 0x10000 * n, 0, 4, .rw, 0xC, [(1, 12)]⟩
def WRP_RAWTHR_ITERWEAK (n : Nat) : Fld := ⟨0x123078 + 0x10000 * n, 4, 4, .rw, 6, []⟩
def WRP_RAWTHR_SYNCWEAK (n : Nat) : Fld := ⟨0x123078 + 0x10000 * n, 8, 4, .rw, 2, [(0, 8)]⟩

/- WRP_RAWCNT: read-after-write results, offset +0x080 (06_write_path_assist_and_arm_link.md) -/
def WRP_RAWCNT_WEAK (n : Nat) : Fld := ⟨0x123080 + 0x10000 * n, 0, 16, .rc, 0, []⟩
def WRP_RAWCNT_FAIL (n : Nat) : Fld := ⟨0x123080 + 0x10000 * n, 16, 16, .rc, 0, []⟩

/- WRP_RAWPASS: passed sectors, offset +0x084 (06_write_path_assist_and_arm_link.md) -/
def WRP_RAWPASS_PASS (n : Nat) : Fld := ⟨0x123084 + 0x10000 * n, 0, 32, .rc, 0, []⟩

/- WRP_WPAs: write parameters A of slot s, offset +0x400 + 8·s (s = 0–63) (06_write_path_assist_and_arm_link.md) -/
def WRP_WPA_PC1 (n : Nat) (s : Nat) : Fld := ⟨0x123400 + 0x10000 * n + 8 * s, 0, 5, .rw, 0, []⟩
def WRP_WPA_PC2 (n : Nat) (s : Nat) : Fld := ⟨0x123400 + 0x10000 * n + 8 * s, 5, 5, .rw, 0, []⟩
def WRP_WPA_PC3 (n : Nat) (s : Nat) : Fld := ⟨0x123400 + 0x10000 * n + 8 * s, 10, 5, .rw, 0, []⟩
def WRP_WPA_HTRW (n : Nat) (s : Nat) : Fld := ⟨0x123400 + 0x10000 * n + 8 * s, 16, 8, .rw, 0, []⟩

/- WRP_WPBs: write parameters B of slot s, offset +0x404 + 8·s (s = 0–63) (06_write_path_assist_and_arm_link.md) -/
def WRP_WPB_ACODE (n : Nat) (s : Nat) : Fld := ⟨0x123404 + 0x10000 * n + 8 * s, 0, 10, .rw, 0, []⟩
def WRP_WPB_TRRLAG (n : Nat) (s : Nat) : Fld := ⟨0x123404 + 0x10000 * n + 8 * s, 10, 12, .rw, 0, []⟩

/- ALK_ASSIST: assist type, offset +0x040 (06_write_path_assist_and_arm_link.md) -/
def ALK_ASSIST_TYPE (n : Nat) : Fld := ⟨0x127040 + 0x10000 * n, 0, 2, .rwl, 0, [(0, 2)]⟩
def ALK_ASSIST_STBY (n : Nat) : Fld := ⟨0x127040 + 0x10000 * n, 2, 10, .rwl, 0, []⟩
def ALK_ASSIST_MISMATCH (n : Nat) : Fld := ⟨0x127040 + 0x10000 * n, 12, 1, .ro, 0, []⟩

/- ALK_CFG: link configuration, offset +0x044 (06_write_path_assist_and_arm_link.md) -/
def ALK_CFG_WDSWING (n : Nat) : Fld := ⟨0x127044 + 0x10000 * n, 0, 2, .rw, 1, []⟩
def ALK_CFG_PRESENT (n : Nat) : Fld := ⟨0x127044 + 0x10000 * n, 2, 1, .ro, 0, []⟩
def ALK_CFG_NHEADS (n : Nat) : Fld := ⟨0x127044 + 0x10000 * n, 8, 4, .ro, 0, []⟩

/- ALK_STAT: link status, offset +0x048 (06_write_path_assist_and_arm_link.md) -/
def ALK_STAT_FLT (n : Nat) : Fld := ⟨0x127048 + 0x10000 * n, 0, 1, .ro, 0, []⟩
def ALK_STAT_HEAD (n : Nat) : Fld := ⟨0x127048 + 0x10000 * n, 1, 3, .ro, 0, []⟩
def ALK_STAT_MODE (n : Nat) : Fld := ⟨0x127048 + 0x10000 * n, 4, 2, .ro, 0, []⟩
def ALK_STAT_WG (n : Nat) : Fld := ⟨0x127048 + 0x10000 * n, 6, 1, .ro, 0, []⟩

/- ALK_FRMA: raw frame address, offset +0x050 (06_write_path_assist_and_arm_link.md) -/
def ALK_FRMA_ADDR (n : Nat) : Fld := ⟨0x127050 + 0x10000 * n, 0, 16, .rw, 0, []⟩
def ALK_FRMA_READ (n : Nat) : Fld := ⟨0x127050 + 0x10000 * n, 16, 1, .rw, 0, []⟩

/- ALK_FRMD: raw frame data, offset +0x054 (06_write_path_assist_and_arm_link.md) -/
def ALK_FRMD_DATA (n : Nat) : Fld := ⟨0x127054 + 0x10000 * n, 0, 16, .rw, 0, []⟩
def ALK_FRMD_STATUS (n : Nat) : Fld := ⟨0x127054 + 0x10000 * n, 16, 8, .ro, 0, []⟩

/- ALK_FRMCTL: raw frame control, offset +0x058 (06_write_path_assist_and_arm_link.md) -/
def ALK_FRMCTL_GO (n : Nat) : Fld := ⟨0x127058 + 0x10000 * n, 0, 1, .w1s, 0, []⟩
def ALK_FRMCTL_BUSY (n : Nat) : Fld := ⟨0x127058 + 0x10000 * n, 1, 1, .ro, 0, []⟩
def ALK_FRMCTL_DONE (n : Nat) : Fld := ⟨0x127058 + 0x10000 * n, 2, 1, .w1c, 0, []⟩
def ALK_FRMCTL_FAIL (n : Nat) : Fld := ⟨0x127058 + 0x10000 * n, 3, 1, .w1c, 0, []⟩
def ALK_FRMCTL_REFUSED (n : Nat) : Fld := ⟨0x127058 + 0x10000 * n, 4, 1, .w1c, 0, []⟩

/- ALK_ERRCNT: link error counts, offset +0x060 (06_write_path_assist_and_arm_link.md) -/
def ALK_ERRCNT_CRCERR (n : Nat) : Fld := ⟨0x127060 + 0x10000 * n, 0, 8, .rc, 0, []⟩
def ALK_ERRCNT_NAK (n : Nat) : Fld := ⟨0x127060 + 0x10000 * n, 8, 8, .rc, 0, []⟩
def ALK_ERRCNT_NORESP (n : Nat) : Fld := ⟨0x127060 + 0x10000 * n, 16, 8, .rc, 0, []⟩
def ALK_ERRCNT_FAILED (n : Nat) : Fld := ⟨0x127060 + 0x10000 * n, 24, 8, .rc, 0, []⟩

/- ALK_FLTLOG: preamplifier fault log, offset +0x064 (06_write_path_assist_and_arm_link.md) -/
def ALK_FLTLOG_STATUS (n : Nat) : Fld := ⟨0x127064 + 0x10000 * n, 0, 16, .ro, 0, []⟩
def ALK_FLTLOG_COUNT (n : Nat) : Fld := ⟨0x127064 + 0x10000 * n, 16, 16, .rc, 0, []⟩

/- SRV_CTL: seek ownership and offset, offset +0x040 (07_servo_control.md) -/
def SRV_CTL_FWOWN (n : Nat) : Fld := ⟨0x124040 + 0x10000 * n, 0, 1, .rw, 0, []⟩
def SRV_CTL_OWNED (n : Nat) : Fld := ⟨0x124040 + 0x10000 * n, 1, 1, .ro, 0, []⟩
def SRV_CTL_OFFSET (n : Nat) : Fld := ⟨0x124040 + 0x10000 * n, 8, 8, .rw, 0, [(0, 64), (192, 255)]⟩

/- SRV_SEEK: seek order, offset +0x044 (07_servo_control.md) -/
def SRV_SEEK_TARGET (n : Nat) : Fld := ⟨0x124044 + 0x10000 * n, 0, 22, .rw, 0, []⟩
def SRV_SEEK_HEAD (n : Nat) : Fld := ⟨0x124044 + 0x10000 * n, 22, 3, .rw, 0, []⟩
def SRV_SEEK_GO (n : Nat) : Fld := ⟨0x124044 + 0x10000 * n, 25, 1, .w1s, 0, []⟩
def SRV_SEEK_REFUSED (n : Nat) : Fld := ⟨0x124044 + 0x10000 * n, 26, 1, .w1c, 0, []⟩

/- SRV_STAT: servo state, offset +0x048 (07_servo_control.md) -/
def SRV_STAT_STATE (n : Nat) : Fld := ⟨0x124048 + 0x10000 * n, 0, 3, .ro, 0, []⟩
def SRV_STAT_RDOK (n : Nat) : Fld := ⟨0x124048 + 0x10000 * n, 3, 1, .ro, 0, []⟩
def SRV_STAT_WROK (n : Nat) : Fld := ⟨0x124048 + 0x10000 * n, 4, 1, .ro, 0, []⟩
def SRV_STAT_HEAD (n : Nat) : Fld := ⟨0x124048 + 0x10000 * n, 5, 3, .ro, 0, []⟩
def SRV_STAT_WEDGE (n : Nat) : Fld := ⟨0x124048 + 0x10000 * n, 8, 10, .ro, 0, []⟩

/- SRV_TRACK: present track, offset +0x04C (07_servo_control.md) -/
def SRV_TRACK_TRACK (n : Nat) : Fld := ⟨0x12404C + 0x10000 * n, 0, 22, .ro, 0, []⟩
def SRV_TRACK_PRED (n : Nat) : Fld := ⟨0x12404C + 0x10000 * n, 22, 1, .ro, 0, []⟩

/- SRV_POS: burst position, offset +0x050 (07_servo_control.md) -/
def SRV_POS_X (n : Nat) : Fld := ⟨0x124050 + 0x10000 * n, 0, 24, .ro, 0, []⟩

/- SRV_PES: position error, offset +0x054 (07_servo_control.md) -/
def SRV_PES_PES (n : Nat) : Fld := ⟨0x124054 + 0x10000 * n, 0, 16, .ro, 0, []⟩

/- SRV_PITCH: track pitch, offset +0x058 (07_servo_control.md) -/
def SRV_PITCH_TP (n : Nat) : Fld := ⟨0x124058 + 0x10000 * n, 0, 24, .ro, 0, []⟩

/- SRV_RAW: burst sum, offset +0x05C (07_servo_control.md) -/
def SRV_RAW_RAWSUM (n : Nat) : Fld := ⟨0x12405C + 0x10000 * n, 0, 16, .ro, 0, []⟩
def SRV_RAW_SAME (n : Nat) : Fld := ⟨0x12405C + 0x10000 * n, 16, 5, .ro, 0, []⟩

/- SRV_MISS: missing feedback, offset +0x060 (07_servo_control.md) -/
def SRV_MISS_CONSEC (n : Nat) : Fld := ⟨0x124060 + 0x10000 * n, 0, 4, .ro, 0, []⟩
def SRV_MISS_IDXRUN (n : Nat) : Fld := ⟨0x124060 + 0x10000 * n, 4, 5, .ro, 0, []⟩
def SRV_MISS_TOTAL (n : Nat) : Fld := ⟨0x124060 + 0x10000 * n, 16, 16, .rc, 0, []⟩

/- SRV_FBCNT: feedback counts, offset +0x064 (07_servo_control.md) -/
def SRV_FBCNT_HOLDS (n : Nat) : Fld := ⟨0x124064 + 0x10000 * n, 0, 16, .rc, 0, []⟩
def SRV_FBCNT_IDXERR (n : Nat) : Fld := ⟨0x124064 + 0x10000 * n, 16, 16, .rc, 0, []⟩

/- CTL_TBLSEL: table selection, offset +0x040 (07_servo_control.md) -/
def CTL_TBLSEL_LOOP (n : Nat) : Fld := ⟨0x125040 + 0x10000 * n, 0, 2, .rw, 0, []⟩
def CTL_TBLSEL_BANK (n : Nat) : Fld := ⟨0x125040 + 0x10000 * n, 2, 3, .rw, 0, [(0, 4)]⟩

/- CTL_TBLDATA: staging word, offset +0x044 (07_servo_control.md) -/
def CTL_TBLDATA_DATA (n : Nat) : Fld := ⟨0x125044 + 0x10000 * n, 0, 32, .rw, 0, []⟩

/- CTL_TBLCTL: table commit, offset +0x048 (07_servo_control.md) -/
def CTL_TBLCTL_COMMIT (n : Nat) : Fld := ⟨0x125048 + 0x10000 * n, 0, 1, .w1s, 0, []⟩
def CTL_TBLCTL_PEND (n : Nat) : Fld := ⟨0x125048 + 0x10000 * n, 1, 1, .ro, 0, []⟩
def CTL_TBLCTL_BAD (n : Nat) : Fld := ⟨0x125048 + 0x10000 * n, 2, 1, .w1c, 0, []⟩
def CTL_TBLCTL_OVER (n : Nat) : Fld := ⟨0x125048 + 0x10000 * n, 3, 1, .w1c, 0, []⟩
def CTL_TBLCTL_PTR (n : Nat) : Fld := ⟨0x125048 + 0x10000 * n, 8, 6, .ro, 0, []⟩
def CTL_TBLCTL_VALID (n : Nat) : Fld := ⟨0x125048 + 0x10000 * n, 16, 15, .ro, 0, []⟩

/- CTL_COST: cycle cost, offset +0x04C (07_servo_control.md) -/
def CTL_COST_COST (n : Nat) : Fld := ⟨0x12504C + 0x10000 * n, 0, 12, .ro, 0, []⟩
def CTL_COST_BUDGET (n : Nat) : Fld := ⟨0x12504C + 0x10000 * n, 16, 12, .ro, 0, []⟩

/- CTL_FFCTL: feedforward control, offset +0x050 (07_servo_control.md) -/
def CTL_FFCTL_SRCEN (n : Nat) : Fld := ⟨0x125050 + 0x10000 * n, 0, 4, .rw, 0, []⟩
def CTL_FFCTL_ACTIVE (n : Nat) : Fld := ⟨0x125050 + 0x10000 * n, 4, 4, .ro, 0, []⟩
def CTL_FFCTL_SHED (n : Nat) : Fld := ⟨0x125050 + 0x10000 * n, 8, 8, .ro, 0, []⟩
def CTL_FFCTL_MISS (n : Nat) : Fld := ⟨0x125050 + 0x10000 * n, 16, 16, .rc, 0, []⟩

/- CTL_PROF0: seek profile, offset +0x054 (07_servo_control.md) -/
def CTL_PROF0_VMAX (n : Nat) : Fld := ⟨0x125054 + 0x10000 * n, 0, 16, .rw, 0x3A98, [(1, 65535)]⟩
def CTL_PROF0_AMAX (n : Nat) : Fld := ⟨0x125054 + 0x10000 * n, 16, 16, .rw, 0x1388, [(1, 65535)]⟩

/- CTL_PROF1: seek jerk, offset +0x058 (07_servo_control.md) -/
def CTL_PROF1_JMAX (n : Nat) : Fld := ⟨0x125058 + 0x10000 * n, 0, 16, .rw, 0x2710, [(1, 65535)]⟩

/- CTL_SETTLE: settle criteria, offset +0x05C (07_servo_control.md) -/
def CTL_SETTLE_RDWIN (n : Nat) : Fld := ⟨0x12505C + 0x10000 * n, 0, 8, .rw, 0x20, []⟩
def CTL_SETTLE_RDN (n : Nat) : Fld := ⟨0x12505C + 0x10000 * n, 8, 4, .rw, 2, [(1, 15)]⟩
def CTL_SETTLE_WRWIN (n : Nat) : Fld := ⟨0x12505C + 0x10000 * n, 12, 8, .rw, 0x10, []⟩
def CTL_SETTLE_WRN (n : Nat) : Fld := ⟨0x12505C + 0x10000 * n, 20, 4, .rw, 4, [(1, 15)]⟩
def CTL_SETTLE_TMO (n : Nat) : Fld := ⟨0x12505C + 0x10000 * n, 24, 8, .rw, 0x32, [(1, 255)]⟩

/- CTL_FELIM: following-error limit, offset +0x060 (07_servo_control.md) -/
def CTL_FELIM_FELIM (n : Nat) : Fld := ⟨0x125060 + 0x10000 * n, 0, 8, .rw, 0x20, [(1, 255)]⟩

/- CTL_FETIME: following-error time, offset +0x064 (07_servo_control.md) -/
def CTL_FETIME_FETIME (n : Nat) : Fld := ⟨0x125064 + 0x10000 * n, 0, 8, .rw, 2, []⟩

/- CTL_L0PLAUS: coil-model limit, offset +0x068 (07_servo_control.md) -/
def CTL_L0PLAUS_LIMIT (n : Nat) : Fld := ⟨0x125068 + 0x10000 * n, 0, 8, .rw, 0xF, [(1, 255)]⟩

/- CTL_L0MODEL: coil model, offset +0x06C (07_servo_control.md) -/
def CTL_L0MODEL_RCOIL (n : Nat) : Fld := ⟨0x12506C + 0x10000 * n, 0, 16, .rw, 0x1388, []⟩
def CTL_L0MODEL_LCOIL (n : Nat) : Fld := ⟨0x12506C + 0x10000 * n, 16, 16, .rw, 0xC8, [(1, 65535)]⟩

/- CTL_L0KB: back-EMF constant, offset +0x070 (07_servo_control.md) -/
def CTL_L0KB_KB (n : Nat) : Fld := ⟨0x125070 + 0x10000 * n, 0, 16, .rw, 0, []⟩

/- CTL_SUPSTAT: supervision status, offset +0x074 (07_servo_control.md) -/
def CTL_SUPSTAT_CLF (n : Nat) : Fld := ⟨0x125074 + 0x10000 * n, 0, 1, .w1c, 0, []⟩
def CTL_SUPSTAT_FE (n : Nat) : Fld := ⟨0x125074 + 0x10000 * n, 1, 1, .ro, 0, []⟩
def CTL_SUPSTAT_L0RUN (n : Nat) : Fld := ⟨0x125074 + 0x10000 * n, 4, 3, .ro, 0, []⟩
def CTL_SUPSTAT_DEV (n : Nat) : Fld := ⟨0x125074 + 0x10000 * n, 8, 8, .ro, 0, []⟩

/- CTL_INJ: injection control, offset +0x080 (07_servo_control.md) -/
def CTL_INJ_EN (n : Nat) : Fld := ⟨0x125080 + 0x10000 * n, 0, 1, .rw, 0, []⟩
def CTL_INJ_TYPE (n : Nat) : Fld := ⟨0x125080 + 0x10000 * n, 1, 2, .rw, 0, [(0, 2)]⟩
def CTL_INJ_POINT (n : Nat) : Fld := ⟨0x125080 + 0x10000 * n, 3, 3, .rw, 0, [(0, 5)]⟩
def CTL_INJ_HOLD (n : Nat) : Fld := ⟨0x125080 + 0x10000 * n, 8, 8, .rw, 0, []⟩

/- CTL_INJAMP: injection amplitude, offset +0x084 (07_servo_control.md) -/
def CTL_INJAMP_AMP (n : Nat) : Fld := ⟨0x125084 + 0x10000 * n, 0, 32, .rw, 0, []⟩

/- CTL_INJF0: start frequency, offset +0x088 (07_servo_control.md) -/
def CTL_INJF0_F0 (n : Nat) : Fld := ⟨0x125088 + 0x10000 * n, 0, 24, .rw, 0, []⟩

/- CTL_INJF1: end frequency, offset +0x08C (07_servo_control.md) -/
def CTL_INJF1_F1 (n : Nat) : Fld := ⟨0x12508C + 0x10000 * n, 0, 24, .rw, 0, []⟩

/- CTL_INJT: sweep time, offset +0x090 (07_servo_control.md) -/
def CTL_INJT_INJT (n : Nat) : Fld := ⟨0x125090 + 0x10000 * n, 0, 16, .rw, 0x3E8, [(1, 65535)]⟩

/- CTL_CAPBASE: capture address, offset +0x0A0 (07_servo_control.md) -/
def CTL_CAPBASE_ADDR (n : Nat) : Fld := ⟨0x1250A0 + 0x10000 * n, 0, 28, .rw, 0, []⟩

/- CTL_CAPCTL: capture control, offset +0x0A4 (07_servo_control.md) -/
def CTL_CAPCTL_GO (n : Nat) : Fld := ⟨0x1250A4 + 0x10000 * n, 0, 1, .w1s, 0, []⟩
def CTL_CAPCTL_BUSY (n : Nat) : Fld := ⟨0x1250A4 + 0x10000 * n, 1, 1, .ro, 0, []⟩
def CTL_CAPCTL_DONE (n : Nat) : Fld := ⟨0x1250A4 + 0x10000 * n, 2, 1, .w1c, 0, []⟩
def CTL_CAPCTL_RATE (n : Nat) : Fld := ⟨0x1250A4 + 0x10000 * n, 3, 2, .rw, 0, [(0, 2)]⟩
def CTL_CAPCTL_NSIG (n : Nat) : Fld := ⟨0x1250A4 + 0x10000 * n, 5, 2, .rw, 0, []⟩
def CTL_CAPCTL_TRIGINJ (n : Nat) : Fld := ⟨0x1250A4 + 0x10000 * n, 7, 1, .rw, 0, []⟩

/- CTL_CAPSEL: capture signals, offset +0x0A8 (07_servo_control.md) -/
def CTL_CAPSEL_SIG0 (n : Nat) : Fld := ⟨0x1250A8 + 0x10000 * n, 0, 8, .rw, 0, [(0, 10)]⟩
def CTL_CAPSEL_SIG1 (n : Nat) : Fld := ⟨0x1250A8 + 0x10000 * n, 8, 8, .rw, 0, [(0, 10)]⟩
def CTL_CAPSEL_SIG2 (n : Nat) : Fld := ⟨0x1250A8 + 0x10000 * n, 16, 8, .rw, 0, [(0, 10)]⟩
def CTL_CAPSEL_SIG3 (n : Nat) : Fld := ⟨0x1250A8 + 0x10000 * n, 24, 8, .rw, 0, [(0, 10)]⟩

/- CTL_CAPLEN: capture length, offset +0x0AC (07_servo_control.md) -/
def CTL_CAPLEN_LEN (n : Nat) : Fld := ⟨0x1250AC + 0x10000 * n, 0, 17, .rw, 0x10000, [(1, 65536)]⟩

/- CTL_CAPSTAT: capture progress, offset +0x0B0 (07_servo_control.md) -/
def CTL_CAPSTAT_WRITTEN (n : Nat) : Fld := ⟨0x1250B0 + 0x10000 * n, 0, 17, .ro, 0, []⟩

/- CAL_TRIG: triggers, offset +0x040 (09_calibration.md) -/
def CAL_TRIG_AUTO (n : Nat) : Fld := ⟨0x126040 + 0x10000 * n, 0, 1, .rw, 1, []⟩
def CAL_TRIG_DT (n : Nat) : Fld := ⟨0x126040 + 0x10000 * n, 8, 4, .rw, 4, [(1, 15)]⟩
def CAL_TRIG_MAXINT (n : Nat) : Fld := ⟨0x126040 + 0x10000 * n, 16, 8, .rw, 0x18, [(1, 255)]⟩

/- CAL_CMD: run order, offset +0x044 (09_calibration.md) -/
def CAL_CMD_GO (n : Nat) : Fld := ⟨0x126044 + 0x10000 * n, 0, 1, .w1s, 0, []⟩
def CAL_CMD_KIND (n : Nat) : Fld := ⟨0x126044 + 0x10000 * n, 4, 4, .rw, 3, []⟩
def CAL_CMD_SLOT (n : Nat) : Fld := ⟨0x126044 + 0x10000 * n, 8, 6, .rw, 0, []⟩
def CAL_CMD_REFUSED (n : Nat) : Fld := ⟨0x126044 + 0x10000 * n, 14, 1, .w1c, 0, []⟩

/- CAL_STAT: sequencer state, offset +0x048 (09_calibration.md) -/
def CAL_STAT_RUNNING (n : Nat) : Fld := ⟨0x126048 + 0x10000 * n, 0, 4, .ro, 0, []⟩
def CAL_STAT_PEND (n : Nat) : Fld := ⟨0x126048 + 0x10000 * n, 4, 4, .ro, 0, []⟩
def CAL_STAT_MPEND (n : Nat) : Fld := ⟨0x126048 + 0x10000 * n, 8, 1, .w1c, 0, []⟩
def CAL_STAT_TREF (n : Nat) : Fld := ⟨0x126048 + 0x10000 * n, 16, 10, .ro, 0, []⟩

/- CAL_RUNCFG: run limits, offset +0x04C (09_calibration.md) -/
def CAL_RUNCFG_NSEC (n : Nat) : Fld := ⟨0x12604C + 0x10000 * n, 0, 12, .rw, 0x800, [(64, 4095)]⟩
def CAL_RUNCFG_NSLOT (n : Nat) : Fld := ⟨0x12604C + 0x10000 * n, 12, 6, .rw, 1, [(1, 63)]⟩
def CAL_RUNCFG_TMAX (n : Nat) : Fld := ⟨0x12604C + 0x10000 * n, 24, 8, .rw, 0x64, [(1, 255)]⟩

/- CAL_MEDTRK: calibration tracks, offset +0x050 (09_calibration.md) -/
def CAL_MEDTRK_TRACK (n : Nat) : Fld := ⟨0x126050 + 0x10000 * n, 0, 22, .rw, 0, []⟩

/- CAL_SRVRES: coil-model result, offset +0x054 (09_calibration.md) -/
def CAL_SRVRES_RCOIL (n : Nat) : Fld := ⟨0x126054 + 0x10000 * n, 0, 16, .ro, 0, []⟩
def CAL_SRVRES_LCOIL (n : Nat) : Fld := ⟨0x126054 + 0x10000 * n, 16, 16, .ro, 0, []⟩

/- CAL_LIMk: plausibility limits of class k, offset +0x0A0 + 4·k (k = 0–8) (09_calibration.md) -/
def CAL_LIM_MIN (n : Nat) (k : Nat) : Fld := ⟨0x1260A0 + 0x10000 * n + 4 * k, 0, 10, .rw, calLimMin k, []⟩
def CAL_LIM_MAX (n : Nat) (k : Nat) : Fld := ⟨0x1260A0 + 0x10000 * n + 4 * k, 10, 10, .rw, calLimMax k, []⟩
def CAL_LIM_STEP (n : Nat) (k : Nat) : Fld := ⟨0x1260A0 + 0x10000 * n + 4 * k, 20, 10, .rw, calLimStep k, []⟩

/- CAL_RESSEL: result selection, offset +0x080 (09_calibration.md) -/
def CAL_RESSEL_SLOT (n : Nat) : Fld := ⟨0x126080 + 0x10000 * n, 0, 6, .rw, 0, []⟩
def CAL_RESSEL_VARIANT (n : Nat) : Fld := ⟨0x126080 + 0x10000 * n, 6, 2, .rw, 0, [(0, 0), (2, 2)]⟩

/- CAL_RESDATA: result word, offset +0x084 (09_calibration.md) -/
def CAL_RESDATA_DATA (n : Nat) : Fld := ⟨0x126084 + 0x10000 * n, 0, 32, .ro, 0, []⟩

/- CAL_UPDw: updated slots, offset +0x088 + 4·w (w = 0–1) (09_calibration.md) -/
def CAL_UPD_UPD (n : Nat) (w : Nat) : Fld := ⟨0x126088 + 0x10000 * n + 4 * w, 0, 32, .ro, 0, []⟩

end Sys2Proof.Machine
end

