-- ==== Sys2Proof/Machine/RegsHub.lean ====
section
/-!
DEFINITION. Machine/RegsHub.lean: the registers of the hub die's pages (R28), field by field, from the register tables of the chapters.
Each line is one field: offset, lowest bit, width, access code (R10), reset value, and the values that are not
reserved (R11; an empty list where every value is allowed).
-/
namespace Sys2Proof.Machine

/- GLB_FLXSTATn: Felox link n status, offset 0x10_0080 + 4·n (n = 0–6) (01_architecture.md) -/
def GLB_FLXSTAT_UP (n : Nat) : Fld := ⟨0x100080 + 4 * n, 0, 1, .ro, 0, []⟩
def GLB_FLXSTAT_FITTED (n : Nat) : Fld := ⟨0x100080 + 4 * n, 1, 1, .ro, 0, []⟩
def GLB_FLXSTAT_LANES (n : Nat) : Fld := ⟨0x100080 + 4 * n, 2, 4, .ro, 0, []⟩
def GLB_FLXSTAT_DEGRADED (n : Nat) : Fld := ⟨0x100080 + 4 * n, 6, 1, .ro, 0, []⟩
def GLB_FLXSTAT_DELAY (n : Nat) : Fld := ⟨0x100080 + 4 * n, 8, 8, .ro, 0, []⟩

/- GLB_FLXERRn: Felox link n error counts, offset 0x10_00A0 + 4·n (n = 0–6) (01_architecture.md) -/
def GLB_FLXERR_CRCERR (n : Nat) : Fld := ⟨0x1000A0 + 4 * n, 0, 16, .rc, 0, []⟩
def GLB_FLXERR_RETRAIN (n : Nat) : Fld := ⟨0x1000A0 + 4 * n, 16, 16, .rc, 0, []⟩

/- EVT_SWSET: software events, offset 0x10_4040 (02_register_and_event_conventions.md) -/
def EVT_SWSET_SET : Fld := ⟨0x104040, 0, 32, .w1s, 0, []⟩

/- EVT_WDSTAT: core watchdog status, offset 0x10_4044 (02_register_and_event_conventions.md) -/
def EVT_WDSTAT_EXP : Fld := ⟨0x104044, 0, 8, .w1c, 0, []⟩

/- EVT_ROUTEn: route entry of event n, offset 0x10_4400 + 4·n (n = 0x000–0x2FF) (02_register_and_event_conventions.md) -/
def EVT_ROUTE_VECTOR (n : Nat) : Fld := ⟨0x104400 + 4 * n, 0, 7, .rwl, 0, [(0, 64)]⟩
def EVT_ROUTE_MSIX (n : Nat) : Fld := ⟨0x104400 + 4 * n, 7, 1, .rwl, 0, []⟩
def EVT_ROUTE_CORES (n : Nat) : Fld := ⟨0x104400 + 4 * n, 8, 8, .rwl, 0, []⟩
def EVT_ROUTE_SEV (n : Nat) : Fld := ⟨0x104400 + 4 * n, 16, 3, .rwl, 0, [(0, 4)]⟩
def EVT_ROUTE_LOG (n : Nat) : Fld := ⟨0x104400 + 4 * n, 19, 1, .rwl, 0, []⟩

/- GLB_BOOTSTAT: boot status, offset 0x10_0100 (03_firmware_cores_and_boot.md) -/
def GLB_BOOTSTAT_CODE : Fld := ⟨0x100100, 0, 4, .ro, 0, []⟩
def GLB_BOOTSTAT_SLOT : Fld := ⟨0x100100, 4, 1, .ro, 0, []⟩
def GLB_BOOTSTAT_KEY : Fld := ⟨0x100100, 5, 1, .ro, 0, []⟩
def GLB_BOOTSTAT_FALLBACK : Fld := ⟨0x100100, 6, 1, .ro, 0, []⟩
def GLB_BOOTSTAT_DEFMCR : Fld := ⟨0x100100, 7, 1, .ro, 0, []⟩
def GLB_BOOTSTAT_SECVER : Fld := ⟨0x100100, 8, 8, .ro, 0, []⟩

/- GLB_CORERUN: core release, offset 0x10_0104 (03_firmware_cores_and_boot.md) -/
def GLB_CORERUN_RUN : Fld := ⟨0x100104, 0, 8, .w1s, 1, []⟩

/- GLB_COREPCc: core start address, offset 0x10_0120 + 4·c (c = 1–7) (03_firmware_cores_and_boot.md) -/
def GLB_COREPC_PC (c : Nat) : Fld := ⟨0x100120 + 4 * c, 0, 32, .rw, 0, []⟩

/- GLB_WDCTLc: watchdog control, offset 0x10_0140 + 4·c (c = 0–7) (03_firmware_cores_and_boot.md) -/
def GLB_WDCTL_PERIOD (c : Nat) : Fld := ⟨0x100140 + 4 * c, 0, 16, .rw, 0x3E8, [(1, 65535)]⟩
def GLB_WDCTL_EN (c : Nat) : Fld := ⟨0x100140 + 4 * c, 16, 1, .w1s, 0, []⟩
def GLB_WDCTL_DBGPAUSE (c : Nat) : Fld := ⟨0x100140 + 4 * c, 17, 1, .rw, 0, []⟩

/- GLB_WDKICKc: watchdog kick, offset 0x10_0160 + 4·c (c = 0–7) (03_firmware_cores_and_boot.md) -/
def GLB_WDKICK_KICK (c : Nat) : Fld := ⟨0x100160 + 4 * c, 0, 32, .wo, 0, []⟩

/- GLB_ROLLBACK: rollback counter and key revocation, offset 0x10_0180 (03_firmware_cores_and_boot.md) -/
def GLB_ROLLBACK_COUNT : Fld := ⟨0x100180, 0, 8, .ro, 0, []⟩
def GLB_ROLLBACK_TARGET : Fld := ⟨0x100180, 8, 8, .rw, 0, []⟩
def GLB_ROLLBACK_GO : Fld := ⟨0x100180, 16, 1, .w1s, 0, []⟩
def GLB_ROLLBACK_KEY0REV : Fld := ⟨0x100180, 17, 1, .w1s, 0, []⟩

/- GLB_MTCMPc: machine timer compare, offset 0x10_01C0 + 8·c (c = 0–7) (03_firmware_cores_and_boot.md) -/
def GLB_MTCMP_LO (c : Nat) : Fld := ⟨0x1001C0 + 8 * c, 0, 32, .rw, 0xFFFFFFFF, []⟩
def GLB_MTCMP_HI (c : Nat) : Fld := ⟨0x1001C0 + 8 * c + 4, 0, 32, .rw, 0xFFFFFFFF, []⟩

/- GLB_REFCTL: reference measurement, offset 0x10_0200 (09_calibration.md) -/
def GLB_REFCTL_CGO : Fld := ⟨0x100200, 0, 1, .w1s, 0, []⟩
def GLB_REFCTL_VGO : Fld := ⟨0x100200, 1, 1, .w1s, 0, []⟩
def GLB_REFCTL_BUSY : Fld := ⟨0x100200, 2, 1, .ro, 0, []⟩
def GLB_REFCTL_DONE : Fld := ⟨0x100200, 3, 1, .w1c, 0, []⟩
def GLB_REFCTL_NOCLK : Fld := ⟨0x100200, 4, 1, .w1c, 0, []⟩
def GLB_REFCTL_V : Fld := ⟨0x100200, 16, 16, .ro, 0, []⟩

/- GLB_REFCNT: clock count, offset 0x10_0204 (09_calibration.md) -/
def GLB_REFCNT_COUNT : Fld := ⟨0x100204, 0, 32, .ro, 0, []⟩

/- GLB_TRIM: reference trims, offset 0x10_0208 (09_calibration.md) -/
def GLB_TRIM_CLKTRIM : Fld := ⟨0x100208, 0, 16, .rwl, 0, []⟩
def GLB_TRIM_VGAIN : Fld := ⟨0x100208, 16, 16, .rwl, 0, []⟩

/- ZON_TBLBASE: zone record table, offset 0x10_B040 (10_zones_and_media_management.md) -/
def ZON_TBLBASE_ADDR : Fld := ⟨0x10B040, 0, 28, .rw, 0, []⟩

/- ZON_NREC: record count, offset 0x10_B044 (10_zones_and_media_management.md) -/
def ZON_NREC_NREC : Fld := ⟨0x10B044, 0, 20, .rw, 0, [(1, 524288)]⟩

/- ZON_SLIPBASE: slip lists, offset 0x10_B048 (10_zones_and_media_management.md) -/
def ZON_SLIPBASE_ADDR : Fld := ⟨0x10B048, 0, 28, .rw, 0, []⟩

/- ZON_NSBASE: namespace table, offset 0x10_B04C (10_zones_and_media_management.md) -/
def ZON_NSBASE_ADDR : Fld := ⟨0x10B04C, 0, 28, .rw, 0, []⟩

/- ZON_CTL: engine control, offset 0x10_B050 (10_zones_and_media_management.md) -/
def ZON_CTL_LOAD : Fld := ⟨0x10B050, 0, 1, .w1s, 0, []⟩
def ZON_CTL_PEND : Fld := ⟨0x10B050, 1, 1, .ro, 0, []⟩
def ZON_CTL_VALID : Fld := ⟨0x10B050, 2, 1, .ro, 0, []⟩
def ZON_CTL_BAD : Fld := ⟨0x10B050, 3, 1, .w1c, 0, []⟩
def ZON_CTL_SLIPFIN : Fld := ⟨0x10B050, 8, 8, .rw, 0x40, [(32, 64)]⟩
def ZON_CTL_SPARETHR : Fld := ⟨0x10B050, 16, 8, .rw, 0x10, []⟩

/- ZON_CTXSTAT: contexts, offset 0x10_B054 (10_zones_and_media_management.md) -/
def ZON_CTXSTAT_INUSE : Fld := ⟨0x10B054, 0, 13, .ro, 0, []⟩
def ZON_CTXSTAT_PEAK : Fld := ⟨0x10B054, 16, 13, .rc, 0, []⟩

/- ZON_RELOC: relocation order, offset 0x10_B058 (10_zones_and_media_management.md) -/
def ZON_RELOC_REC : Fld := ⟨0x10B058, 0, 20, .rw, 0, []⟩
def ZON_RELOC_GO : Fld := ⟨0x10B058, 20, 1, .w1s, 0, []⟩
def ZON_RELOC_BUSY : Fld := ⟨0x10B058, 21, 1, .ro, 0, []⟩
def ZON_RELOC_REFUSED : Fld := ⟨0x10B058, 22, 1, .w1c, 0, []⟩

/- ZON_SPAREn: spare zones of arm n, offset 0x10_B060 + 4·n (n = 0–3) (10_zones_and_media_management.md) -/
def ZON_SPARE_FREE (n : Nat) : Fld := ⟨0x10B060 + 4 * n, 0, 20, .ro, 0, []⟩

/- ZON_MCBASE: media-cache index, offset 0x10_B070 (10_zones_and_media_management.md) -/
def ZON_MCBASE_ADDR : Fld := ⟨0x10B070, 0, 28, .rw, 0, []⟩

/- ZON_MCCFG: media-cache configuration, offset 0x10_B074 (10_zones_and_media_management.md) -/
def ZON_MCCFG_BBITS : Fld := ⟨0x10B074, 0, 5, .rw, 0, [(0, 0), (10, 24)]⟩

/- ZON_MCCNT: media-cache counts, offset 0x10_B078 (10_zones_and_media_management.md) -/
def ZON_MCCNT_HIT : Fld := ⟨0x10B078, 0, 16, .rc, 0, []⟩
def ZON_MCCNT_FULL : Fld := ⟨0x10B078, 16, 16, .rc, 0, []⟩

/- ZON_SCANn: scan of arm n, offset 0x10_B080 + 4·n (n = 0–3) (10_zones_and_media_management.md) -/
def ZON_SCAN_REC (n : Nat) : Fld := ⟨0x10B080 + 4 * n, 0, 20, .rw, 0, []⟩
def ZON_SCAN_GO (n : Nat) : Fld := ⟨0x10B080 + 4 * n, 20, 1, .w1s, 0, []⟩
def ZON_SCAN_BUSY (n : Nat) : Fld := ⟨0x10B080 + 4 * n, 21, 1, .ro, 0, []⟩
def ZON_SCAN_RUNGTHR (n : Nat) : Fld := ⟨0x10B080 + 4 * n, 22, 4, .rw, 2, [(1, 11)]⟩

/- ZON_SCANDUTY: scan share, offset 0x10_B090 (10_zones_and_media_management.md) -/
def ZON_SCANDUTY_DUTY : Fld := ⟨0x10B090, 0, 8, .rw, 0x10, []⟩

/- ZON_RPTBASE: report ring, offset 0x10_B094 (10_zones_and_media_management.md) -/
def ZON_RPTBASE_ADDR : Fld := ⟨0x10B094, 0, 28, .rw, 0, []⟩

/- ZON_RPTCTL: report ring control, offset 0x10_B098 (10_zones_and_media_management.md) -/
def ZON_RPTCTL_LOG2 : Fld := ⟨0x10B098, 0, 4, .rw, 8, [(4, 12)]⟩
def ZON_RPTCTL_DROP : Fld := ⟨0x10B098, 16, 16, .rc, 0, []⟩

/- ZON_RPTHEAD: report head, offset 0x10_B09C (10_zones_and_media_management.md) -/
def ZON_RPTHEAD_HEAD : Fld := ⟨0x10B09C, 0, 12, .ro, 0, []⟩

/- ZON_RPTTAIL: report tail, offset 0x10_B0A0 (10_zones_and_media_management.md) -/
def ZON_RPTTAIL_TAIL : Fld := ⟨0x10B0A0, 0, 12, .rw, 0, []⟩

/- ZON_CNT0: slip and relocation counts, offset 0x10_B0A4 (10_zones_and_media_management.md) -/
def ZON_CNT0_SLIPS : Fld := ⟨0x10B0A4, 0, 16, .rc, 0, []⟩
def ZON_CNT0_RELOC : Fld := ⟨0x10B0A4, 16, 16, .rc, 0, []⟩

/- ZON_CNT1: reconstruction counts, offset 0x10_B0A8 (10_zones_and_media_management.md) -/
def ZON_CNT1_RECOK : Fld := ⟨0x10B0A8, 0, 16, .rc, 0, []⟩
def ZON_CNT1_RECFAIL : Fld := ⟨0x10B0A8, 16, 16, .rc, 0, []⟩

/- GLB_HOSTACC: host access lock, offset 0x10_0240 (11_host_endpoint.md) -/
def GLB_HOSTACC_LOCK : Fld := ⟨0x100240, 0, 1, .w1s, 1, []⟩
def GLB_HOSTACC_FUSED : Fld := ⟨0x100240, 1, 1, .ro, 0, []⟩

/- HEP_LINKSTAT: link status, offset 0x10_8040 (11_host_endpoint.md) -/
def HEP_LINKSTAT_DLUP : Fld := ⟨0x108040, 0, 1, .ro, 0, []⟩
def HEP_LINKSTAT_SPEED : Fld := ⟨0x108040, 1, 3, .ro, 0, []⟩
def HEP_LINKSTAT_WIDTH : Fld := ⟨0x108040, 4, 3, .ro, 0, []⟩
def HEP_LINKSTAT_PMSTATE : Fld := ⟨0x108040, 8, 2, .ro, 3, []⟩
def HEP_LINKSTAT_REVERSED : Fld := ⟨0x108040, 10, 1, .ro, 0, []⟩

/- HEP_ASPMCTL: link power control, offset 0x10_8044 (11_host_endpoint.md) -/
def HEP_ASPMCTL_IDLE : Fld := ⟨0x108044, 0, 8, .rw, 0x40, [(1, 255)]⟩
def HEP_ASPMCTL_LTRVAL : Fld := ⟨0x108044, 16, 10, .rw, 0x64, []⟩

/- HEP_SSID: subsystem identity, offset 0x10_8048 (11_host_endpoint.md) -/
def HEP_SSID_SVID : Fld := ⟨0x108048, 0, 16, .ro, 0, []⟩
def HEP_SSID_SSID : Fld := ⟨0x108048, 16, 16, .ro, 0, []⟩

/- HEP_ERRCNT0: unsupported requests, offset 0x10_8050 (11_host_endpoint.md) -/
def HEP_ERRCNT0_URPOSTED : Fld := ⟨0x108050, 0, 16, .rc, 0, []⟩
def HEP_ERRCNT0_URNP : Fld := ⟨0x108050, 16, 16, .rc, 0, []⟩

/- HEP_ERRCNT1: device read errors, offset 0x10_8054 (11_host_endpoint.md) -/
def HEP_ERRCNT1_CTO : Fld := ⟨0x108054, 0, 16, .rc, 0, []⟩
def HEP_ERRCNT1_UNEXP : Fld := ⟨0x108054, 16, 16, .rc, 0, []⟩

/- HEP_ERRCNT2: poison and link loss, offset 0x10_8058 (11_host_endpoint.md) -/
def HEP_ERRCNT2_POISON : Fld := ⟨0x108058, 0, 16, .rc, 0, []⟩
def HEP_ERRCNT2_DLDOWN : Fld := ⟨0x108058, 16, 16, .rc, 0, []⟩

/- HEP_WINCOMMIT: window commit, offset 0x10_8060 (11_host_endpoint.md) -/
def HEP_WINCOMMIT_GO : Fld := ⟨0x108060, 0, 1, .w1s, 0, []⟩
def HEP_WINCOMMIT_BUSY : Fld := ⟨0x108060, 1, 1, .ro, 0, []⟩
def HEP_WINCOMMIT_BAD : Fld := ⟨0x108060, 2, 1, .w1c, 0, []⟩
def HEP_WINCOMMIT_BADWIN : Fld := ⟨0x108060, 3, 4, .ro, 0, []⟩
def HEP_WINCOMMIT_REASON : Fld := ⟨0x108060, 7, 3, .ro, 0, []⟩

/- HEP_WINACT: active windows, offset 0x10_8064 (11_host_endpoint.md) -/
def HEP_WINACT_EN : Fld := ⟨0x108064, 0, 16, .ro, 0, []⟩
def HEP_WINACT_RDONLY : Fld := ⟨0x108064, 16, 16, .ro, 0, []⟩

/- HEP_CMBWIN: CMB selection, offset 0x10_8068 (staged) (11_host_endpoint.md) -/
def HEP_CMBWIN_WIN : Fld := ⟨0x108068, 0, 4, .rw, 0, []⟩
def HEP_CMBWIN_EN : Fld := ⟨0x108068, 4, 1, .rw, 0, []⟩
def HEP_CMBWIN_SQS : Fld := ⟨0x108068, 5, 1, .rw, 0, []⟩
def HEP_CMBWIN_DATA : Fld := ⟨0x108068, 6, 1, .rw, 0, []⟩

/- HEP_WINn: window n control, offset 0x10_8100 + 8·n (n = 0–15, staged) (11_host_endpoint.md) -/
def HEP_WIN_EN (n : Nat) : Fld := ⟨0x108100 + 8 * n, 0, 1, .rw, 0, []⟩
def HEP_WIN_RDONLY (n : Nat) : Fld := ⟨0x108100 + 8 * n, 1, 1, .rw, 0, []⟩
def HEP_WIN_LOG2SZ (n : Nat) : Fld := ⟨0x108100 + 8 * n, 2, 5, .rw, 0x10, []⟩
def HEP_WIN_BASE (n : Nat) : Fld := ⟨0x108100 + 8 * n, 16, 10, .rw, 0, []⟩

/- HEP_WINTn: window n target, offset 0x10_8104 + 8·n (n = 0–15, staged) (11_host_endpoint.md) -/
def HEP_WINT_TARGET (n : Nat) : Fld := ⟨0x108104 + 8 * n, 0, 19, .rw, 0, []⟩

/- CMD_CTL: dealer control, offset 0x10_9040 (12_command_engine_and_tenants.md) -/
def CMD_CTL_FWRDY : Fld := ⟨0x109040, 0, 1, .rw, 0, []⟩
def CMD_CTL_VWC : Fld := ⟨0x109040, 1, 1, .rw, 0, []⟩

/- CMD_STAT: dealer status, offset 0x10_9044 (12_command_engine_and_tenants.md) -/
def CMD_STAT_RDY : Fld := ⟨0x109044, 0, 1, .ro, 0, []⟩
def CMD_STAT_SHST : Fld := ⟨0x109044, 1, 2, .ro, 0, []⟩
def CMD_STAT_NOFETCH : Fld := ⟨0x109044, 3, 1, .ro, 0, []⟩
def CMD_STAT_WBFULL : Fld := ⟨0x109044, 4, 1, .ro, 0, []⟩

/- CMD_WBBUDGET: write budget, offset 0x10_9048 (12_command_engine_and_tenants.md) -/
def CMD_WBBUDGET_MIB : Fld := ⟨0x109048, 0, 9, .rw, 0x80, [(1, 256)]⟩

/- CMD_WBUSE: budget in use, offset 0x10_904C (12_command_engine_and_tenants.md) -/
def CMD_WBUSE_USED : Fld := ⟨0x10904C, 0, 17, .ro, 0, []⟩

/- CMD_CTXSTAT: contexts, offset 0x10_9050 (12_command_engine_and_tenants.md) -/
def CMD_CTXSTAT_INUSE : Fld := ⟨0x109050, 0, 15, .ro, 0, []⟩
def CMD_CTXSTAT_PEAK : Fld := ⟨0x109050, 16, 15, .rc, 0, []⟩

/- CMD_LCTGTc: latency class target, offset 0x10_9060 + 4·c (c = 0–3) (12_command_engine_and_tenants.md) -/
def CMD_LCTGT_TGT (c : Nat) : Fld := ⟨0x109060 + 4 * c, 0, 16, .rw, lctgtReset c, [(1, 65535)]⟩

/- CMD_RECOV: recovery limit, offset 0x10_9070 (12_command_engine_and_tenants.md) -/
def CMD_RECOV_MAXREC : Fld := ⟨0x109070, 0, 16, .rw, 0x64, [(1, 65535)]⟩

/- CMD_FWQBASE: firmware queue, offset 0x10_9080 (12_command_engine_and_tenants.md) -/
def CMD_FWQBASE_ADDR : Fld := ⟨0x109080, 0, 28, .rw, 0, []⟩

/- CMD_FWQCTL: firmware queue size, offset 0x10_9084 (12_command_engine_and_tenants.md) -/
def CMD_FWQCTL_LOG2 : Fld := ⟨0x109084, 0, 4, .rw, 0xA, [(5, 14)]⟩

/- CMD_FWQHEAD: firmware queue head, offset 0x10_9088 (12_command_engine_and_tenants.md) -/
def CMD_FWQHEAD_HEAD : Fld := ⟨0x109088, 0, 14, .ro, 0, []⟩

/- CMD_FWQTAIL: firmware queue tail, offset 0x10_908C (12_command_engine_and_tenants.md) -/
def CMD_FWQTAIL_TAIL : Fld := ⟨0x10908C, 0, 14, .rw, 0, []⟩

/- CMD_FWDONE: firmware completion, offset 0x10_9090 (12_command_engine_and_tenants.md) -/
def CMD_FWDONE_CTX : Fld := ⟨0x109090, 0, 14, .wo, 0, []⟩
def CMD_FWDONE_STATUS : Fld := ⟨0x109090, 15, 15, .wo, 0, []⟩

/- CMD_HANDn: hand n status, offset 0x10_90A0 + 4·n (n = 0–3) (12_command_engine_and_tenants.md) -/
def CMD_HAND_DEPTH (n : Nat) : Fld := ⟨0x1090A0 + 4 * n, 0, 12, .ro, 0, []⟩
def CMD_HAND_TRUMP (n : Nat) : Fld := ⟨0x1090A0 + 4 * n, 12, 1, .ro, 0, []⟩
def CMD_HAND_STOP (n : Nat) : Fld := ⟨0x1090A0 + 4 * n, 13, 1, .ro, 0, []⟩
def CMD_HAND_BUSY (n : Nat) : Fld := ⟨0x1090A0 + 4 * n, 16, 8, .ro, 0, []⟩

/- CMD_GOVOUT: values sent to the governor, offset 0x10_90B0 (12_command_engine_and_tenants.md) -/
def CMD_GOVOUT_DEMAND : Fld := ⟨0x1090B0, 0, 8, .ro, 0, []⟩
def CMD_GOVOUT_BREACH : Fld := ⟨0x1090B0, 8, 1, .ro, 0, []⟩

/- CMD_CNT0: wait counts, offset 0x10_90C0 (12_command_engine_and_tenants.md) -/
def CMD_CNT0_BUDGETWAIT : Fld := ⟨0x1090C0, 0, 16, .rc, 0, []⟩
def CMD_CNT0_CTXWAIT : Fld := ⟨0x1090C0, 16, 16, .rc, 0, []⟩

/- CMD_RCBASE: read cache, offset 0x10_90D0 (12_command_engine_and_tenants.md) -/
def CMD_RCBASE_ADDR : Fld := ⟨0x1090D0, 0, 28, .rw, 0, []⟩

/- CMD_RCCFG: read cache configuration, offset 0x10_90D4 (12_command_engine_and_tenants.md) -/
def CMD_RCCFG_LOG2 : Fld := ⟨0x1090D4, 0, 4, .rw, 0, [(0, 0), (4, 13)]⟩
def CMD_RCCFG_EN : Fld := ⟨0x1090D4, 7, 1, .rw, 1, []⟩
def CMD_RCCFG_AHEAD : Fld := ⟨0x1090D4, 8, 7, .rw, 0, [(0, 64)]⟩

/- CMD_RCCNT: read cache counts, offset 0x10_90D8 (12_command_engine_and_tenants.md) -/
def CMD_RCCNT_HIT : Fld := ⟨0x1090D8, 0, 16, .rc, 0, []⟩
def CMD_RCCNT_FILL : Fld := ⟨0x1090D8, 16, 16, .rc, 0, []⟩

/- TEN_NSSEL: namespace selection, offset 0x10_A040 (12_command_engine_and_tenants.md) -/
def TEN_NSSEL_NS : Fld := ⟨0x10A040, 0, 8, .rw, 0, []⟩

/- TEN_NSCFG0: tenant control, offset 0x10_A044 (12_command_engine_and_tenants.md) -/
def TEN_NSCFG0_EN (ns : Nat) : Fld := ⟨0x2000000 + 0x10 * ns + 0, 0, 1, .rw, 0, []⟩
def TEN_NSCFG0_CLASS (ns : Nat) : Fld := ⟨0x2000000 + 0x10 * ns + 0, 1, 2, .rw, 2, []⟩
def TEN_NSCFG0_CTXMAX (ns : Nat) : Fld := ⟨0x2000000 + 0x10 * ns + 0, 16, 14, .rw, 0, []⟩

/- TEN_NSCFG1: command rate, offset 0x10_A048 (12_command_engine_and_tenants.md) -/
def TEN_NSCFG1_IRATE (ns : Nat) : Fld := ⟨0x2000000 + 0x10 * ns + 4, 0, 20, .rw, 0, []⟩

/- TEN_NSCFG2: block rate, offset 0x10_A04C (12_command_engine_and_tenants.md) -/
def TEN_NSCFG2_BRATE (ns : Nat) : Fld := ⟨0x2000000 + 0x10 * ns + 8, 0, 24, .rw, 0, []⟩

/- TEN_NSCFG3: bucket depths, offset 0x10_A050 (12_command_engine_and_tenants.md) -/
def TEN_NSCFG3_IBURST (ns : Nat) : Fld := ⟨0x2000000 + 0x10 * ns + 12, 0, 12, .rw, 0x40, [(1, 4095)]⟩
def TEN_NSCFG3_BBURST (ns : Nat) : Fld := ⟨0x2000000 + 0x10 * ns + 12, 12, 20, .rw, 0x800, [(1, 1048575)]⟩

/- TEN_TICK: billing tick, offset 0x10_A060 (12_command_engine_and_tenants.md) -/
def TEN_TICK_SEC : Fld := ⟨0x10A060, 0, 12, .rws, 0x3C, [(1, 3600)]⟩

/- TEN_LATCH: latch request, offset 0x10_A064 (12_command_engine_and_tenants.md) -/
def TEN_LATCH_GO : Fld := ⟨0x10A064, 0, 1, .w1s, 0, []⟩

/- TEN_BANKBASE: bank address, offset 0x10_A068 (12_command_engine_and_tenants.md) -/
def TEN_BANKBASE_ADDR : Fld := ⟨0x10A068, 0, 28, .rws, 0, []⟩

/- TEN_BANKSTAT: bank states, offset 0x10_A06C (12_command_engine_and_tenants.md) -/
def TEN_BANKSTAT_STATE0 : Fld := ⟨0x10A06C, 0, 2, .ro, 0, []⟩
def TEN_BANKSTAT_STATE1 : Fld := ⟨0x10A06C, 2, 2, .ro, 0, []⟩
def TEN_BANKSTAT_LAST : Fld := ⟨0x10A06C, 4, 1, .ro, 1, []⟩

/- TEN_ACK: bank release, offset 0x10_A070 (12_command_engine_and_tenants.md) -/
def TEN_ACK_ACK : Fld := ⟨0x10A070, 0, 2, .wo, 0, []⟩

/- TEN_SEQ: latch sequence, offset 0x10_A074 (12_command_engine_and_tenants.md) -/
def TEN_SEQ_SEQ : Fld := ⟨0x10A074, 0, 32, .ro, 0, []⟩

/- TEN_OVERRUN: overrun count, offset 0x10_A078 (12_command_engine_and_tenants.md) -/
def TEN_OVERRUN_COUNT : Fld := ⟨0x10A078, 0, 16, .rc, 0, []⟩

/- HCC_WAYCFG: cache geometry, offset 0x11_0040 (13_hub_cache.md) -/
def HCC_WAYCFG_ASSOC : Fld := ⟨0x110040, 0, 2, .rw, 0, []⟩
def HCC_WAYCFG_HASH : Fld := ⟨0x110040, 2, 1, .rw, 1, []⟩

/- HCC_LOCK: way locks, offset 0x11_0044 (13_hub_cache.md) -/
def HCC_LOCK_MASK : Fld := ⟨0x110044, 0, 16, .rw, 0, []⟩
def HCC_LOCK_FENCED : Fld := ⟨0x110044, 16, 16, .ro, 0, []⟩

/- HCC_CTXBASE: context region, offset 0x11_0048 (13_hub_cache.md) -/
def HCC_CTXBASE_ADDR : Fld := ⟨0x110048, 0, 13, .rw, 0, []⟩
def HCC_CTXBASE_WAY : Fld := ⟨0x110048, 16, 4, .rw, 0, []⟩

/- HCC_VICTHR: victim acceptance threshold, offset 0x11_004C (13_hub_cache.md) -/
def HCC_VICTHR_THR : Fld := ⟨0x11004C, 0, 20, .rw, 0x400, []⟩

/- HCC_RBASE: range base, offset 0x11_0050 (13_hub_cache.md) -/
def HCC_RBASE_ADDR : Fld := ⟨0x110050, 0, 28, .rw, 0, []⟩

/- HCC_RLEN: range length, offset 0x11_0054 (13_hub_cache.md) -/
def HCC_RLEN_LINES : Fld := ⟨0x110054, 0, 27, .rw, 1, [(1, 134217727)]⟩

/- HCC_RCTL: range operation, offset 0x11_0058 (13_hub_cache.md) -/
def HCC_RCTL_GO : Fld := ⟨0x110058, 0, 1, .w1s, 0, []⟩
def HCC_RCTL_BUSY : Fld := ⟨0x110058, 1, 1, .ro, 0, []⟩
def HCC_RCTL_DONE : Fld := ⟨0x110058, 2, 1, .w1c, 0, []⟩
def HCC_RCTL_ERR : Fld := ⟨0x110058, 3, 1, .w1c, 0, []⟩
def HCC_RCTL_OP : Fld := ⟨0x110058, 4, 3, .rw, 0, [(0, 5)]⟩
def HCC_RCTL_REFUSED : Fld := ⟨0x110058, 7, 1, .w1c, 0, []⟩
def HCC_RCTL_WAY : Fld := ⟨0x110058, 8, 4, .rw, 0, []⟩

/- HCC_RPROG: range progress, offset 0x11_005C (13_hub_cache.md) -/
def HCC_RPROG_DONE : Fld := ⟨0x11005C, 0, 27, .ro, 0, []⟩

/- HCC_CZERO: zero a line, offset 0x11_0060 (13_hub_cache.md) -/
def HCC_CZERO_ADDR : Fld := ⟨0x110060, 0, 28, .wo, 0, []⟩

/- HCC_VBSTAT: victim buffer, offset 0x11_0064 (13_hub_cache.md) -/
def HCC_VBSTAT_USED : Fld := ⟨0x110064, 0, 4, .ro, 0, []⟩

/- HCC_HITCNT: hits, offset 0x11_0070 (13_hub_cache.md) -/
def HCC_HITCNT_HITS : Fld := ⟨0x110070, 0, 32, .rc, 0, []⟩

/- HCC_MISSCNT: misses, offset 0x11_0074 (13_hub_cache.md) -/
def HCC_MISSCNT_MISSES : Fld := ⟨0x110074, 0, 32, .rc, 0, []⟩

/- HCC_VICCNT: victim outcomes, offset 0x11_0078 (13_hub_cache.md) -/
def HCC_VICCNT_DECLINED : Fld := ⟨0x110078, 0, 16, .rc, 0, []⟩
def HCC_VICCNT_REINST : Fld := ⟨0x110078, 16, 16, .rc, 0, []⟩

/- BUF_CFGd: victim area of die d, offset 0x11_3040 + 4·d (d = 0–1) (13_hub_cache.md) -/
def BUF_CFG_VICSZ (d : Nat) : Fld := ⟨0x113040 + 4 * d, 0, 6, .rw, 0x10, [(0, 32)]⟩

/- BUF_MIRd: mirror region of die d, offset 0x11_3048 + 4·d (d = 0–1) (13_hub_cache.md) -/
def BUF_MIR_BASE (d : Nat) : Fld := ⟨0x113048 + 4 * d, 0, 6, .rw, 0, []⟩
def BUF_MIR_SIZE (d : Nat) : Fld := ⟨0x113048 + 4 * d, 8, 7, .rw, 0x20, [(1, 64)]⟩

/- BUF_WDBASE: write-data region, offset 0x11_3050 (13_hub_cache.md) -/
def BUF_WDBASE_ADDR : Fld := ⟨0x113050, 0, 28, .rw, 0, []⟩

/- BUF_SDMIR: SDRAM mirror region, offset 0x11_3054 (13_hub_cache.md) -/
def BUF_SDMIR_ADDR : Fld := ⟨0x113054, 0, 28, .rw, 0, []⟩

/- BUF_VSTBASE: vault staging, offset 0x11_3058 (13_hub_cache.md) -/
def BUF_VSTBASE_ADDR : Fld := ⟨0x113058, 0, 28, .rw, 0, []⟩

/- BUF_VICSTATd: victim area state of die d, offset 0x11_3060 + 4·d (d = 0–1) (13_hub_cache.md) -/
def BUF_VICSTAT_FREE (d : Nat) : Fld := ⟨0x113060 + 4 * d, 0, 20, .ro, 0, []⟩

/- BUF_MIRSTATd: mirror use of die d, offset 0x11_3068 + 4·d (d = 0–1) (13_hub_cache.md) -/
def BUF_MIRSTAT_USED (d : Nat) : Fld := ⟨0x113068 + 4 * d, 0, 15, .ro, 0, []⟩
def BUF_MIRSTAT_FENCED (d : Nat) : Fld := ⟨0x113068 + 4 * d, 16, 15, .ro, 0, []⟩

/- BUF_VICCNT: victim area counts, offset 0x11_3070 (13_hub_cache.md) -/
def BUF_VICCNT_HIT : Fld := ⟨0x113070, 0, 16, .rc, 0, []⟩
def BUF_VICCNT_PLACED : Fld := ⟨0x113070, 16, 16, .rc, 0, []⟩

/- MEP_SCRCTL: scrubber control, offset 0x11_1040 (14_memory_protection.md) -/
def MEP_SCRCTL_EN : Fld := ⟨0x111040, 0, 1, .rw, 1, []⟩
def MEP_SCRCTL_SRAMPER : Fld := ⟨0x111040, 8, 8, .rw, 6, [(1, 255)]⟩
def MEP_SCRCTL_SDRPER : Fld := ⟨0x111040, 16, 8, .rw, 0x18, [(1, 255)]⟩

/- MEP_CECNT: correctable errors, offset 0x11_1048 (14_memory_protection.md) -/
def MEP_CECNT_SRAM : Fld := ⟨0x111048, 0, 16, .rc, 0, []⟩
def MEP_CECNT_SDRAM : Fld := ⟨0x111048, 16, 16, .rc, 0, []⟩

/- MEP_UECNT: new uncorrectable errors, offset 0x11_104C (14_memory_protection.md) -/
def MEP_UECNT_SRAM : Fld := ⟨0x11104C, 0, 16, .rc, 0, []⟩
def MEP_UECNT_SDRAM : Fld := ⟨0x11104C, 16, 16, .rc, 0, []⟩

/- MEP_ERRLOG0: last error address, offset 0x11_1050 (14_memory_protection.md) -/
def MEP_ERRLOG0_ADDR : Fld := ⟨0x111050, 0, 32, .ro, 0, []⟩

/- MEP_ERRLOG1: last error detail, offset 0x11_1054 (14_memory_protection.md) -/
def MEP_ERRLOG1_SYND : Fld := ⟨0x111054, 0, 8, .ro, 0, []⟩
def MEP_ERRLOG1_MEM : Fld := ⟨0x111054, 8, 3, .ro, 0, []⟩
def MEP_ERRLOG1_SCRUB : Fld := ⟨0x111054, 11, 1, .ro, 0, []⟩
def MEP_ERRLOG1_WORD : Fld := ⟨0x111054, 12, 4, .ro, 0, []⟩

/- MEP_RESTCNT: copy outcomes, offset 0x11_1058 (14_memory_protection.md) -/
def MEP_RESTCNT_RESTORED : Fld := ⟨0x111058, 0, 16, .rc, 0, []⟩
def MEP_RESTCNT_LOST : Fld := ⟨0x111058, 16, 16, .rc, 0, []⟩

/- MEP_TSTCTL: test mode control, offset 0x11_1060 (14_memory_protection.md) -/
def MEP_TSTCTL_EN : Fld := ⟨0x111060, 0, 1, .rwl, 0, []⟩
def MEP_TSTCTL_GO : Fld := ⟨0x111060, 1, 1, .w1s, 0, []⟩
def MEP_TSTCTL_BUSY : Fld := ⟨0x111060, 2, 1, .ro, 0, []⟩
def MEP_TSTCTL_DONE : Fld := ⟨0x111060, 3, 1, .w1c, 0, []⟩
def MEP_TSTCTL_ERR : Fld := ⟨0x111060, 4, 1, .w1c, 0, []⟩
def MEP_TSTCTL_OP : Fld := ⟨0x111060, 5, 1, .rw, 0, []⟩

/- MEP_TSTADDR: test address, offset 0x11_1064 (14_memory_protection.md) -/
def MEP_TSTADDR_ADDR : Fld := ⟨0x111064, 0, 32, .rw, 0, []⟩

/- MEP_TSTDATA0: test data low, offset 0x11_1068 (14_memory_protection.md) -/
def MEP_TSTDATA0_DATA : Fld := ⟨0x111068, 0, 32, .rw, 0, []⟩

/- MEP_TSTDATA1: test data high, offset 0x11_106C (14_memory_protection.md) -/
def MEP_TSTDATA1_DATA : Fld := ⟨0x11106C, 0, 32, .rw, 0, []⟩

/- MEP_TSTCHK: test check bits, offset 0x11_1070 (14_memory_protection.md) -/
def MEP_TSTCHK_CHK : Fld := ⟨0x111070, 0, 8, .rw, 0, []⟩
def MEP_TSTCHK_XOR : Fld := ⟨0x111070, 8, 1, .rw, 1, []⟩

/- DRC_MAP: address map, offset 0x11_2040 (14_memory_protection.md) -/
def DRC_MAP_ILV : Fld := ⟨0x112040, 0, 5, .rw, 0xC, [(0, 0), (12, 20)]⟩
def DRC_MAP_CHGIB : Fld := ⟨0x112040, 8, 4, .ro, 0, []⟩
def DRC_MAP_RANKS : Fld := ⟨0x112040, 12, 2, .ro, 0, []⟩
def DRC_MAP_MAPLOCK : Fld := ⟨0x112040, 14, 1, .ro, 0, []⟩

/- DRC_STAT: controller status, offset 0x11_2044 (14_memory_protection.md) -/
def DRC_STAT_TRAINED : Fld := ⟨0x112044, 0, 1, .ro, 0, []⟩
def DRC_STAT_SREF : Fld := ⟨0x112044, 1, 2, .ro, 0, []⟩
def DRC_STAT_REFX2 : Fld := ⟨0x112044, 3, 2, .ro, 0, []⟩
def DRC_STAT_MTS : Fld := ⟨0x112044, 16, 16, .ro, 0, []⟩

/- DRC_FILLBASE: fill range start, offset 0x11_2048 (14_memory_protection.md) -/
def DRC_FILLBASE_ADDR : Fld := ⟨0x112048, 0, 28, .rw, 0, []⟩

/- DRC_FILLCTL: fill engine, offset 0x11_204C (14_memory_protection.md) -/
def DRC_FILLCTL_GO : Fld := ⟨0x11204C, 0, 1, .w1s, 0, []⟩
def DRC_FILLCTL_BUSY : Fld := ⟨0x11204C, 1, 1, .ro, 0, []⟩
def DRC_FILLCTL_DONE : Fld := ⟨0x11204C, 2, 1, .w1c, 0, []⟩
def DRC_FILLCTL_ERR : Fld := ⟨0x11204C, 3, 1, .w1c, 0, []⟩
def DRC_FILLCTL_LEN : Fld := ⟨0x11204C, 16, 16, .rw, 0, []⟩

/- DRC_FENCE: fenced rank regions, offset 0x11_2050 (14_memory_protection.md) -/
def DRC_FENCE_FENCED : Fld := ⟨0x112050, 0, 32, .ro, 0, []⟩

/- CRY_NSSEL: namespace selection, offset 0x11_4040 (15_cipher_engine.md) -/
def CRY_NSSEL_NS : Fld := ⟨0x114040, 0, 8, .rw, 0, []⟩

/- CRY_NSBIND: namespace binding, offset 0x11_4044 (15_cipher_engine.md) -/
def CRY_NSBIND_SLOT (ns : Nat) : Fld := ⟨0x2002000 + 4 * ns, 0, 9, .rw, 0, []⟩
def CRY_NSBIND_MODE (ns : Nat) : Fld := ⟨0x2002000 + 4 * ns, 9, 1, .rw, 0, []⟩
def CRY_NSBIND_VALID (ns : Nat) : Fld := ⟨0x2002000 + 4 * ns, 10, 1, .rw, 0, []⟩

/- CRY_GENBASE: generation table, offset 0x11_4048 (15_cipher_engine.md) -/
def CRY_GENBASE_ADDR : Fld := ⟨0x114048, 0, 28, .rw, 0, []⟩

/- CRY_SCA: countermeasures, offset 0x11_404C (15_cipher_engine.md) -/
def CRY_SCA_DUMMAX : Fld := ⟨0x11404C, 0, 4, .rwl, 7, []⟩
def CRY_SCA_SHUF : Fld := ⟨0x11404C, 4, 1, .rwl, 1, []⟩

/- CRY_RNGCTL: randomness control, offset 0x11_4050 (15_cipher_engine.md) -/
def CRY_RNGCTL_RESEED : Fld := ⟨0x114050, 0, 1, .w1s, 0, []⟩
def CRY_RNGCTL_REINIT : Fld := ⟨0x114050, 1, 1, .w1s, 0, []⟩

/- CRY_RNGSTAT: randomness status, offset 0x11_4054 (15_cipher_engine.md) -/
def CRY_RNGSTAT_READY : Fld := ⟨0x114054, 0, 1, .ro, 0, []⟩
def CRY_RNGSTAT_ERR : Fld := ⟨0x114054, 1, 1, .ro, 0, []⟩
def CRY_RNGSTAT_HTFAIL : Fld := ⟨0x114054, 16, 16, .rc, 0, []⟩

/- CRY_STAT: engine status, offset 0x11_4058 (15_cipher_engine.md) -/
def CRY_STAT_CAPPCT : Fld := ⟨0x114058, 0, 7, .ro, 0x64, []⟩
def CRY_STAT_SLOTS : Fld := ⟨0x114058, 8, 10, .ro, 0, []⟩

/- CRY_CNT0: integrity counts, offset 0x11_4060 (15_cipher_engine.md) -/
def CRY_CNT0_TAGFAIL : Fld := ⟨0x114060, 0, 16, .rc, 0, []⟩
def CRY_CNT0_GENEXH : Fld := ⟨0x114060, 16, 16, .rc, 0, []⟩

/- KMU_LOCK: lock, offset 0x11_5040 (15_cipher_engine.md) -/
def KMU_LOCK_OWNER : Fld := ⟨0x115040, 0, 4, .rw, 0, [(0, 9)]⟩

/- KMU_CMD: operation, offset 0x11_5044 (15_cipher_engine.md) -/
def KMU_CMD_OP : Fld := ⟨0x115044, 0, 3, .rw, 0, [(0, 4)]⟩
def KMU_CMD_MODE : Fld := ⟨0x115044, 3, 1, .rw, 0, []⟩
def KMU_CMD_SLOT : Fld := ⟨0x115044, 4, 9, .rw, 0, []⟩
def KMU_CMD_VSLOT : Fld := ⟨0x115044, 13, 6, .rw, 0, []⟩
def KMU_CMD_KEKSEL : Fld := ⟨0x115044, 19, 6, .rw, 0, []⟩
def KMU_CMD_GO : Fld := ⟨0x115044, 31, 1, .w1s, 0, []⟩

/- KMU_STAT: operation status, offset 0x11_5048 (15_cipher_engine.md) -/
def KMU_STAT_BUSY : Fld := ⟨0x115048, 0, 1, .ro, 0, []⟩
def KMU_STAT_DONE : Fld := ⟨0x115048, 1, 1, .w1c, 0, []⟩
def KMU_STAT_ERR : Fld := ⟨0x115048, 2, 3, .w1c, 0, []⟩

/- KMU_CNT: KMU counts, offset 0x11_504C (15_cipher_engine.md) -/
def KMU_CNT_UNWRAPFAIL : Fld := ⟨0x11504C, 0, 16, .rc, 0, []⟩
def KMU_CNT_EXPIRED : Fld := ⟨0x11504C, 16, 16, .rc, 0, []⟩

/- KMU_BLOBw: key blob word w, offset 0x11_5060 + 4·w (w = 0–17) (15_cipher_engine.md) -/
def KMU_BLOB_DATA (w : Nat) : Fld := ⟨0x115060 + 4 * w, 0, 32, .rw, 0, []⟩

/- KMU_VSTATw: Verom usage, offset 0x11_50C0 + 4·w (w = 0–3) (15_cipher_engine.md) -/
def KMU_VSTAT_USAGE (w : Nat) : Fld := ⟨0x1150C0 + 4 * w, 0, 32, .ro, 0, []⟩

/- KMU_SLOTSTATw: engine slot state, offset 0x11_5100 + 4·w (w = 0–31) (15_cipher_engine.md) -/
def KMU_SLOTSTAT_STATE (w : Nat) : Fld := ⟨0x115100 + 4 * w, 0, 32, .ro, 0, []⟩

/- LOG_CTL: overwrite mode, offset 0x11_6040 (16_event_recorder.md) -/
def LOG_CTL_MODE : Fld := ⟨0x116040, 0, 1, .rwl, 0, []⟩

/- LOG_KITTY: kitty size, offset 0x11_6044 (16_event_recorder.md) -/
def LOG_KITTY_COUNT : Fld := ⟨0x116044, 0, 17, .rwl, 0x400, []⟩

/- LOG_STAT: recorder state, offset 0x11_6048 (16_event_recorder.md) -/
def LOG_STAT_SCANNING : Fld := ⟨0x116048, 0, 1, .ro, 0, []⟩
def LOG_STAT_NOERASE : Fld := ⟨0x116048, 1, 1, .ro, 0, []⟩
def LOG_STAT_STOPPED : Fld := ⟨0x116048, 2, 1, .ro, 0, []⟩
def LOG_STAT_COPYING : Fld := ⟨0x116048, 3, 1, .ro, 0, []⟩
def LOG_STAT_QUEUED : Fld := ⟨0x116048, 4, 7, .ro, 0, []⟩

/- LOG_SEQ: next sequence number, offset 0x11_604C (16_event_recorder.md) -/
def LOG_SEQ_NEXT : Fld := ⟨0x11604C, 0, 32, .ro, 0, []⟩

/- LOG_OLDEST: lowest sequence number, offset 0x11_6050 (16_event_recorder.md) -/
def LOG_OLDEST_SEQ : Fld := ⟨0x116050, 0, 32, .ro, 0, []⟩

/- LOG_COUNT: records present, offset 0x11_6054 (16_event_recorder.md) -/
def LOG_COUNT_PRESENT : Fld := ⟨0x116054, 0, 17, .ro, 0, []⟩

/- LOG_CAP: capacity, offset 0x11_6058 (16_event_recorder.md) -/
def LOG_CAP_CAP : Fld := ⟨0x116058, 0, 17, .ro, 0, []⟩

/- LOG_PWRCYC: power-cycle count, offset 0x11_605C (16_event_recorder.md) -/
def LOG_PWRCYC_PCC : Fld := ⟨0x11605C, 0, 32, .ro, 0, []⟩

/- LOG_OPSECL: operating seconds low, offset 0x11_6060 (16_event_recorder.md) -/
def LOG_OPSECL_OPS : Fld := ⟨0x116060, 0, 32, .ro, 0, []⟩

/- LOG_OPSECH: operating seconds high, offset 0x11_6064 (16_event_recorder.md) -/
def LOG_OPSECH_OPS : Fld := ⟨0x116064, 0, 8, .ro, 0, []⟩

/- LOG_SCAN: scan results, offset 0x11_6068 (16_event_recorder.md) -/
def LOG_SCAN_TORN : Fld := ⟨0x116068, 0, 16, .ro, 0, []⟩
def LOG_SCAN_CRCBAD : Fld := ⟨0x116068, 16, 16, .ro, 0, []⟩

/- LOG_DROPCNT: dropped records, offset 0x11_606C (16_event_recorder.md) -/
def LOG_DROPCNT_DROPPED : Fld := ⟨0x11606C, 0, 32, .ro, 0, []⟩

/- LOG_RDSEQ: read request, offset 0x11_6070 (16_event_recorder.md) -/
def LOG_RDSEQ_SEQ : Fld := ⟨0x116070, 0, 32, .rw, 0, []⟩

/- LOG_RDSTAT: read status, offset 0x11_6074 (16_event_recorder.md) -/
def LOG_RDSTAT_BUSY : Fld := ⟨0x116074, 0, 1, .ro, 0, []⟩
def LOG_RDSTAT_DONE : Fld := ⟨0x116074, 1, 1, .w1c, 0, []⟩
def LOG_RDSTAT_NONE : Fld := ⟨0x116074, 2, 1, .w1c, 0, []⟩

/- LOG_RDDATAw: record word w, offset 0x11_6080 + 4·w (w = 0–15) (16_event_recorder.md) -/
def LOG_RDDATA_DATA (w : Nat) : Fld := ⟨0x116080 + 4 * w, 0, 32, .ro, 0, []⟩

/- LOG_FWCTL: firmware append, offset 0x11_60C0 (16_event_recorder.md) -/
def LOG_FWCTL_CODE : Fld := ⟨0x1160C0, 0, 16, .rw, 0x1000, []⟩
def LOG_FWCTL_SEV : Fld := ⟨0x1160C0, 16, 3, .rw, 0, [(0, 4)]⟩
def LOG_FWCTL_GO : Fld := ⟨0x1160C0, 24, 1, .w1s, 0, []⟩
def LOG_FWCTL_REFUSED : Fld := ⟨0x1160C0, 25, 1, .w1c, 0, []⟩

/- LOG_FWDATAw: firmware payload word w, offset 0x11_60C4 + 4·w (w = 0–9) (16_event_recorder.md) -/
def LOG_FWDATA_DATA (w : Nat) : Fld := ⟨0x1160C4 + 4 * w, 0, 32, .rw, 0, []⟩

/- THM_TMAX: highest reading, offset 0x11_7040 (17_thermal_management.md) -/
def THM_TMAX_TEMP : Fld := ⟨0x117040, 0, 12, .ro, 0, []⟩
def THM_TMAX_SRC : Fld := ⟨0x117040, 12, 6, .ro, 0, []⟩
def THM_TMAX_SUBST : Fld := ⟨0x117040, 18, 1, .ro, 0, []⟩

/- THM_TMIN: lowest reading, offset 0x11_7044 (17_thermal_management.md) -/
def THM_TMIN_TEMP : Fld := ⟨0x117044, 0, 12, .ro, 0, []⟩
def THM_TMIN_SRC : Fld := ⟨0x117044, 12, 6, .ro, 0, []⟩

/- THM_THR0: cold thresholds, offset 0x11_7048 (17_thermal_management.md) -/
def THM_THR0_CSTOP : Fld := ⟨0x117048, 0, 12, .rwl, 0xFD8, []⟩
def THM_THR0_CWARN : Fld := ⟨0x117048, 16, 12, .rwl, 0, []⟩

/- THM_THR1: throttle thresholds, offset 0x11_704C (17_thermal_management.md) -/
def THM_THR1_HOT1 : Fld := ⟨0x11704C, 0, 12, .rwl, 0x17C, []⟩
def THM_THR1_HOT2 : Fld := ⟨0x11704C, 16, 12, .rwl, 0x1A4, []⟩

/- THM_THR2: top thresholds, offset 0x11_7050 (17_thermal_management.md) -/
def THM_THR2_HOT3 : Fld := ⟨0x117050, 0, 12, .rwl, 0x1C0, []⟩
def THM_THR2_CRIT : Fld := ⟨0x117050, 16, 12, .rwl, 0x1F4, [(0, 500), (2048, 4095)]⟩

/- THM_THRCTL: throttle control, offset 0x11_7054 (17_thermal_management.md) -/
def THM_THRCTL_HYST : Fld := ⟨0x117054, 0, 4, .rw, 3, [(1, 15)]⟩
def THM_THRCTL_EXCLT : Fld := ⟨0x117054, 4, 4, .rw, 0xA, [(1, 15)]⟩
def THM_THRCTL_KEEP2 : Fld := ⟨0x117054, 8, 4, .rw, 3, []⟩
def THM_THRCTL_KEEP1 : Fld := ⟨0x117054, 12, 2, .rw, 0, []⟩
def THM_THRCTL_CIPHCAP : Fld := ⟨0x117054, 16, 7, .rw, 0x32, [(10, 100)]⟩
def THM_THRCTL_HOLDREL : Fld := ⟨0x117054, 24, 1, .w1s, 0, []⟩

/- THM_STAT: thermal state, offset 0x11_7058 (17_thermal_management.md) -/
def THM_STAT_STEP : Fld := ⟨0x117058, 0, 2, .ro, 0, []⟩
def THM_STAT_PREHEAT : Fld := ⟨0x117058, 2, 1, .ro, 0, []⟩
def THM_STAT_COLDSTOP : Fld := ⟨0x117058, 3, 1, .ro, 0, []⟩
def THM_STAT_HOLD : Fld := ⟨0x117058, 4, 1, .ro, 0, []⟩
def THM_STAT_LATCHED : Fld := ⟨0x117058, 5, 1, .ro, 0, []⟩
def THM_STAT_DIESUB : Fld := ⟨0x117058, 16, 8, .ro, 0, []⟩

/- THM_TSn: sensor n, offset 0x11_7100 + 4·n (n = 0–47) (17_thermal_management.md) -/
def THM_TS_TEMP (n : Nat) : Fld := ⟨0x117100 + 4 * n, 0, 12, .ro, 0, []⟩
def THM_TS_VALID (n : Nat) : Fld := ⟨0x117100 + 4 * n, 12, 1, .ro, 0, []⟩
def THM_TS_EXCL (n : Nat) : Fld := ⟨0x117100 + 4 * n, 13, 1, .ro, 0, []⟩
def THM_TS_ABSENT (n : Nat) : Fld := ⟨0x117100 + 4 * n, 14, 1, .ro, 0, []⟩
def THM_TS_RAW (n : Nat) : Fld := ⟨0x117100 + 4 * n, 16, 16, .ro, 0, []⟩

/- THM_TSTRIMn: trim of sensor n, offset 0x11_7200 + 4·n (n = 0–47) (17_thermal_management.md) -/
def THM_TSTRIM_OFFSET (n : Nat) : Fld := ⟨0x117200 + 4 * n, 0, 16, .rw, 0, []⟩
def THM_TSTRIM_SLOPE (n : Nat) : Fld := ⟨0x117200 + 4 * n, 16, 16, .rw, 0, []⟩

/- PWS_PSCTL: power-state order, offset 0x10_2040 (18_power_states_and_resets.md) -/
def PWS_PSCTL_TARGET : Fld := ⟨0x102040, 0, 3, .rw, 0, [(0, 4)]⟩
def PWS_PSCTL_GO : Fld := ⟨0x102040, 3, 1, .w1s, 0, []⟩

/- PWS_PSSTAT: power-state status, offset 0x10_2044 (18_power_states_and_resets.md) -/
def PWS_PSSTAT_STATE : Fld := ⟨0x102044, 0, 3, .ro, 0, []⟩
def PWS_PSSTAT_BUSY : Fld := ⟨0x102044, 3, 1, .ro, 0, []⟩
def PWS_PSSTAT_FROM : Fld := ⟨0x102044, 4, 3, .ro, 0, []⟩
def PWS_PSSTAT_REASON : Fld := ⟨0x102044, 8, 3, .ro, 0, []⟩

/- PWS_RSTSTAT: reset status, offset 0x10_2048 (18_power_states_and_resets.md) -/
def PWS_RSTSTAT_POR : Fld := ⟨0x102048, 0, 1, .ro, 1, []⟩
def PWS_RSTSTAT_PERST : Fld := ⟨0x102048, 1, 1, .ro, 0, []⟩
def PWS_RSTSTAT_QLATE : Fld := ⟨0x102048, 2, 1, .ro, 0, []⟩
def PWS_RSTSTAT_VINC : Fld := ⟨0x102048, 3, 1, .ro, 0, []⟩
def PWS_RSTSTAT_WDEXP : Fld := ⟨0x102048, 4, 1, .ro, 0, []⟩
def PWS_RSTSTAT_RETAIN : Fld := ⟨0x102048, 5, 1, .ro, 0, []⟩
def PWS_RSTSTAT_QTIME : Fld := ⟨0x102048, 16, 16, .ro, 0, []⟩

/- PWS_SAVEBASE: buffer save region, offset 0x10_204C (18_power_states_and_resets.md) -/
def PWS_SAVEBASE_ADDR : Fld := ⟨0x10204C, 0, 28, .rw, 0, []⟩

/- PWS_SAVECNT: save and restore errors, offset 0x10_2050 (18_power_states_and_resets.md) -/
def PWS_SAVECNT_POISONED : Fld := ⟨0x102050, 0, 16, .rc, 0, []⟩
def PWS_SAVECNT_NEWUE : Fld := ⟨0x102050, 16, 16, .rc, 0, []⟩

/- PWS_RETBASE: retention index, offset 0x10_2054 (18_power_states_and_resets.md) -/
def PWS_RETBASE_ADDR : Fld := ⟨0x102054, 0, 28, .rws, 0, []⟩

/- GLB_VLTCTL: vault control, offset 0x10_0280 (19_guarantees_and_degraded_operation.md) -/
def GLB_VLTCTL_MIRROR : Fld := ⟨0x100280, 0, 1, .rws, 0, []⟩
def GLB_VLTCTL_REPLAY : Fld := ⟨0x100280, 1, 1, .w1s, 0, []⟩
def GLB_VLTCTL_BUSY : Fld := ⟨0x100280, 2, 1, .ro, 0, []⟩
def GLB_VLTCTL_DONE : Fld := ⟨0x100280, 3, 1, .w1c, 0, []⟩
def GLB_VLTCTL_RELEASE : Fld := ⟨0x100280, 4, 1, .w1s, 0, []⟩

/- GLB_VLTAREAa: vault area a, offset 0x10_0284 + 4·a (a = 0–1) (19_guarantees_and_degraded_operation.md) -/
def GLB_VLTAREA_FIRST (a : Nat) : Fld := ⟨0x100284 + 4 * a, 0, 20, .rws, 0, []⟩
def GLB_VLTAREA_NZONES (a : Nat) : Fld := ⟨0x100284 + 4 * a, 20, 8, .rws, 0, []⟩

/- GLB_VLTSTAT: vault state, offset 0x10_028C (19_guarantees_and_degraded_operation.md) -/
def GLB_VLTSTAT_EMPTY : Fld := ⟨0x10028C, 0, 1, .ro, 0, []⟩
def GLB_VLTSTAT_INC : Fld := ⟨0x10028C, 1, 1, .ro, 0, []⟩
def GLB_VLTSTAT_HELD : Fld := ⟨0x10028C, 2, 1, .ro, 0, []⟩
def GLB_VLTSTAT_EPOCH : Fld := ⟨0x10028C, 8, 24, .ro, 0, []⟩

/- GLB_VLTCSNL: next CSN low, offset 0x10_0290 (19_guarantees_and_degraded_operation.md) -/
def GLB_VLTCSNL_CSN : Fld := ⟨0x100290, 0, 32, .ro, 0, []⟩

/- GLB_VLTCSNH: next CSN high, offset 0x10_0294 (19_guarantees_and_degraded_operation.md) -/
def GLB_VLTCSNH_CSN : Fld := ⟨0x100294, 0, 32, .ro, 0, []⟩

/- GLB_JNLHEAD: journal head, offset 0x10_0298 (19_guarantees_and_degraded_operation.md) -/
def GLB_JNLHEAD_HEAD : Fld := ⟨0x100298, 0, 17, .ro, 0, []⟩

/- GLB_JNLTAIL: journal tail, offset 0x10_029C (19_guarantees_and_degraded_operation.md) -/
def GLB_JNLTAIL_TAIL : Fld := ⟨0x10029C, 0, 17, .rw, 0, []⟩

/- GLB_HEALTH: replacement request, offset 0x10_02A0 (19_guarantees_and_degraded_operation.md) -/
def GLB_HEALTH_REPLACE : Fld := ⟨0x1002A0, 0, 5, .rws, 0, []⟩
def GLB_HEALTH_JOKERARMS : Fld := ⟨0x1002A0, 8, 4, .ro, 0, []⟩
def GLB_HEALTH_LOSTARMS : Fld := ⟨0x1002A0, 12, 4, .ro, 0, []⟩
def GLB_HEALTH_DATALOSS : Fld := ⟨0x1002A0, 16, 1, .rws, 0, []⟩

/- TST_UNLOCK: unlock key, offset 0x11_8040 (20_test_and_perturbation.md) -/
def TST_UNLOCK_KEY : Fld := ⟨0x118040, 0, 16, .wo, 0, []⟩

/- TST_STAT: test state, offset 0x11_8044 (20_test_and_perturbation.md) -/
def TST_STAT_PERMIT : Fld := ⟨0x118044, 0, 1, .ro, 0, []⟩
def TST_STAT_UNLOCKED : Fld := ⟨0x118044, 1, 1, .ro, 0, []⟩
def TST_STAT_ARMED : Fld := ⟨0x118044, 2, 1, .ro, 0, []⟩
def TST_STAT_SUSP : Fld := ⟨0x118044, 3, 1, .ro, 0, []⟩
def TST_STAT_REFUSED : Fld := ⟨0x118044, 16, 16, .rc, 0, []⟩

/- TST_CTL: test control, offset 0x11_8048 (20_test_and_perturbation.md) -/
def TST_CTL_RELOCK : Fld := ⟨0x118048, 0, 1, .w1s, 0, []⟩
def TST_CTL_DISFUSE : Fld := ⟨0x118048, 1, 1, .w1s, 0, []⟩

/- TST_FLXDLYn: Felox delay of link n, offset 0x11_8050 + 4·n (n = 0–6) (20_test_and_perturbation.md) -/
def TST_FLXDLY_DELAY (n : Nat) : Fld := ⟨0x118050 + 4 * n, 0, 8, .rw, 0, []⟩

/- TST_DMABP: DMA back-pressure, offset 0x11_8070 (20_test_and_perturbation.md) -/
def TST_DMABP_DUTY : Fld := ⟨0x118070, 0, 8, .rw, 0, []⟩
def TST_DMABP_RD : Fld := ⟨0x118070, 8, 1, .rw, 0, []⟩
def TST_DMABP_WR : Fld := ⟨0x118070, 9, 1, .rw, 0, []⟩
def TST_DMABP_PERIOD : Fld := ⟨0x118070, 16, 16, .rw, 0x64, [(1, 65535)]⟩

/- TST_CQDLY: completion delay, offset 0x11_8074 (20_test_and_perturbation.md) -/
def TST_CQDLY_DELAY : Fld := ⟨0x118074, 0, 16, .rw, 0, []⟩
def TST_CQDLY_QID : Fld := ⟨0x118074, 16, 8, .rw, 0, [(0, 128)]⟩

/- TST_SRVJIT: servo jitter, offset 0x11_8078 (20_test_and_perturbation.md) -/
def TST_SRVJIT_ARMS : Fld := ⟨0x118078, 0, 4, .rw, 0, []⟩
def TST_SRVJIT_AMP : Fld := ⟨0x118078, 4, 8, .rw, 0, []⟩

/- TST_FRCn: forced failures on arm n, offset 0x11_8080 + 4·n (n = 0–3) (20_test_and_perturbation.md) -/
def TST_FRC_SYNC (n : Nat) : Fld := ⟨0x118080 + 4 * n, 0, 1, .rw, 0, []⟩
def TST_FRC_RAW (n : Nat) : Fld := ⟨0x118080 + 4 * n, 1, 1, .rw, 0, []⟩
def TST_FRC_RUNGMASK (n : Nat) : Fld := ⟨0x118080 + 4 * n, 2, 11, .rw, 0, []⟩
def TST_FRC_EVERY (n : Nat) : Fld := ⟨0x118080 + 4 * n, 16, 8, .rw, 0, []⟩

/- TST_FRCCNTn: forcing count of arm n, offset 0x11_8090 + 4·n (n = 0–3) (20_test_and_perturbation.md) -/
def TST_FRCCNT_LEFT (n : Nat) : Fld := ⟨0x118090 + 4 * n, 0, 16, .rw, 0, []⟩
def TST_FRCCNT_FORCED (n : Nat) : Fld := ⟨0x118090 + 4 * n, 16, 16, .rc, 0, []⟩

/- TST_THMOVRk: sensor override k, offset 0x11_80A0 + 4·k (k = 0–3) (20_test_and_perturbation.md) -/
def TST_THMOVR_TEMP (k : Nat) : Fld := ⟨0x1180A0 + 4 * k, 0, 12, .rw, 0, []⟩
def TST_THMOVR_SENSOR (k : Nat) : Fld := ⟨0x1180A0 + 4 * k, 12, 6, .rw, 0, [(0, 47)]⟩
def TST_THMOVR_EN (k : Nat) : Fld := ⟨0x1180A0 + 4 * k, 18, 1, .rw, 0, []⟩
def TST_THMOVR_CRIT (k : Nat) : Fld := ⟨0x1180A0 + 4 * k, 19, 1, .rw, 0, []⟩

/- GLB_GPIO: general-purpose I/O, offset 0x10_02C0 (21_electrical_and_package.md) -/
def GLB_GPIO_OE : Fld := ⟨0x1002C0, 0, 7, .rw, 0, []⟩
def GLB_GPIO_OUT : Fld := ⟨0x1002C0, 8, 7, .rw, 0, []⟩
def GLB_GPIO_IN : Fld := ⟨0x1002C0, 16, 8, .ro, 0, []⟩
def GLB_GPIO_FUNC0 : Fld := ⟨0x1002C0, 24, 1, .rw, 0, []⟩
def GLB_GPIO_FUNC1 : Fld := ⟨0x1002C0, 25, 1, .rw, 0, []⟩

end Sys2Proof.Machine
end

