-- ==== Sys2Proof/Machine/RegsPower.lean ====
section
/-!
DEFINITION. Machine/RegsPower.lean: the registers of the power die's pages (SPN, VCM, BRK, REG), field by field.
Each line is one field: offset, lowest bit, width, access code (R10), reset value, and the values that are not
reserved (R11; an empty list where every value is allowed).
-/
namespace Sys2Proof.Machine

/- SPN_CTL: spindle control, offset 0x16_0040 (08_spindle_and_power_stage.md) -/
def SPN_CTL_START : Fld := ⟨0x160040, 0, 1, .w1s, 0, []⟩
def SPN_CTL_STOP : Fld := ⟨0x160040, 1, 1, .w1s, 0, []⟩
def SPN_CTL_AUTO : Fld := ⟨0x160040, 2, 1, .rw, 1, []⟩
def SPN_CTL_FIXSTEP : Fld := ⟨0x160040, 4, 3, .rw, 0, [(0, 4)]⟩
def SPN_CTL_PKEEP : Fld := ⟨0x160040, 8, 1, .rws, 1, []⟩

/- SPN_STEPLIM: step limits, offset 0x16_0044 (08_spindle_and_power_stage.md) -/
def SPN_STEPLIM_MIN : Fld := ⟨0x160044, 0, 3, .rws, 0, [(0, 4)]⟩
def SPN_STEPLIM_MAX : Fld := ⟨0x160044, 4, 3, .rws, 4, [(0, 4)]⟩
def SPN_STEPLIM_CAP : Fld := ⟨0x160044, 8, 3, .ro, 4, []⟩

/- SPN_STAT: spindle state, offset 0x16_0048 (08_spindle_and_power_stage.md) -/
def SPN_STAT_STATE : Fld := ⟨0x160048, 0, 4, .ro, 0, []⟩
def SPN_STAT_STEP : Fld := ⟨0x160048, 4, 3, .ro, 0, []⟩
def SPN_STAT_TARGET : Fld := ⟨0x160048, 8, 3, .ro, 0, []⟩
def SPN_STAT_ATSPEED : Fld := ⟨0x160048, 11, 1, .ro, 0, []⟩
def SPN_STAT_RAMP : Fld := ⟨0x160048, 12, 1, .ro, 0, []⟩
def SPN_STAT_HALLBAD : Fld := ⟨0x160048, 13, 1, .ro, 0, []⟩

/- SPN_SPEED: measured speed, offset 0x16_004C (08_spindle_and_power_stage.md) -/
def SPN_SPEED_RPM : Fld := ⟨0x16004C, 0, 20, .ro, 0, []⟩

/- SPN_SPDERR: regulation error, offset 0x16_0050 (08_spindle_and_power_stage.md) -/
def SPN_SPDERR_ERR : Fld := ⟨0x160050, 0, 16, .ro, 0, []⟩

/- SPN_START: start-up, offset 0x16_0054 (08_spindle_and_power_stage.md) -/
def SPN_START_ILIM : Fld := ⟨0x160054, 0, 8, .rw, 0xF0, [(1, 240)]⟩
def SPN_START_HOSPD : Fld := ⟨0x160054, 8, 8, .rw, 0x3C, [(1, 255)]⟩
def SPN_START_TMO : Fld := ⟨0x160054, 16, 8, .rw, 0x3C, [(1, 255)]⟩

/- SPN_MOTKE: back-EMF constant, offset 0x16_0058 (08_spindle_and_power_stage.md) -/
def SPN_MOTKE_KE : Fld := ⟨0x160058, 0, 16, .rw, 0, []⟩

/- SPN_MOTRL: winding model, offset 0x16_005C (08_spindle_and_power_stage.md) -/
def SPN_MOTRL_RPH : Fld := ⟨0x16005C, 0, 16, .rw, 0, []⟩
def SPN_MOTRL_LPH : Fld := ⟨0x16005C, 16, 16, .rw, 0, []⟩

/- SPN_OBSLIM: synchronism limits, offset 0x16_0060 (08_spindle_and_power_stage.md) -/
def SPN_OBSLIM_ANG : Fld := ⟨0x160060, 0, 8, .rw, 0x1E, [(1, 255)]⟩
def SPN_OBSLIM_FLUX : Fld := ⟨0x160060, 8, 8, .rw, 0x19, [(1, 255)]⟩
def SPN_OBSLIM_ACCMAX : Fld := ⟨0x160060, 16, 16, .rw, 0xBB8, [(1, 65535)]⟩

/- SPN_GOV: governor settings, offset 0x16_0064 (08_spindle_and_power_stage.md) -/
def SPN_GOV_UPTHR : Fld := ⟨0x160064, 0, 8, .rw, 0x55, [(0, 100)]⟩
def SPN_GOV_DNTHR : Fld := ⟨0x160064, 8, 8, .rw, 0x3C, []⟩
def SPN_GOV_DWELL : Fld := ⟨0x160064, 16, 16, .rw, 0x3C, []⟩

/- SPN_GOVSTAT: governor state, offset 0x16_0068 (08_spindle_and_power_stage.md) -/
def SPN_GOVSTAT_DEMAND : Fld := ⟨0x160068, 0, 8, .ro, 0, []⟩
def SPN_GOVSTAT_PROJ : Fld := ⟨0x160068, 8, 8, .ro, 0, []⟩
def SPN_GOVSTAT_BREACH : Fld := ⟨0x160068, 16, 1, .ro, 0, []⟩
def SPN_GOVSTAT_DWELLRUN : Fld := ⟨0x160068, 17, 1, .ro, 0, []⟩

/- SPN_SYNCCNT: synchronism counts, offset 0x16_006C (08_spindle_and_power_stage.md) -/
def SPN_SYNCCNT_LOSS : Fld := ⟨0x16006C, 0, 16, .rc, 0, []⟩
def SPN_SYNCCNT_HALLERR : Fld := ⟨0x16006C, 16, 16, .rc, 0, []⟩

/- VCM_CFGn: bridge n configuration, offset 0x16_1040 + 4·n (n = 0–3) (08_spindle_and_power_stage.md) -/
def VCM_CFG_EN (n : Nat) : Fld := ⟨0x161040 + 4 * n, 0, 1, .rw, 1, []⟩
def VCM_CFG_RSNS (n : Nat) : Fld := ⟨0x161040 + 4 * n, 8, 8, .rw, 0x64, [(1, 255)]⟩
def VCM_CFG_ITRIP (n : Nat) : Fld := ⟨0x161040 + 4 * n, 16, 8, .rwl, 0x96, [(0, 150)]⟩

/- VCM_RETn: retract profile of arm n, offset 0x16_1050 + 4·n (n = 0–3) (08_spindle_and_power_stage.md) -/
def VCM_RET_RETV (n : Nat) : Fld := ⟨0x161050 + 4 * n, 0, 8, .rwl, 0x14, []⟩
def VCM_RET_DIR (n : Nat) : Fld := ⟨0x161050 + 4 * n, 8, 1, .rwl, 0, []⟩
def VCM_RET_RETT (n : Nat) : Fld := ⟨0x161050 + 4 * n, 16, 8, .rwl, 0x32, [(1, 255)]⟩
def VCM_RET_HOLDT (n : Nat) : Fld := ⟨0x161050 + 4 * n, 24, 8, .rwl, 0x14, []⟩

/- VCM_STATn: bridge n status, offset 0x16_1060 + 4·n (n = 0–3) (08_spindle_and_power_stage.md) -/
def VCM_STAT_STATE (n : Nat) : Fld := ⟨0x161060 + 4 * n, 0, 3, .ro, 3, []⟩
def VCM_STAT_IMEAS (n : Nat) : Fld := ⟨0x161060 + 4 * n, 16, 16, .ro, 0, []⟩

/- VCM_MAn: microactuator n, offset 0x16_1070 + 4·n (n = 0–3) (08_spindle_and_power_stage.md) -/
def VCM_MA_EN (n : Nat) : Fld := ⟨0x161070 + 4 * n, 0, 1, .rw, 1, []⟩
def VCM_MA_VLIM (n : Nat) : Fld := ⟨0x161070 + 4 * n, 8, 8, .rwl, 0xF0, [(0, 240)]⟩
def VCM_MA_SLEW (n : Nat) : Fld := ⟨0x161070 + 4 * n, 16, 8, .rw, 0x32, [(1, 255)]⟩

/- VCM_PUMP: charge pump, offset 0x16_1080 (08_spindle_and_power_stage.md) -/
def VCM_PUMP_OK : Fld := ⟨0x161080, 0, 1, .ro, 0, []⟩
def VCM_PUMP_VPOS : Fld := ⟨0x161080, 8, 8, .ro, 0, []⟩
def VCM_PUMP_VNEG : Fld := ⟨0x161080, 16, 8, .ro, 0, []⟩

/- VCM_FLTCNT: driver fault counts, offset 0x16_1084 (08_spindle_and_power_stage.md) -/
def VCM_FLTCNT_TRIP : Fld := ⟨0x161084, 0, 8, .rc, 0, []⟩
def VCM_FLTCNT_OPEN : Fld := ⟨0x161084, 8, 8, .rc, 0, []⟩
def VCM_FLTCNT_MISSCMD : Fld := ⟨0x161084, 16, 8, .rc, 0, []⟩
def VCM_FLTCNT_MAFLT : Fld := ⟨0x161084, 24, 8, .rc, 0, []⟩

/- BRK_THR0: chopper thresholds, offset 0x16_2040 (08_spindle_and_power_stage.md) -/
def BRK_THR0_ON : Fld := ⟨0x162040, 0, 10, .rwl, 0x294, []⟩
def BRK_THR0_OFF : Fld := ⟨0x162040, 10, 10, .rwl, 0x28A, []⟩

/- BRK_THR1: low-side short thresholds, offset 0x16_2044 (08_spindle_and_power_stage.md) -/
def BRK_THR1_SHORT : Fld := ⟨0x162044, 0, 10, .rwl, 0x2B2, []⟩
def BRK_THR1_RELEASE : Fld := ⟨0x162044, 10, 10, .rwl, 0x29E, []⟩

/- BRK_THR2: disconnection thresholds, offset 0x16_2048 (08_spindle_and_power_stage.md) -/
def BRK_THR2_DISC : Fld := ⟨0x162048, 0, 10, .rwl, 0x2D0, []⟩
def BRK_THR2_RECON : Fld := ⟨0x162048, 10, 10, .rwl, 0x2BC, []⟩

/- BRK_PLTHR: power-loss detection, offset 0x16_204C (08_spindle_and_power_stage.md) -/
def BRK_PLTHR_V12UV : Fld := ⟨0x16204C, 0, 10, .rwl, 0x1FE, []⟩
def BRK_PLTHR_V5UV : Fld := ⟨0x16204C, 10, 10, .rwl, 0xE1, []⟩
def BRK_PLTHR_DEB : Fld := ⟨0x16204C, 20, 8, .rwl, 0xA, [(1, 255)]⟩

/- BRK_VAULT: vault arms, offset 0x16_2050 (08_spindle_and_power_stage.md) -/
def BRK_VAULT_ARMS : Fld := ⟨0x162050, 0, 4, .rws, 3, []⟩

/- BRK_STAT: protection status, offset 0x16_2054 (08_spindle_and_power_stage.md) -/
def BRK_STAT_CHOP : Fld := ⟨0x162054, 0, 1, .ro, 0, []⟩
def BRK_STAT_CHOPFLT : Fld := ⟨0x162054, 1, 1, .ro, 0, []⟩
def BRK_STAT_SHORT : Fld := ⟨0x162054, 2, 1, .ro, 0, []⟩
def BRK_STAT_DISC : Fld := ⟨0x162054, 3, 1, .ro, 0, []⟩
def BRK_STAT_PLOSS : Fld := ⟨0x162054, 4, 1, .ro, 0, []⟩
def BRK_STAT_VAULT : Fld := ⟨0x162054, 5, 1, .ro, 0, []⟩
def BRK_STAT_VHOLD : Fld := ⟨0x162054, 16, 10, .ro, 0, []⟩

/- BRK_RETCTL: retract order, offset 0x16_2058 (08_spindle_and_power_stage.md) -/
def BRK_RETCTL_RETRACT : Fld := ⟨0x162058, 0, 4, .w1s, 0, []⟩
def BRK_RETCTL_BUSY : Fld := ⟨0x162058, 4, 4, .ro, 0, []⟩

/- BRK_CHOPCNT: braking counts, offset 0x16_205C (08_spindle_and_power_stage.md) -/
def BRK_CHOPCNT_ON : Fld := ⟨0x16205C, 0, 16, .rc, 0, []⟩
def BRK_CHOPCNT_SHORTS : Fld := ⟨0x16205C, 16, 16, .rc, 0, []⟩

/- REG_CORECFG: core regulator, offset 0x16_3040 (08_spindle_and_power_stage.md) -/
def REG_CORECFG_VSET : Fld := ⟨0x163040, 0, 8, .rw, 0x96, [(120, 180)]⟩
def REG_CORECFG_PHEN : Fld := ⟨0x163040, 8, 4, .rw, 0xF, []⟩

/- REG_CORESTAT: core regulator status, offset 0x16_3044 (08_spindle_and_power_stage.md) -/
def REG_CORESTAT_VOUT : Fld := ⟨0x163044, 0, 8, .ro, 0, []⟩
def REG_CORESTAT_IOUT : Fld := ⟨0x163044, 8, 8, .ro, 0, []⟩
def REG_CORESTAT_PHACT : Fld := ⟨0x163044, 16, 4, .ro, 0, []⟩
def REG_CORESTAT_PHSHED : Fld := ⟨0x163044, 20, 4, .ro, 0, []⟩

/- REG_MONr: rail monitor r, offset 0x16_3050 + 4·r (r = 0–7) (08_spindle_and_power_stage.md) -/
def REG_MON_V (r : Nat) : Fld := ⟨0x163050 + 4 * r, 0, 16, .ro, 0, []⟩
def REG_MON_UV (r : Nat) : Fld := ⟨0x163050 + 4 * r, 16, 1, .ro, 0, []⟩
def REG_MON_OV (r : Nat) : Fld := ⟨0x163050 + 4 * r, 17, 1, .ro, 0, []⟩

end Sys2Proof.Machine
end

