-- ==== Sys2Proof/Machine/RegMap.lean ====
section
/-!
DEFINITION. Machine/RegMap.lean: which fields stand at a register offset (R28, and the offsets of the register
tables). A row is a first offset, a stride, a count and the fields of instance i.
-/
namespace Sys2Proof.Machine

/-- One row of the register map: `count` registers from `base`, `stride` bytes apart. -/
structure RegRow where
  base : Nat
  stride : Nat
  count : Nat
  flds : Nat → List Fld

/-- Rows of the register map, part 0. -/
def hubRows0 : List RegRow :=
  [ ⟨0x100080, 4, 7, fun i => [GLB_FLXSTAT_UP i, GLB_FLXSTAT_FITTED i, GLB_FLXSTAT_LANES i, GLB_FLXSTAT_DEGRADED i, GLB_FLXSTAT_DELAY i]⟩,
    ⟨0x1000A0, 4, 7, fun i => [GLB_FLXERR_CRCERR i, GLB_FLXERR_RETRAIN i]⟩,
    ⟨0x104040, 4, 1, fun _ => [EVT_SWSET_SET]⟩,
    ⟨0x104044, 4, 1, fun _ => [EVT_WDSTAT_EXP]⟩,
    ⟨0x104400, 4, 768, fun i => [EVT_ROUTE_VECTOR i, EVT_ROUTE_MSIX i, EVT_ROUTE_CORES i, EVT_ROUTE_SEV i, EVT_ROUTE_LOG i]⟩,
    ⟨0x100100, 4, 1, fun _ => [GLB_BOOTSTAT_CODE, GLB_BOOTSTAT_SLOT, GLB_BOOTSTAT_KEY, GLB_BOOTSTAT_FALLBACK, GLB_BOOTSTAT_DEFMCR, GLB_BOOTSTAT_SECVER]⟩,
    ⟨0x100104, 4, 1, fun _ => [GLB_CORERUN_RUN]⟩,
    ⟨0x100124, 4, 7, fun i => [GLB_COREPC_PC (i + 1)]⟩,
    ⟨0x100140, 4, 8, fun i => [GLB_WDCTL_PERIOD i, GLB_WDCTL_EN i, GLB_WDCTL_DBGPAUSE i]⟩,
    ⟨0x100160, 4, 8, fun i => [GLB_WDKICK_KICK i]⟩,
    ⟨0x100180, 4, 1, fun _ => [GLB_ROLLBACK_COUNT, GLB_ROLLBACK_TARGET, GLB_ROLLBACK_GO, GLB_ROLLBACK_KEY0REV]⟩,
    ⟨0x1001C0, 8, 8, fun i => [GLB_MTCMP_LO i]⟩,
    ⟨0x1001C4, 8, 8, fun i => [GLB_MTCMP_HI i]⟩,
    ⟨0x100200, 4, 1, fun _ => [GLB_REFCTL_CGO, GLB_REFCTL_VGO, GLB_REFCTL_BUSY, GLB_REFCTL_DONE, GLB_REFCTL_NOCLK, GLB_REFCTL_V]⟩,
    ⟨0x100204, 4, 1, fun _ => [GLB_REFCNT_COUNT]⟩,
    ⟨0x100208, 4, 1, fun _ => [GLB_TRIM_CLKTRIM, GLB_TRIM_VGAIN]⟩,
    ⟨0x10B040, 4, 1, fun _ => [ZON_TBLBASE_ADDR]⟩,
    ⟨0x10B044, 4, 1, fun _ => [ZON_NREC_NREC]⟩,
    ⟨0x10B048, 4, 1, fun _ => [ZON_SLIPBASE_ADDR]⟩,
    ⟨0x10B04C, 4, 1, fun _ => [ZON_NSBASE_ADDR]⟩ ]

/-- Rows of the register map, part 1. -/
def hubRows1 : List RegRow :=
  [ ⟨0x10B050, 4, 1, fun _ => [ZON_CTL_LOAD, ZON_CTL_PEND, ZON_CTL_VALID, ZON_CTL_BAD, ZON_CTL_SLIPFIN, ZON_CTL_SPARETHR]⟩,
    ⟨0x10B054, 4, 1, fun _ => [ZON_CTXSTAT_INUSE, ZON_CTXSTAT_PEAK]⟩,
    ⟨0x10B058, 4, 1, fun _ => [ZON_RELOC_REC, ZON_RELOC_GO, ZON_RELOC_BUSY, ZON_RELOC_REFUSED]⟩,
    ⟨0x10B060, 4, 4, fun i => [ZON_SPARE_FREE i]⟩,
    ⟨0x10B070, 4, 1, fun _ => [ZON_MCBASE_ADDR]⟩,
    ⟨0x10B074, 4, 1, fun _ => [ZON_MCCFG_BBITS]⟩,
    ⟨0x10B078, 4, 1, fun _ => [ZON_MCCNT_HIT, ZON_MCCNT_FULL]⟩,
    ⟨0x10B080, 4, 4, fun i => [ZON_SCAN_REC i, ZON_SCAN_GO i, ZON_SCAN_BUSY i, ZON_SCAN_RUNGTHR i]⟩,
    ⟨0x10B090, 4, 1, fun _ => [ZON_SCANDUTY_DUTY]⟩,
    ⟨0x10B094, 4, 1, fun _ => [ZON_RPTBASE_ADDR]⟩,
    ⟨0x10B098, 4, 1, fun _ => [ZON_RPTCTL_LOG2, ZON_RPTCTL_DROP]⟩,
    ⟨0x10B09C, 4, 1, fun _ => [ZON_RPTHEAD_HEAD]⟩,
    ⟨0x10B0A0, 4, 1, fun _ => [ZON_RPTTAIL_TAIL]⟩,
    ⟨0x10B0A4, 4, 1, fun _ => [ZON_CNT0_SLIPS, ZON_CNT0_RELOC]⟩,
    ⟨0x10B0A8, 4, 1, fun _ => [ZON_CNT1_RECOK, ZON_CNT1_RECFAIL]⟩,
    ⟨0x100240, 4, 1, fun _ => [GLB_HOSTACC_LOCK, GLB_HOSTACC_FUSED]⟩,
    ⟨0x108040, 4, 1, fun _ => [HEP_LINKSTAT_DLUP, HEP_LINKSTAT_SPEED, HEP_LINKSTAT_WIDTH, HEP_LINKSTAT_PMSTATE, HEP_LINKSTAT_REVERSED]⟩,
    ⟨0x108044, 4, 1, fun _ => [HEP_ASPMCTL_IDLE, HEP_ASPMCTL_LTRVAL]⟩,
    ⟨0x108048, 4, 1, fun _ => [HEP_SSID_SVID, HEP_SSID_SSID]⟩,
    ⟨0x108050, 4, 1, fun _ => [HEP_ERRCNT0_URPOSTED, HEP_ERRCNT0_URNP]⟩ ]

/-- Rows of the register map, part 2. -/
def hubRows2 : List RegRow :=
  [ ⟨0x108054, 4, 1, fun _ => [HEP_ERRCNT1_CTO, HEP_ERRCNT1_UNEXP]⟩,
    ⟨0x108058, 4, 1, fun _ => [HEP_ERRCNT2_POISON, HEP_ERRCNT2_DLDOWN]⟩,
    ⟨0x108060, 4, 1, fun _ => [HEP_WINCOMMIT_GO, HEP_WINCOMMIT_BUSY, HEP_WINCOMMIT_BAD, HEP_WINCOMMIT_BADWIN, HEP_WINCOMMIT_REASON]⟩,
    ⟨0x108064, 4, 1, fun _ => [HEP_WINACT_EN, HEP_WINACT_RDONLY]⟩,
    ⟨0x108068, 4, 1, fun _ => [HEP_CMBWIN_WIN, HEP_CMBWIN_EN, HEP_CMBWIN_SQS, HEP_CMBWIN_DATA]⟩,
    ⟨0x108100, 8, 16, fun i => [HEP_WIN_EN i, HEP_WIN_RDONLY i, HEP_WIN_LOG2SZ i, HEP_WIN_BASE i]⟩,
    ⟨0x108104, 8, 16, fun i => [HEP_WINT_TARGET i]⟩,
    ⟨0x109040, 4, 1, fun _ => [CMD_CTL_FWRDY, CMD_CTL_VWC]⟩,
    ⟨0x109044, 4, 1, fun _ => [CMD_STAT_RDY, CMD_STAT_SHST, CMD_STAT_NOFETCH, CMD_STAT_WBFULL]⟩,
    ⟨0x109048, 4, 1, fun _ => [CMD_WBBUDGET_MIB]⟩,
    ⟨0x10904C, 4, 1, fun _ => [CMD_WBUSE_USED]⟩,
    ⟨0x109050, 4, 1, fun _ => [CMD_CTXSTAT_INUSE, CMD_CTXSTAT_PEAK]⟩,
    ⟨0x109060, 4, 4, fun i => [CMD_LCTGT_TGT i]⟩,
    ⟨0x109070, 4, 1, fun _ => [CMD_RECOV_MAXREC]⟩,
    ⟨0x109080, 4, 1, fun _ => [CMD_FWQBASE_ADDR]⟩,
    ⟨0x109084, 4, 1, fun _ => [CMD_FWQCTL_LOG2]⟩,
    ⟨0x109088, 4, 1, fun _ => [CMD_FWQHEAD_HEAD]⟩,
    ⟨0x10908C, 4, 1, fun _ => [CMD_FWQTAIL_TAIL]⟩,
    ⟨0x109090, 4, 1, fun _ => [CMD_FWDONE_CTX, CMD_FWDONE_STATUS]⟩,
    ⟨0x1090A0, 4, 4, fun i => [CMD_HAND_DEPTH i, CMD_HAND_TRUMP i, CMD_HAND_STOP i, CMD_HAND_BUSY i]⟩ ]

/-- Rows of the register map, part 3. -/
def hubRows3 : List RegRow :=
  [ ⟨0x1090B0, 4, 1, fun _ => [CMD_GOVOUT_DEMAND, CMD_GOVOUT_BREACH]⟩,
    ⟨0x1090C0, 4, 1, fun _ => [CMD_CNT0_BUDGETWAIT, CMD_CNT0_CTXWAIT]⟩,
    ⟨0x1090D0, 4, 1, fun _ => [CMD_RCBASE_ADDR]⟩,
    ⟨0x1090D4, 4, 1, fun _ => [CMD_RCCFG_LOG2, CMD_RCCFG_EN, CMD_RCCFG_AHEAD]⟩,
    ⟨0x1090D8, 4, 1, fun _ => [CMD_RCCNT_HIT, CMD_RCCNT_FILL]⟩,
    ⟨0x10A040, 4, 1, fun _ => [TEN_NSSEL_NS]⟩,
    ⟨0x10A060, 4, 1, fun _ => [TEN_TICK_SEC]⟩,
    ⟨0x10A064, 4, 1, fun _ => [TEN_LATCH_GO]⟩,
    ⟨0x10A068, 4, 1, fun _ => [TEN_BANKBASE_ADDR]⟩,
    ⟨0x10A06C, 4, 1, fun _ => [TEN_BANKSTAT_STATE0, TEN_BANKSTAT_STATE1, TEN_BANKSTAT_LAST]⟩,
    ⟨0x10A070, 4, 1, fun _ => [TEN_ACK_ACK]⟩,
    ⟨0x10A074, 4, 1, fun _ => [TEN_SEQ_SEQ]⟩,
    ⟨0x10A078, 4, 1, fun _ => [TEN_OVERRUN_COUNT]⟩,
    ⟨0x110040, 4, 1, fun _ => [HCC_WAYCFG_ASSOC, HCC_WAYCFG_HASH]⟩,
    ⟨0x110044, 4, 1, fun _ => [HCC_LOCK_MASK, HCC_LOCK_FENCED]⟩,
    ⟨0x110048, 4, 1, fun _ => [HCC_CTXBASE_ADDR, HCC_CTXBASE_WAY]⟩,
    ⟨0x11004C, 4, 1, fun _ => [HCC_VICTHR_THR]⟩,
    ⟨0x110050, 4, 1, fun _ => [HCC_RBASE_ADDR]⟩,
    ⟨0x110054, 4, 1, fun _ => [HCC_RLEN_LINES]⟩,
    ⟨0x110058, 4, 1, fun _ => [HCC_RCTL_GO, HCC_RCTL_BUSY, HCC_RCTL_DONE, HCC_RCTL_ERR, HCC_RCTL_OP, HCC_RCTL_REFUSED, HCC_RCTL_WAY]⟩ ]

/-- Rows of the register map, part 4. -/
def hubRows4 : List RegRow :=
  [ ⟨0x11005C, 4, 1, fun _ => [HCC_RPROG_DONE]⟩,
    ⟨0x110060, 4, 1, fun _ => [HCC_CZERO_ADDR]⟩,
    ⟨0x110064, 4, 1, fun _ => [HCC_VBSTAT_USED]⟩,
    ⟨0x110070, 4, 1, fun _ => [HCC_HITCNT_HITS]⟩,
    ⟨0x110074, 4, 1, fun _ => [HCC_MISSCNT_MISSES]⟩,
    ⟨0x110078, 4, 1, fun _ => [HCC_VICCNT_DECLINED, HCC_VICCNT_REINST]⟩,
    ⟨0x113040, 4, 2, fun i => [BUF_CFG_VICSZ i]⟩,
    ⟨0x113048, 4, 2, fun i => [BUF_MIR_BASE i, BUF_MIR_SIZE i]⟩,
    ⟨0x113050, 4, 1, fun _ => [BUF_WDBASE_ADDR]⟩,
    ⟨0x113054, 4, 1, fun _ => [BUF_SDMIR_ADDR]⟩,
    ⟨0x113058, 4, 1, fun _ => [BUF_VSTBASE_ADDR]⟩,
    ⟨0x113060, 4, 2, fun i => [BUF_VICSTAT_FREE i]⟩,
    ⟨0x113068, 4, 2, fun i => [BUF_MIRSTAT_USED i, BUF_MIRSTAT_FENCED i]⟩,
    ⟨0x113070, 4, 1, fun _ => [BUF_VICCNT_HIT, BUF_VICCNT_PLACED]⟩,
    ⟨0x111040, 4, 1, fun _ => [MEP_SCRCTL_EN, MEP_SCRCTL_SRAMPER, MEP_SCRCTL_SDRPER]⟩,
    ⟨0x111048, 4, 1, fun _ => [MEP_CECNT_SRAM, MEP_CECNT_SDRAM]⟩,
    ⟨0x11104C, 4, 1, fun _ => [MEP_UECNT_SRAM, MEP_UECNT_SDRAM]⟩,
    ⟨0x111050, 4, 1, fun _ => [MEP_ERRLOG0_ADDR]⟩,
    ⟨0x111054, 4, 1, fun _ => [MEP_ERRLOG1_SYND, MEP_ERRLOG1_MEM, MEP_ERRLOG1_SCRUB, MEP_ERRLOG1_WORD]⟩,
    ⟨0x111058, 4, 1, fun _ => [MEP_RESTCNT_RESTORED, MEP_RESTCNT_LOST]⟩ ]

/-- Rows of the register map, part 5. -/
def hubRows5 : List RegRow :=
  [ ⟨0x111060, 4, 1, fun _ => [MEP_TSTCTL_EN, MEP_TSTCTL_GO, MEP_TSTCTL_BUSY, MEP_TSTCTL_DONE, MEP_TSTCTL_ERR, MEP_TSTCTL_OP]⟩,
    ⟨0x111064, 4, 1, fun _ => [MEP_TSTADDR_ADDR]⟩,
    ⟨0x111068, 4, 1, fun _ => [MEP_TSTDATA0_DATA]⟩,
    ⟨0x11106C, 4, 1, fun _ => [MEP_TSTDATA1_DATA]⟩,
    ⟨0x111070, 4, 1, fun _ => [MEP_TSTCHK_CHK, MEP_TSTCHK_XOR]⟩,
    ⟨0x112040, 4, 1, fun _ => [DRC_MAP_ILV, DRC_MAP_CHGIB, DRC_MAP_RANKS, DRC_MAP_MAPLOCK]⟩,
    ⟨0x112044, 4, 1, fun _ => [DRC_STAT_TRAINED, DRC_STAT_SREF, DRC_STAT_REFX2, DRC_STAT_MTS]⟩,
    ⟨0x112048, 4, 1, fun _ => [DRC_FILLBASE_ADDR]⟩,
    ⟨0x11204C, 4, 1, fun _ => [DRC_FILLCTL_GO, DRC_FILLCTL_BUSY, DRC_FILLCTL_DONE, DRC_FILLCTL_ERR, DRC_FILLCTL_LEN]⟩,
    ⟨0x112050, 4, 1, fun _ => [DRC_FENCE_FENCED]⟩,
    ⟨0x114040, 4, 1, fun _ => [CRY_NSSEL_NS]⟩,
    ⟨0x114048, 4, 1, fun _ => [CRY_GENBASE_ADDR]⟩,
    ⟨0x11404C, 4, 1, fun _ => [CRY_SCA_DUMMAX, CRY_SCA_SHUF]⟩,
    ⟨0x114050, 4, 1, fun _ => [CRY_RNGCTL_RESEED, CRY_RNGCTL_REINIT]⟩,
    ⟨0x114054, 4, 1, fun _ => [CRY_RNGSTAT_READY, CRY_RNGSTAT_ERR, CRY_RNGSTAT_HTFAIL]⟩,
    ⟨0x114058, 4, 1, fun _ => [CRY_STAT_CAPPCT, CRY_STAT_SLOTS]⟩,
    ⟨0x114060, 4, 1, fun _ => [CRY_CNT0_TAGFAIL, CRY_CNT0_GENEXH]⟩,
    ⟨0x115040, 4, 1, fun _ => [KMU_LOCK_OWNER]⟩,
    ⟨0x115044, 4, 1, fun _ => [KMU_CMD_OP, KMU_CMD_MODE, KMU_CMD_SLOT, KMU_CMD_VSLOT, KMU_CMD_KEKSEL, KMU_CMD_GO]⟩,
    ⟨0x115048, 4, 1, fun _ => [KMU_STAT_BUSY, KMU_STAT_DONE, KMU_STAT_ERR]⟩ ]

/-- Rows of the register map, part 6. -/
def hubRows6 : List RegRow :=
  [ ⟨0x11504C, 4, 1, fun _ => [KMU_CNT_UNWRAPFAIL, KMU_CNT_EXPIRED]⟩,
    ⟨0x115060, 4, 18, fun i => [KMU_BLOB_DATA i]⟩,
    ⟨0x1150C0, 4, 4, fun i => [KMU_VSTAT_USAGE i]⟩,
    ⟨0x115100, 4, 32, fun i => [KMU_SLOTSTAT_STATE i]⟩,
    ⟨0x116040, 4, 1, fun _ => [LOG_CTL_MODE]⟩,
    ⟨0x116044, 4, 1, fun _ => [LOG_KITTY_COUNT]⟩,
    ⟨0x116048, 4, 1, fun _ => [LOG_STAT_SCANNING, LOG_STAT_NOERASE, LOG_STAT_STOPPED, LOG_STAT_COPYING, LOG_STAT_QUEUED]⟩,
    ⟨0x11604C, 4, 1, fun _ => [LOG_SEQ_NEXT]⟩,
    ⟨0x116050, 4, 1, fun _ => [LOG_OLDEST_SEQ]⟩,
    ⟨0x116054, 4, 1, fun _ => [LOG_COUNT_PRESENT]⟩,
    ⟨0x116058, 4, 1, fun _ => [LOG_CAP_CAP]⟩,
    ⟨0x11605C, 4, 1, fun _ => [LOG_PWRCYC_PCC]⟩,
    ⟨0x116060, 4, 1, fun _ => [LOG_OPSECL_OPS]⟩,
    ⟨0x116064, 4, 1, fun _ => [LOG_OPSECH_OPS]⟩,
    ⟨0x116068, 4, 1, fun _ => [LOG_SCAN_TORN, LOG_SCAN_CRCBAD]⟩,
    ⟨0x11606C, 4, 1, fun _ => [LOG_DROPCNT_DROPPED]⟩,
    ⟨0x116070, 4, 1, fun _ => [LOG_RDSEQ_SEQ]⟩,
    ⟨0x116074, 4, 1, fun _ => [LOG_RDSTAT_BUSY, LOG_RDSTAT_DONE, LOG_RDSTAT_NONE]⟩,
    ⟨0x116080, 4, 16, fun i => [LOG_RDDATA_DATA i]⟩,
    ⟨0x1160C0, 4, 1, fun _ => [LOG_FWCTL_CODE, LOG_FWCTL_SEV, LOG_FWCTL_GO, LOG_FWCTL_REFUSED]⟩ ]

/-- Rows of the register map, part 7. -/
def hubRows7 : List RegRow :=
  [ ⟨0x1160C4, 4, 10, fun i => [LOG_FWDATA_DATA i]⟩,
    ⟨0x117040, 4, 1, fun _ => [THM_TMAX_TEMP, THM_TMAX_SRC, THM_TMAX_SUBST]⟩,
    ⟨0x117044, 4, 1, fun _ => [THM_TMIN_TEMP, THM_TMIN_SRC]⟩,
    ⟨0x117048, 4, 1, fun _ => [THM_THR0_CSTOP, THM_THR0_CWARN]⟩,
    ⟨0x11704C, 4, 1, fun _ => [THM_THR1_HOT1, THM_THR1_HOT2]⟩,
    ⟨0x117050, 4, 1, fun _ => [THM_THR2_HOT3, THM_THR2_CRIT]⟩,
    ⟨0x117054, 4, 1, fun _ => [THM_THRCTL_HYST, THM_THRCTL_EXCLT, THM_THRCTL_KEEP2, THM_THRCTL_KEEP1, THM_THRCTL_CIPHCAP, THM_THRCTL_HOLDREL]⟩,
    ⟨0x117058, 4, 1, fun _ => [THM_STAT_STEP, THM_STAT_PREHEAT, THM_STAT_COLDSTOP, THM_STAT_HOLD, THM_STAT_LATCHED, THM_STAT_DIESUB]⟩,
    ⟨0x117100, 4, 48, fun i => [THM_TS_TEMP i, THM_TS_VALID i, THM_TS_EXCL i, THM_TS_ABSENT i, THM_TS_RAW i]⟩,
    ⟨0x117200, 4, 48, fun i => [THM_TSTRIM_OFFSET i, THM_TSTRIM_SLOPE i]⟩,
    ⟨0x102040, 4, 1, fun _ => [PWS_PSCTL_TARGET, PWS_PSCTL_GO]⟩,
    ⟨0x102044, 4, 1, fun _ => [PWS_PSSTAT_STATE, PWS_PSSTAT_BUSY, PWS_PSSTAT_FROM, PWS_PSSTAT_REASON]⟩,
    ⟨0x102048, 4, 1, fun _ => [PWS_RSTSTAT_POR, PWS_RSTSTAT_PERST, PWS_RSTSTAT_QLATE, PWS_RSTSTAT_VINC, PWS_RSTSTAT_WDEXP, PWS_RSTSTAT_RETAIN, PWS_RSTSTAT_QTIME]⟩,
    ⟨0x10204C, 4, 1, fun _ => [PWS_SAVEBASE_ADDR]⟩,
    ⟨0x102050, 4, 1, fun _ => [PWS_SAVECNT_POISONED, PWS_SAVECNT_NEWUE]⟩,
    ⟨0x102054, 4, 1, fun _ => [PWS_RETBASE_ADDR]⟩,
    ⟨0x100280, 4, 1, fun _ => [GLB_VLTCTL_MIRROR, GLB_VLTCTL_REPLAY, GLB_VLTCTL_BUSY, GLB_VLTCTL_DONE, GLB_VLTCTL_RELEASE]⟩,
    ⟨0x100284, 4, 2, fun i => [GLB_VLTAREA_FIRST i, GLB_VLTAREA_NZONES i]⟩,
    ⟨0x10028C, 4, 1, fun _ => [GLB_VLTSTAT_EMPTY, GLB_VLTSTAT_INC, GLB_VLTSTAT_HELD, GLB_VLTSTAT_EPOCH]⟩,
    ⟨0x100290, 4, 1, fun _ => [GLB_VLTCSNL_CSN]⟩ ]

/-- Rows of the register map, part 8. -/
def hubRows8 : List RegRow :=
  [ ⟨0x100294, 4, 1, fun _ => [GLB_VLTCSNH_CSN]⟩,
    ⟨0x100298, 4, 1, fun _ => [GLB_JNLHEAD_HEAD]⟩,
    ⟨0x10029C, 4, 1, fun _ => [GLB_JNLTAIL_TAIL]⟩,
    ⟨0x1002A0, 4, 1, fun _ => [GLB_HEALTH_REPLACE, GLB_HEALTH_JOKERARMS, GLB_HEALTH_LOSTARMS, GLB_HEALTH_DATALOSS]⟩,
    ⟨0x118040, 4, 1, fun _ => [TST_UNLOCK_KEY]⟩,
    ⟨0x118044, 4, 1, fun _ => [TST_STAT_PERMIT, TST_STAT_UNLOCKED, TST_STAT_ARMED, TST_STAT_SUSP, TST_STAT_REFUSED]⟩,
    ⟨0x118048, 4, 1, fun _ => [TST_CTL_RELOCK, TST_CTL_DISFUSE]⟩,
    ⟨0x118050, 4, 7, fun i => [TST_FLXDLY_DELAY i]⟩,
    ⟨0x118070, 4, 1, fun _ => [TST_DMABP_DUTY, TST_DMABP_RD, TST_DMABP_WR, TST_DMABP_PERIOD]⟩,
    ⟨0x118074, 4, 1, fun _ => [TST_CQDLY_DELAY, TST_CQDLY_QID]⟩,
    ⟨0x118078, 4, 1, fun _ => [TST_SRVJIT_ARMS, TST_SRVJIT_AMP]⟩,
    ⟨0x118080, 4, 4, fun i => [TST_FRC_SYNC i, TST_FRC_RAW i, TST_FRC_RUNGMASK i, TST_FRC_EVERY i]⟩,
    ⟨0x118090, 4, 4, fun i => [TST_FRCCNT_LEFT i, TST_FRCCNT_FORCED i]⟩,
    ⟨0x1180A0, 4, 4, fun i => [TST_THMOVR_TEMP i, TST_THMOVR_SENSOR i, TST_THMOVR_EN i, TST_THMOVR_CRIT i]⟩,
    ⟨0x1002C0, 4, 1, fun _ => [GLB_GPIO_OE, GLB_GPIO_OUT, GLB_GPIO_IN, GLB_GPIO_FUNC0, GLB_GPIO_FUNC1]⟩,
    ⟨0x160040, 4, 1, fun _ => [SPN_CTL_START, SPN_CTL_STOP, SPN_CTL_AUTO, SPN_CTL_FIXSTEP, SPN_CTL_PKEEP]⟩,
    ⟨0x160044, 4, 1, fun _ => [SPN_STEPLIM_MIN, SPN_STEPLIM_MAX, SPN_STEPLIM_CAP]⟩,
    ⟨0x160048, 4, 1, fun _ => [SPN_STAT_STATE, SPN_STAT_STEP, SPN_STAT_TARGET, SPN_STAT_ATSPEED, SPN_STAT_RAMP, SPN_STAT_HALLBAD]⟩,
    ⟨0x16004C, 4, 1, fun _ => [SPN_SPEED_RPM]⟩,
    ⟨0x160050, 4, 1, fun _ => [SPN_SPDERR_ERR]⟩ ]

/-- Rows of the register map, part 9. -/
def hubRows9 : List RegRow :=
  [ ⟨0x160054, 4, 1, fun _ => [SPN_START_ILIM, SPN_START_HOSPD, SPN_START_TMO]⟩,
    ⟨0x160058, 4, 1, fun _ => [SPN_MOTKE_KE]⟩,
    ⟨0x16005C, 4, 1, fun _ => [SPN_MOTRL_RPH, SPN_MOTRL_LPH]⟩,
    ⟨0x160060, 4, 1, fun _ => [SPN_OBSLIM_ANG, SPN_OBSLIM_FLUX, SPN_OBSLIM_ACCMAX]⟩,
    ⟨0x160064, 4, 1, fun _ => [SPN_GOV_UPTHR, SPN_GOV_DNTHR, SPN_GOV_DWELL]⟩,
    ⟨0x160068, 4, 1, fun _ => [SPN_GOVSTAT_DEMAND, SPN_GOVSTAT_PROJ, SPN_GOVSTAT_BREACH, SPN_GOVSTAT_DWELLRUN]⟩,
    ⟨0x16006C, 4, 1, fun _ => [SPN_SYNCCNT_LOSS, SPN_SYNCCNT_HALLERR]⟩,
    ⟨0x161040, 4, 4, fun i => [VCM_CFG_EN i, VCM_CFG_RSNS i, VCM_CFG_ITRIP i]⟩,
    ⟨0x161050, 4, 4, fun i => [VCM_RET_RETV i, VCM_RET_DIR i, VCM_RET_RETT i, VCM_RET_HOLDT i]⟩,
    ⟨0x161060, 4, 4, fun i => [VCM_STAT_STATE i, VCM_STAT_IMEAS i]⟩,
    ⟨0x161070, 4, 4, fun i => [VCM_MA_EN i, VCM_MA_VLIM i, VCM_MA_SLEW i]⟩,
    ⟨0x161080, 4, 1, fun _ => [VCM_PUMP_OK, VCM_PUMP_VPOS, VCM_PUMP_VNEG]⟩,
    ⟨0x161084, 4, 1, fun _ => [VCM_FLTCNT_TRIP, VCM_FLTCNT_OPEN, VCM_FLTCNT_MISSCMD, VCM_FLTCNT_MAFLT]⟩,
    ⟨0x162040, 4, 1, fun _ => [BRK_THR0_ON, BRK_THR0_OFF]⟩,
    ⟨0x162044, 4, 1, fun _ => [BRK_THR1_SHORT, BRK_THR1_RELEASE]⟩,
    ⟨0x162048, 4, 1, fun _ => [BRK_THR2_DISC, BRK_THR2_RECON]⟩,
    ⟨0x16204C, 4, 1, fun _ => [BRK_PLTHR_V12UV, BRK_PLTHR_V5UV, BRK_PLTHR_DEB]⟩,
    ⟨0x162050, 4, 1, fun _ => [BRK_VAULT_ARMS]⟩,
    ⟨0x162054, 4, 1, fun _ => [BRK_STAT_CHOP, BRK_STAT_CHOPFLT, BRK_STAT_SHORT, BRK_STAT_DISC, BRK_STAT_PLOSS, BRK_STAT_VAULT, BRK_STAT_VHOLD]⟩,
    ⟨0x162058, 4, 1, fun _ => [BRK_RETCTL_RETRACT, BRK_RETCTL_BUSY]⟩ ]

/-- Rows of the register map, part 10. -/
def hubRows10 : List RegRow :=
  [ ⟨0x16205C, 4, 1, fun _ => [BRK_CHOPCNT_ON, BRK_CHOPCNT_SHORTS]⟩,
    ⟨0x163040, 4, 1, fun _ => [REG_CORECFG_VSET, REG_CORECFG_PHEN]⟩,
    ⟨0x163044, 4, 1, fun _ => [REG_CORESTAT_VOUT, REG_CORESTAT_IOUT, REG_CORESTAT_PHACT, REG_CORESTAT_PHSHED]⟩,
    ⟨0x163050, 4, 8, fun i => [REG_MON_V i, REG_MON_UV i, REG_MON_OV i]⟩ ]

/-- Rows of the register map, part 0. -/
def armRows0 (n : Nat) : List RegRow :=
  [ ⟨0x40, 4, 1, fun _ => [ARM_FMTBASE_ADDR n]⟩,
    ⟨0x44, 4, 1, fun _ => [ARM_FMTCTL_LOAD n, ARM_FMTCTL_PEND n, ARM_FMTCTL_VALID n, ARM_FMTCTL_STEPOK n, ARM_FMTCTL_BADMAP n]⟩,
    ⟨0x48, 4, 1, fun _ => [ARM_LSCTL_QMIN n, ARM_LSCTL_PHRES n]⟩,
    ⟨0x4C, 4, 1, fun _ => [ARM_LSSTAT_LOCK n, ARM_LSSTAT_HOLD n, ARM_LSSTAT_SLOPE n, ARM_LSSTAT_TRRSRV n, ARM_LSSTAT_REJ n, ARM_LSSTAT_RESID n]⟩,
    ⟨0x50, 4, 1, fun _ => [ARM_LSFREQ_FBIT n]⟩,
    ⟨0x60, 4, 8, fun i => [ARM_TRRSRV_XOFS n i]⟩,
    ⟨0x1040, 4, 1, fun _ => [RCH_MODE_MODE n 0, RCH_MODE_SHADOWEN n 0, RCH_MODE_RDR n 0, RCH_MODE_SLOT n 0, RCH_MODE_VARIANT n 0]⟩,
    ⟨0x2040, 4, 1, fun _ => [RCH_MODE_MODE n 1, RCH_MODE_SHADOWEN n 1, RCH_MODE_RDR n 1, RCH_MODE_SLOT n 1, RCH_MODE_VARIANT n 1]⟩,
    ⟨0x1044, 4, 1, fun _ => [RCH_SYNCWIN_WIN n]⟩,
    ⟨0x1048, 4, 1, fun _ => [RCH_LDPCCTL_ALPHA n 0, RCH_LDPCCTL_LLRCLIP n 0, RCH_LDPCCTL_ETERM n 0]⟩,
    ⟨0x2048, 4, 1, fun _ => [RCH_LDPCCTL_ALPHA n 1, RCH_LDPCCTL_LLRCLIP n 1, RCH_LDPCCTL_ETERM n 1]⟩,
    ⟨0x1050, 4, 1, fun _ => [RCH_SETSEL_SLOT n 0, RCH_SETSEL_VARIANT n 0]⟩,
    ⟨0x2050, 4, 1, fun _ => [RCH_SETSEL_SLOT n 1, RCH_SETSEL_VARIANT n 1]⟩,
    ⟨0x1054, 4, 1, fun _ => [RCH_SETDATA_DATA n 0]⟩,
    ⟨0x2054, 4, 1, fun _ => [RCH_SETDATA_DATA n 1]⟩,
    ⟨0x1058, 4, 1, fun _ => [RCH_SETCTL_COMMIT n 0, RCH_SETCTL_PEND n 0, RCH_SETCTL_BAD n 0, RCH_SETCTL_COPYA n 0, RCH_SETCTL_COPYBUSY n 0, RCH_SETCTL_PTR n 0]⟩,
    ⟨0x2058, 4, 1, fun _ => [RCH_SETCTL_COMMIT n 1, RCH_SETCTL_PEND n 1, RCH_SETCTL_BAD n 1, RCH_SETCTL_COPYA n 1, RCH_SETCTL_COPYBUSY n 1, RCH_SETCTL_PTR n 1]⟩,
    ⟨0x1060, 4, 12, fun i => [RCH_RUNG_EN n i, RCH_RUNG_TRIES n i, RCH_RUNG_PARAM n i, RCH_RUNG_BUDGET n i]⟩,
    ⟨0x1090, 4, 1, fun _ => [RCH_LADSTAT_ACTIVE n, RCH_LADSTAT_RUNG n, RCH_LADSTAT_PENDSEC n, RCH_LADSTAT_ELAPSED n]⟩,
    ⟨0x10A0, 4, 1, fun _ => [RCH_SECCNT_SECTORS n 0]⟩ ]

/-- Rows of the register map, part 1. -/
def armRows1 (n : Nat) : List RegRow :=
  [ ⟨0x20A0, 4, 1, fun _ => [RCH_SECCNT_SECTORS n 1]⟩,
    ⟨0x10A4, 4, 1, fun _ => [RCH_ITERSUM_ITER n 0]⟩,
    ⟨0x20A4, 4, 1, fun _ => [RCH_ITERSUM_ITER n 1]⟩,
    ⟨0x10A8, 4, 1, fun _ => [RCH_SYNCMISS_SYNC_MISS n 0]⟩,
    ⟨0x20A8, 4, 1, fun _ => [RCH_SYNCMISS_SYNC_MISS n 1]⟩,
    ⟨0x10AC, 4, 1, fun _ => [RCH_SYNCEL_EARLY n 0, RCH_SYNCEL_LATE n 0]⟩,
    ⟨0x20AC, 4, 1, fun _ => [RCH_SYNCEL_EARLY n 1, RCH_SYNCEL_LATE n 1]⟩,
    ⟨0x10B0, 4, 1, fun _ => [RCH_CHKCNT_PIFAIL n 0, RCH_CHKCNT_OVERRUN n 0]⟩,
    ⟨0x20B0, 4, 1, fun _ => [RCH_CHKCNT_PIFAIL n 1, RCH_CHKCNT_OVERRUN n 1]⟩,
    ⟨0x10C0, 4, 12, fun i => [RCH_RECCNT_TRY n 0 i, RCH_RECCNT_OK n 0 i]⟩,
    ⟨0x20C0, 4, 12, fun i => [RCH_RECCNT_TRY n 1 i, RCH_RECCNT_OK n 1 i]⟩,
    ⟨0x1100, 4, 1, fun _ => [RCH_AFECTL_LDREN n, RCH_AFECTL_TRREN n, RCH_AFECTL_HPF n, RCH_AFECTL_GAINHOLD n]⟩,
    ⟨0x1104, 4, 1, fun _ => [RCH_AFESTAT_GAINL n, RCH_AFESTAT_GAINT n, RCH_AFESTAT_FAILL n, RCH_AFESTAT_FAILT n]⟩,
    ⟨0x1108, 4, 1, fun _ => [RCH_RDRERRWIN_WINDOW n, RCH_RDRERRWIN_THRESH n]⟩,
    ⟨0x110C, 4, 1, fun _ => [RCH_RDRERRCNT_WINCNTL n, RCH_RDRERRCNT_LASTINGL n, RCH_RDRERRCNT_WINCNTT n, RCH_RDRERRCNT_LASTINGT n]⟩,
    ⟨0x1110, 4, 2, fun i => [RCH_ADCTRIM_OFS0 n i, RCH_ADCTRIM_OFS1 n i, RCH_ADCTRIM_GAINM n i, RCH_ADCTRIM_SKEW n i]⟩,
    ⟨0x3040, 4, 1, fun _ => [WRP_WGCTL_INHIBIT n, WRP_WGCTL_IDLE n, WRP_WGCTL_PRE n]⟩,
    ⟨0x3044, 4, 1, fun _ => [WRP_WISTAT_SRC n]⟩,
    ⟨0x3048, 4, 1, fun _ => [WRP_ASTIM_LEAD n, WRP_ASTIM_RAMPCOLD n]⟩,
    ⟨0x304C, 4, 1, fun _ => [WRP_ASWD_ONMAX n]⟩ ]

/-- Rows of the register map, part 2. -/
def armRows2 (n : Nat) : List RegRow :=
  [ ⟨0x3050, 4, 8, fun i => [WRP_ASLIM_ILIM n i, WRP_ASLIM_DUTY n i]⟩,
    ⟨0x3070, 4, 1, fun _ => [WRP_ASSTAT_HEAD n, WRP_ASSTAT_CAUSE n, WRP_ASSTAT_CLAMPS n]⟩,
    ⟨0x3074, 4, 1, fun _ => [WRP_RAWCTL_DEFEN n, WRP_RAWCTL_WEAKFAIL n]⟩,
    ⟨0x3078, 4, 1, fun _ => [WRP_RAWTHR_ITERMAX n, WRP_RAWTHR_ITERWEAK n, WRP_RAWTHR_SYNCWEAK n]⟩,
    ⟨0x3080, 4, 1, fun _ => [WRP_RAWCNT_WEAK n, WRP_RAWCNT_FAIL n]⟩,
    ⟨0x3084, 4, 1, fun _ => [WRP_RAWPASS_PASS n]⟩,
    ⟨0x3400, 8, 64, fun i => [WRP_WPA_PC1 n i, WRP_WPA_PC2 n i, WRP_WPA_PC3 n i, WRP_WPA_HTRW n i]⟩,
    ⟨0x3404, 8, 64, fun i => [WRP_WPB_ACODE n i, WRP_WPB_TRRLAG n i]⟩,
    ⟨0x7040, 4, 1, fun _ => [ALK_ASSIST_TYPE n, ALK_ASSIST_STBY n, ALK_ASSIST_MISMATCH n]⟩,
    ⟨0x7044, 4, 1, fun _ => [ALK_CFG_WDSWING n, ALK_CFG_PRESENT n, ALK_CFG_NHEADS n]⟩,
    ⟨0x7048, 4, 1, fun _ => [ALK_STAT_FLT n, ALK_STAT_HEAD n, ALK_STAT_MODE n, ALK_STAT_WG n]⟩,
    ⟨0x7050, 4, 1, fun _ => [ALK_FRMA_ADDR n, ALK_FRMA_READ n]⟩,
    ⟨0x7054, 4, 1, fun _ => [ALK_FRMD_DATA n, ALK_FRMD_STATUS n]⟩,
    ⟨0x7058, 4, 1, fun _ => [ALK_FRMCTL_GO n, ALK_FRMCTL_BUSY n, ALK_FRMCTL_DONE n, ALK_FRMCTL_FAIL n, ALK_FRMCTL_REFUSED n]⟩,
    ⟨0x7060, 4, 1, fun _ => [ALK_ERRCNT_CRCERR n, ALK_ERRCNT_NAK n, ALK_ERRCNT_NORESP n, ALK_ERRCNT_FAILED n]⟩,
    ⟨0x7064, 4, 1, fun _ => [ALK_FLTLOG_STATUS n, ALK_FLTLOG_COUNT n]⟩,
    ⟨0x4040, 4, 1, fun _ => [SRV_CTL_FWOWN n, SRV_CTL_OWNED n, SRV_CTL_OFFSET n]⟩,
    ⟨0x4044, 4, 1, fun _ => [SRV_SEEK_TARGET n, SRV_SEEK_HEAD n, SRV_SEEK_GO n, SRV_SEEK_REFUSED n]⟩,
    ⟨0x4048, 4, 1, fun _ => [SRV_STAT_STATE n, SRV_STAT_RDOK n, SRV_STAT_WROK n, SRV_STAT_HEAD n, SRV_STAT_WEDGE n]⟩,
    ⟨0x404C, 4, 1, fun _ => [SRV_TRACK_TRACK n, SRV_TRACK_PRED n]⟩ ]

/-- Rows of the register map, part 3. -/
def armRows3 (n : Nat) : List RegRow :=
  [ ⟨0x4050, 4, 1, fun _ => [SRV_POS_X n]⟩,
    ⟨0x4054, 4, 1, fun _ => [SRV_PES_PES n]⟩,
    ⟨0x4058, 4, 1, fun _ => [SRV_PITCH_TP n]⟩,
    ⟨0x405C, 4, 1, fun _ => [SRV_RAW_RAWSUM n, SRV_RAW_SAME n]⟩,
    ⟨0x4060, 4, 1, fun _ => [SRV_MISS_CONSEC n, SRV_MISS_IDXRUN n, SRV_MISS_TOTAL n]⟩,
    ⟨0x4064, 4, 1, fun _ => [SRV_FBCNT_HOLDS n, SRV_FBCNT_IDXERR n]⟩,
    ⟨0x5040, 4, 1, fun _ => [CTL_TBLSEL_LOOP n, CTL_TBLSEL_BANK n]⟩,
    ⟨0x5044, 4, 1, fun _ => [CTL_TBLDATA_DATA n]⟩,
    ⟨0x5048, 4, 1, fun _ => [CTL_TBLCTL_COMMIT n, CTL_TBLCTL_PEND n, CTL_TBLCTL_BAD n, CTL_TBLCTL_OVER n, CTL_TBLCTL_PTR n, CTL_TBLCTL_VALID n]⟩,
    ⟨0x504C, 4, 1, fun _ => [CTL_COST_COST n, CTL_COST_BUDGET n]⟩,
    ⟨0x5050, 4, 1, fun _ => [CTL_FFCTL_SRCEN n, CTL_FFCTL_ACTIVE n, CTL_FFCTL_SHED n, CTL_FFCTL_MISS n]⟩,
    ⟨0x5054, 4, 1, fun _ => [CTL_PROF0_VMAX n, CTL_PROF0_AMAX n]⟩,
    ⟨0x5058, 4, 1, fun _ => [CTL_PROF1_JMAX n]⟩,
    ⟨0x505C, 4, 1, fun _ => [CTL_SETTLE_RDWIN n, CTL_SETTLE_RDN n, CTL_SETTLE_WRWIN n, CTL_SETTLE_WRN n, CTL_SETTLE_TMO n]⟩,
    ⟨0x5060, 4, 1, fun _ => [CTL_FELIM_FELIM n]⟩,
    ⟨0x5064, 4, 1, fun _ => [CTL_FETIME_FETIME n]⟩,
    ⟨0x5068, 4, 1, fun _ => [CTL_L0PLAUS_LIMIT n]⟩,
    ⟨0x506C, 4, 1, fun _ => [CTL_L0MODEL_RCOIL n, CTL_L0MODEL_LCOIL n]⟩,
    ⟨0x5070, 4, 1, fun _ => [CTL_L0KB_KB n]⟩,
    ⟨0x5074, 4, 1, fun _ => [CTL_SUPSTAT_CLF n, CTL_SUPSTAT_FE n, CTL_SUPSTAT_L0RUN n, CTL_SUPSTAT_DEV n]⟩ ]

/-- Rows of the register map, part 4. -/
def armRows4 (n : Nat) : List RegRow :=
  [ ⟨0x5080, 4, 1, fun _ => [CTL_INJ_EN n, CTL_INJ_TYPE n, CTL_INJ_POINT n, CTL_INJ_HOLD n]⟩,
    ⟨0x5084, 4, 1, fun _ => [CTL_INJAMP_AMP n]⟩,
    ⟨0x5088, 4, 1, fun _ => [CTL_INJF0_F0 n]⟩,
    ⟨0x508C, 4, 1, fun _ => [CTL_INJF1_F1 n]⟩,
    ⟨0x5090, 4, 1, fun _ => [CTL_INJT_INJT n]⟩,
    ⟨0x50A0, 4, 1, fun _ => [CTL_CAPBASE_ADDR n]⟩,
    ⟨0x50A4, 4, 1, fun _ => [CTL_CAPCTL_GO n, CTL_CAPCTL_BUSY n, CTL_CAPCTL_DONE n, CTL_CAPCTL_RATE n, CTL_CAPCTL_NSIG n, CTL_CAPCTL_TRIGINJ n]⟩,
    ⟨0x50A8, 4, 1, fun _ => [CTL_CAPSEL_SIG0 n, CTL_CAPSEL_SIG1 n, CTL_CAPSEL_SIG2 n, CTL_CAPSEL_SIG3 n]⟩,
    ⟨0x50AC, 4, 1, fun _ => [CTL_CAPLEN_LEN n]⟩,
    ⟨0x50B0, 4, 1, fun _ => [CTL_CAPSTAT_WRITTEN n]⟩,
    ⟨0x6040, 4, 1, fun _ => [CAL_TRIG_AUTO n, CAL_TRIG_DT n, CAL_TRIG_MAXINT n]⟩,
    ⟨0x6044, 4, 1, fun _ => [CAL_CMD_GO n, CAL_CMD_KIND n, CAL_CMD_SLOT n, CAL_CMD_REFUSED n]⟩,
    ⟨0x6048, 4, 1, fun _ => [CAL_STAT_RUNNING n, CAL_STAT_PEND n, CAL_STAT_MPEND n, CAL_STAT_TREF n]⟩,
    ⟨0x604C, 4, 1, fun _ => [CAL_RUNCFG_NSEC n, CAL_RUNCFG_NSLOT n, CAL_RUNCFG_TMAX n]⟩,
    ⟨0x6050, 4, 1, fun _ => [CAL_MEDTRK_TRACK n]⟩,
    ⟨0x6054, 4, 1, fun _ => [CAL_SRVRES_RCOIL n, CAL_SRVRES_LCOIL n]⟩,
    ⟨0x60A0, 4, 9, fun i => [CAL_LIM_MIN n i, CAL_LIM_MAX n i, CAL_LIM_STEP n i]⟩,
    ⟨0x6080, 4, 1, fun _ => [CAL_RESSEL_SLOT n, CAL_RESSEL_VARIANT n]⟩,
    ⟨0x6084, 4, 1, fun _ => [CAL_RESDATA_DATA n]⟩,
    ⟨0x6088, 4, 2, fun i => [CAL_UPD_UPD n i]⟩ ]

/-- The rows of the hub and power-die pages. -/
def hubRows : List RegRow := hubRows0 ++ hubRows1 ++ hubRows2 ++ hubRows3 ++ hubRows4 ++ hubRows5 ++ hubRows6 ++ hubRows7 ++ hubRows8 ++ hubRows9 ++ hubRows10

/-- The rows of the pages of arm `n`, with offsets from the first page of the arm. -/
def armRows (n : Nat) : List RegRow := armRows0 n ++ armRows1 n ++ armRows2 n ++ armRows3 n ++ armRows4 n

/-- The fields at `off` by a list of rows; `none` where no register stands there. -/
def rowFlds (off : Nat) : List RegRow → Option (List Fld)
  | [] => none
  | r :: rs =>
    if r.base ≤ off ∧ off < r.base + r.stride * r.count ∧ (off - r.base) % r.stride = 0 then
      some (r.flds ((off - r.base) / r.stride))
    else rowFlds off rs

end Sys2Proof.Machine
end

