-- ==== Sys2Proof/Machine/Ldpc.lean ====
section
/-!
DEFINITION. Machine/Ldpc.lean: the quasi-cyclic LDPC code of R78: its syndrome and its parity. A codeword is 1,155
blocks of 32 bits, bit t of a block being codeword bit 32·j + t; bytes are recorded most significant bit first (R65).
-/
namespace Sys2Proof.Machine

/-- The eight bits of a byte in reverse order. -/
def rev8 (b : Nat) : Nat := (List.range 8).foldl (fun x k => if b.testBit (7 - k) then x + 2 ^ k else x) 0

/-- The 32-bit blocks that recorded bytes spell: bit t of block j is bit 32·j + t in recording order (R65, R78). -/
def ldpcBlocks (bs : List Nat) : List Nat :=
  (List.range (bs.length / 4)).map (fun j => leNat (((bs.drop (4 * j)).take 4).map rev8))

/-- The recorded bytes of blocks. -/
def ldpcBytes (xs : List Nat) : List Nat := xs.flatMap (fun x => (leBytes x 4).map rev8)

/-- A circulant of shift `s` applied to a block: row t takes bit (t + s) mod 32 (R78). -/
def circ (s x : Nat) : Nat := x / 2 ^ s + x % 2 ^ s * 2 ^ (32 - s)

/-- The information terms of the 127 block-rows (R78). -/
def ldpcRows (info : List Nat) : List Nat :=
  (info.take 1028).zipIdx.foldl (fun acc p =>
    let j := p.2
    (List.range 4).foldl (fun acc k =>
      let row := (j + k * (1 + j / 127)) % 127
      acc.set row (acc.getD row 0 ^^^ circ ((7 * (k + 1) * j + 13 * k) % 32) p.1)) acc) (List.replicate 127 0)

/-- The 127 parity blocks: parity block p is block-row p's information terms plus parity block p − 1 (R78). -/
def ldpcParity (info : List Nat) : List Nat :=
  ((ldpcRows info).foldl (fun (st : Nat × List Nat) r => let p := r ^^^ st.1; (p, st.2 ++ [p])) (0, [])).2

/-- The syndrome of a codeword of 4,620 bytes is zero (R78, R80). -/
def ldpcOk (word : List Nat) : Bool :=
  let xs := ldpcBlocks word
  word.length == 4620 && xs.drop 1028 == ldpcParity (xs.take 1028)

/-- The codeword of 4,112 bytes of user data and metadata, as 4,620 bytes (R97). -/
def ldpcEncode (info : List Nat) : List Nat := info ++ ldpcBytes (ldpcParity (ldpcBlocks info))

end Sys2Proof.Machine
end

