-- ==== Sys2Proof/Machine/Layout.lean ====
section
/-!
DEFINITION. Machine/Layout.lean: how a data sector is laid on a track and put on the write-data pair: its 37,152 channel bits (R65), its
place on the angular grid with the split at the servo fields (R66), and the precompensation of its transitions (R98).
-/
namespace Sys2Proof.Machine

/-! ## The bits of a sector (R65) -/

/-- The low `w` bits of a number, most significant bit first. -/
def nrzBits (w v : Nat) : List Bool := (List.range w).map (fun k => v.testBit (w - 1 - k))

/-- The 2T pattern 0b1100 repeated, `n` bits of it. -/
def twoT (n : Nat) : List Bool := (List.range n).map (fun k => decide (k % 4 < 2))

/-- Bits of the fields of a sector, in order: preamble, sync mark, codeword, postamble, splice gap. -/
def preambleBits : Nat := 64
def syncBits : Nat := 32
def codeBits : Nat := 36960
def postambleBits : Nat := 32
def spliceBits : Nat := 64
def sectorSpan : Nat := preambleBits + syncBits + codeBits + postambleBits + spliceBits

/-- The sync mark. -/
def syncMark : Nat := 0x4D2B71E6

/-- The bits that a sector puts on the write-data pair, up to the last postamble bit. -/
def sectorBits (code : List Nat) : List Bool :=
  twoT preambleBits ++ nrzBits syncBits syncMark ++ code.flatMap (nrzBits 8) ++ twoT postambleBits

/-! ## Place on the track (R66) -/

/-- A run of a sector's bits in one wedge: the wedge, its first bit from cell 1,024, the first bit of the sector in it, and the number
of bits. -/
structure Frag where
  wedge : Nat
  start : Nat
  first : Nat
  len : Nat
  deriving DecidableEq, Repr

/-- Bits of the split pad. -/
def padBits : Nat := 32

/-- Data-area bits of a wedge: cells 1,024 to 16,383 (R56, R67). -/
def dataBits (bpw16 : Nat) : Nat := 15 * bpw16

/-- The runs of `len` bits from bit `i` of a sector on that start at bit `b` of wedge `w`: what does not fit before cell 16,383 goes on
after the servo field and the split pad. -/
def fragsFrom (dat : Nat) : Nat → Nat → Nat → Nat → Nat → List Frag
  | 0, _, _, _, _ => []
  | f + 1, i, len, w, b =>
    if len ≤ dat - b then [⟨w % 720, b, i, len⟩]
    else if b = dat then fragsFrom dat f i len (w + 1) 0
    else ⟨w % 720, b, i, dat - b⟩ :: fragsFrom dat f (i + (dat - b)) (len - (dat - b)) (w + 1) padBits

/-- Where what follows `len` bits from bit `b` of wedge `w` on starts. -/
def spanEnd (dat : Nat) : Nat → Nat → Nat → Nat → Nat × Nat
  | 0, _, w, b => (w, b)
  | f + 1, len, w, b =>
    if len ≤ dat - b then (w, b + len)
    else if b = dat then spanEnd dat f len (w + 1) 0
    else spanEnd dat f (len - (dat - b)) (w + 1) padBits

/-- Wedges that the longest sector can touch, where a data area holds only one bit beyond the pad. -/
def spanFuel : Nat := 720

/-- Wedge and data-area bit at which sector `s` of a track starts: sector 0 at cell 1,024 of wedge (t · SKEW) mod 720, each later one
at the end of the splice gap before. -/
def sectorStart (dat w0 : Nat) : Nat → Nat × Nat
  | 0 => (w0, 0)
  | s + 1 => let p := sectorStart dat w0 s; spanEnd dat spanFuel sectorSpan p.1 p.2

/-- The fragments of sector `s` of track `t` in a band of `bpw16` and skew `skew`. -/
def sectorFrags (bpw16 skew t s : Nat) : List Frag :=
  let p := sectorStart (dataBits bpw16) (t * skew % 720) s
  fragsFrom (dataBits bpw16) spanFuel 0 sectorSpan p.1 p.2

/-- Bits of a sector before its split; all of them where it is not split. -/
def splitOf (fs : List Frag) : Nat :=
  match fs with
  | [] => sectorSpan
  | f :: _ => f.len

/-! ## The write-data pair (R97, R98) -/

/-- A fragment as it is written: the NRZ levels, split pad included, and the delay of the transition into each bit in 1/64 bit. -/
structure WriteFrag where
  frag : Frag
  level : List Bool
  delay : List Nat
  deriving DecidableEq, Repr

/-- The delay of a transition at distance `dist` from the one before it (R98); 0: no transition before it. -/
def precomp (pc : Nat × Nat × Nat) (dist : Nat) : Nat :=
  if dist = 1 then pc.1 else if dist = 2 then pc.2.1 else if dist = 3 then pc.2.2 else 0

/-- The delays of the transitions in a row of levels that follows level `last`, `dist` bits after the last transition (0: none since
write gate rose). -/
def delays (pc : Nat × Nat × Nat) : Bool → Nat → List Bool → List Nat
  | _, _, [] => []
  | last, dist, x :: xs =>
    if x = last then 0 :: delays pc x (if dist = 0 then 0 else dist + 1) xs
    else precomp pc dist :: delays pc x 1 xs

/-- Levels of one write-gate interval with their delays: the first bit leaves electrical idle, which is no transition. -/
def drive (pc : Nat × Nat × Nat) (f : Frag) (level : List Bool) : WriteFrag :=
  ⟨f, level, match level with
    | [] => []
    | x :: xs => 0 :: delays pc x 0 xs⟩

/-- What a sector puts on the write-data pair, fragment by fragment (R66, R97): a fragment after a split begins with the split pad. -/
def writeImage (pc : Nat × Nat × Nat) (fs : List Frag) (code : List Nat) : List WriteFrag :=
  fs.map (fun f =>
    drive pc f ((if f.first = 0 then [] else twoT padBits) ++ ((sectorBits code).drop f.first).take f.len))

end Sys2Proof.Machine
end

