-- ==== Sys2Proof/Machine/State.lean ====
section
/-!
DEFINITION. Machine/State.lean: the machine's state as plain data: every register, queue, buffer, mode and counter the
spec gives the device, the fuses, and the queue of commands that wait. The reset state is the device right after
power-on reset, before any command.
-/
namespace Sys2Proof.Machine

/-- The errors of one error class (R41): the stamps (whole milliseconds of CLK_AUX time) of the errors that may still
be inside the window, newest first, and whether the class has been promoted to lasting. -/
structure ErrWin where
  stamps : List Int
  lasting : Bool
  deriving DecidableEq, Repr

/-- An error class without errors. -/
def ErrWin.empty : ErrWin := ⟨[], false⟩

/-- The common header of one register page (R32, R33), but for the words that follow from the page's place in the map
(PG_ID, PG_CAP, PG_EVBASE). -/
structure PageHdr where
  enable : Bool
  freeze : Bool
  lock : Bool
  ready : Bool
  fault : Bool
  degraded : Bool
  busy : Bool
  raw : Word
  even : Word
  stat : Word
  window : Nat
  thresh : Nat
  err : ErrWin
  total : Nat
  deriving DecidableEq, Repr

/-- The ordering code of the part (R1). -/
inductive Part
  | a2 | a2b1 | a4 | a4b2
  deriving DecidableEq, Repr

/-- One-time programmable fuses, which no reset restores: the host-lock fuse (R225), the test-disable fuse (R388), the
rollback counter and the revocation of key-hash slot 0 (R47), the two key-hash slots (R51), the subsystem identity (R220), and the type codes and
usage bits and keys of the Verom slots (R317). -/
structure Otp where
  hostLock : Bool
  testDisabled : Bool
  rollback : Nat
  key0rev : Bool
  keyHash0 : List Nat
  keyHash1 : List Nat
  svid : Nat
  ssid : Nat
  verom : Store Nat
  veromKeys : Store (List Nat)
  deriving DecidableEq, Repr

/-- A record on its way to the event recorder (R335): event code, severity, payload bytes 16 to 55. -/
structure LogRec where
  code : Nat
  sev : Nat
  payload : List Nat
  deriving DecidableEq, Repr

/-- One entry of the MSI-X table (R221): message address, message data, mask bit. -/
structure MsixEntry where
  addr : Nat
  data : Nat
  masked : Bool
  deriving DecidableEq, Repr

/-- A Felox link (R14 to R18) beyond its GLB_FLXSTATn and GLB_FLXERRn registers: the number of the next flit it will
deliver in each class, whether it has come up since its die was powered (R34), and whether it is in training. -/
structure Link where
  nextBulk : Nat
  nextSide : Nat
  everUp : Bool
  training : Bool
  deriving DecidableEq, Repr

/-- A link that has not come up. -/
def Link.reset : Link := ⟨0, 0, false, false⟩

/-- One PMP entry (R45): address-matching mode (0 OFF, 1 TOR, 3 NAPOT), permissions, lock bit and address register. -/
structure PmpEntry where
  mode : Nat
  r : Bool
  w : Bool
  x : Bool
  locked : Bool
  addr : Nat
  deriving DecidableEq, Repr

/-- A PMP entry that is OFF and unlocked, as Boot ROM hands it over (R45). -/
def PmpEntry.off : PmpEntry := ⟨0, false, false, false, false, 0⟩

/-- A Wiloz core (R42 to R48): the integer registers and pc, the privilege mode, whether it waits in WFI, whether Boot
ROM has halted it, the LR reservation (a 128-byte line), the interrupt-enable stack, MPRV and TW of mstatus, the machine CSRs by
number, the PMP, the I-cache lines as fetched, the lines its D-cache holds, the events pending for it with their
severities (R38, R39), and of its watchdog the period in force and the CLK_AUX time of the last restart (R48). -/
structure Core where
  x : Store Nat
  pc : Nat
  user : Bool
  wfi : Bool
  halted : Bool
  resv : Option Nat
  mie : Bool
  mpie : Bool
  mppUser : Bool
  mprv : Bool
  tw : Bool
  csr : Store Nat
  pmp : Store PmpEntry
  icache : Store (List Nat)
  dlines : List Nat
  pend : List (Nat × Nat)
  wdPeriod : Nat
  wdStart : Nat
  deriving DecidableEq, Repr

/-- A core held in reset. Integer registers and CSRs have no reset value in the spec and start at 0; the RISC-V
architecture starts a core in machine mode with interrupts disabled. DESIGN CHOICE, notes/assumptions/2. -/
def Core.reset : Core :=
  { x := [], pc := 0, user := false, wfi := false, halted := false, resv := none, mie := false, mpie := false,
    mppUser := false, mprv := false, tw := false, csr := [], pmp := [], icache := [], dlines := [], pend := [], wdPeriod := 0x3E8, wdStart := 0 }

/-- One band of an arm's band table as loaded (R70, R71). -/
structure Band where
  head : Nat
  idx : Nat
  first : Nat
  last : Nat
  bpw16 : Nat
  spt : Nat
  skew : Nat
  shingled : Bool
  rad0 : Nat
  rad1 : Nat
  usable : Bool
  deriving DecidableEq, Repr

/-- What a media work item is for (R254, R255). -/
inductive WorkKind
  | hostRead | hostWrite | relocRead | relocWrite | vaultWrite | replayWrite | scanRead | parityRead
  deriving DecidableEq, Repr

/-- A media work item of a hand (R254): number, purpose, trump precedence of R255 (0: not trump class), command context,
namespace index (0xFF none), zone record and first zone offset, sectors, head and first track, reference tag and LBA of
the first block (2^32 and above: the dealer supplies no tag), whether the zone has parity, admission time, class deadline and read deadline (CLK_AUX time; 0:
none), sectors that have been under the head, whether the hand has started it, blocks read ahead after the last sector
(R253), the first sector on its track where no zone record places it, and the sectors that have been under the head and are to be read
once more (R92). A work item outside every zone has record `noRec`. -/
structure Work where
  id : Nat
  kind : WorkKind
  trump : Nat
  ctx : Option Nat
  ns : Nat
  zrec : Nat
  zofs : Nat
  len : Nat
  head : Nat
  track : Nat
  refTag : Nat
  lba : Nat
  parity : Bool
  admitted : Nat
  due : Nat
  deadline : Nat
  done : Nat
  started : Bool
  ahead : Nat
  sector : Nat
  redo : List Nat
  deriving DecidableEq, Repr

/-- A sector in the retry ladder (R89): its work item and place in it, rung, attempts failed on the rung, when it came to
the rung (CLK_AUX time), mask of rungs tried, when it entered, whether the first pass of a rung-7 attempt has
run, and the head and track it lies on. -/
structure LadSec where
  work : Nat
  sec : Nat
  rung : Nat
  tries : Nat
  rungAt : Nat
  mask : Nat
  since : Nat
  pass : Bool
  head : Nat
  track : Nat
  deriving DecidableEq, Repr

/-- A written sector on its way to its read-after-write result (R108): its work item and place in it, the cause of a
failure that is already known (R201; 0: none), its bits before the split, the slot it was written with, the track, and when it becomes
readable under the TRR (CLK_AUX time). -/
structure RawSec where
  work : Nat
  sec : Nat
  cause : Nat
  split : Nat
  slot : Nat
  track : Nat
  ready : Nat
  deriving DecidableEq, Repr

/-- A sector whose samples are in the sample buffer and whose on-the-fly decode has not ended (R68, R73, R85): its work item and place
in it, the channel that decodes it, the words of the set it is decoded with, the readers, the bits before its split, the samples of both
readers, the positions to decode and those still to try, whether only early detections fell in the window, whether the
predicted position is tried where a late one fails, and the best decode so far; once it has ended, whether it is delivered waits for the sectors before it. -/
structure Flight where
  work : Nat
  sec : Nat
  ch : Nat
  set : List Nat
  rdrs : List Nat
  split : Nat
  l : List Int
  t : List Int
  first : List Int
  cands : List Int
  early : Bool
  alt : Bool
  best : Option (Int × List Nat)
  ended : Bool
  deriving DecidableEq, Repr

/-- Both readers' front ends as the live channel's selected set has them (R72, R74): LDR and TRR boost, cutoff code and cutoff in kHz. -/
structure FrontEnd where
  boost : Nat × Nat
  cut : Nat × Nat
  fc : Nat × Nat
  deriving DecidableEq, Repr

/-- A serial frame of the arm link (R114): address, data, read or write, whether it is firmware's raw frame (R119), and
the attempts that have failed (R117). -/
structure Frame where
  addr : Nat
  data : Nat
  read : Bool
  raw : Bool
  tries : Nat
  deriving DecidableEq, Repr

/-- Feedforward source of an arm (R138): the samples held, newest first, the sample that has arrived for the last wedge,
the runs of missing and of received samples, and whether the source is dropped. -/
structure FfSrc where
  hist : List Int
  got : List (Nat × Int)
  missRun : Nat
  gotRun : Nat
  dropped : Bool
  deriving DecidableEq, Repr

/-- A feedforward source that has sent nothing. -/
def FfSrc.reset : FfSrc := ⟨[], [], 0, 0, false⟩

/-- Sums of products of the L0 samples of an SRV run (R185), over z (the coil's voltage without R · i, times the period), y (the current,
times the period) and t (the step of the current), for the least-squares fit. -/
structure FitSums where
  zz : Int
  zy : Int
  yy : Int
  zt : Int
  yt : Int
  deriving DecidableEq, Repr

/-- A calibration run of an arm (R182 to R187): its kind (bit number of R180), the slot of an FH or AST run, its phase
(CH: 0 the copy runs, 1 A adapts, 2 A hands back; SRV: 0 collecting, 1 an accepted result waits for the wedge boundary;
FH and AST: 0 on the way to a track, 1 writing, 2 reading back, 3 an accepted code waits for the index), when the phase
that TMAX limits began, whether an automatic trigger asked for it; of a CH run the sectors adapted by slot (two-reader sectors; read-
after-write sectors 64 further on), the slots that firmware has committed meanwhile, and whether the run has passed (some true) or failed (some false); of an SRV run
the wedges collected and the sums of their samples; of an FH or AST run the point 0 to 8, whether it has been repeated, whether an inhibit fell into
the write revolution, whether the run is to be abandoned at the end of the revolution, iterations and sectors of the
points read (none: failing), and the code installed before the run; and the result that waits. -/
structure CalRun where
  kind : Nat
  slot : Nat
  phase : Nat
  since : Nat
  auto : Bool
  counts : Store Nat
  skip : List Nat
  verdict : Option Bool
  wedges : Nat
  fit : FitSums
  point : Nat
  redone : Bool
  inhibited : Bool
  ending : Bool
  means : List (Nat × Option (Nat × Nat))
  base : Nat
  res : Nat × Nat
  deriving DecidableEq, Repr

/-- A run that begins. -/
def CalRun.start (kind slot since : Nat) (auto : Bool) (base : Nat) : CalRun :=
  ⟨kind, slot, 0, since, auto, [], [], none, 0, ⟨0, 0, 0, 0, 0⟩, 0, false, false, false, [], base, (0, 0)⟩

/-- A point of a seek profile (R140): position, velocity and acceleration, in the scales of Machine/Profile.lean. -/
structure Kin where
  p : Int
  v : Int
  a : Int
  deriving DecidableEq, Repr

/-- An arm die (R56 to R154, R416) beyond its registers.
Format and lane: the band table in force and one that waits for a revolution index, the last wedge period and the last
four, the slope in LSBs a wedge, the wedges bridged in a row and the BPW in force (in sixteens), whether the LDR's front end has
failed for the last servo field and the shift that the reader in use gives the servo times (R57), accepted lanes in a row, whether an unlock holds writing, inhibits and lifts that wait for a sector boundary.
Servo: a head load in progress, whether a SAM has been found in it, target head and track, whether firmware ordered the
seek, whether a request of firmware for the seek interface waits, the set-point that L2 passes on (2^30 a track), the profile
behind it, the phases still to run (jerk, LSBs) and the goal they end at, the offset applied and that of the ladder, position and error of the last sample, runs of wedges inside the windows and above the limit,
valid samples in hold, when the profile reached its target or the load began, the sections' histories, the loops'
signals (Q2.30), the current sample not yet used, the last current and the model current (µA), the microactuator flag,
the coil's voltage without R · i of the period that runs (R144, R185), the sample published on the reaction bus, the feedforward sources, the coefficient tables by
table and word, the staging buffer, a table that waits for an aligned wedge boundary, the bank and weight of R133, taps
shed by source, capture running, the PRBS register and hold count, the phase of an injected sine and the time of a sweep (R150).
Channels: the set memories, staging buffers, sets that wait for a sector boundary, the copy in progress as A stood, the
channel live last, a takeover that waits, the reader classes and judgements, a judgement that waits for a sector boundary, inputs that
the preamplifier reports open (bit 0 LDR, bit 1 TRR), the front ends, the gains that wait for a sector boundary, the ladder and whether its
further attempts wait for the seek interface (R139), the sectors in the sample buffer, oldest first, the heater steps that rung 8 has applied, and the read heater codes that firmware has set by head (R118).
Write path: what IDENT CAPS reported, the burst and the sector being
written (none: the lead), sectors on their way to a result, sectors to rewrite, heads retired for writing, the frame on
the link and those that wait, the request last driven on SDIO, whether a mode frame of the burst has failed, what the sector being
written puts on the write-data pair (R97, R98), whether the pair is active, the precompensation codes and TRRLAG in force (R99), when write
gate last rose and when it last fell, the aligned 1 ms window and the CLK_AUX cycles write gate was high in it before (R105), the lead of the burst in ns, the
slot for which the next burst's mode frames have gone out, when the last of them completed, whether a cold RAMP code is in the
preamplifier (R102), the fault bits that hold an inhibit until FLT_N is released and the heads that wait for a burst of their own (R120).
Calibration: which of the pending kinds firmware has ordered, the slot ordered, the runs in progress, the result area
by set and word and its pointer, when the interval of R181 began (none: before the first head load), whether the
temperature condition held at the last conversion, whether a start notice waits for its end notice, and whether a
power-loss notice has arrived. -/
structure Arm where
  bands : List Band
  newBands : Option (List Band)
  period : Nat
  periods : List Nat
  slope : Int
  bridged : Nat
  ratio : Nat
  ldrOut : Bool
  lagLsb : Int
  accRun : Nat
  unlocked : Bool
  inhNext : Nat
  liftNext : Nat
  loading : Bool
  samSeen : Bool
  tgtHead : Nat
  tgtTrack : Nat
  fwSeek : Bool
  fwPend : Bool
  sp : Int
  prof : Kin
  phases : List (Int × Nat)
  goal : Int
  ofs : Int
  ladOfs : Int
  pos : Int
  pes : Int
  rdRun : Nat
  wrRun : Nat
  feRun : Nat
  validRun : Nat
  moveAt : Nat
  hist : Store (Int × Int × Int × Int)
  m : Int
  v : Int
  ff : Int
  iSet : Int
  drive : Int
  meas : Option Int
  iMeas : Int
  maFlag : Bool
  missCur : Nat
  iModel : Int
  coilZ : Int
  pubWedge : Nat
  pub : Int
  pubIdle : Bool
  src : Store FfSrc
  tables : Store Nat
  stage : List Nat
  tblPend : Option (Nat × List Nat)
  bank : Nat
  wNum : Nat
  wDen : Nat
  shedTaps : Store Nat
  capOn : Bool
  prbs : Nat
  prbsHold : Nat
  injPhase : Nat
  injTime : Nat
  sets : Store Nat
  setsJ : Store Nat
  stageA : List Nat
  stageJ : List Nat
  pendA : Option (Nat × List Nat)
  pendJ : Option (Nat × List Nat)
  copySrc : Option (Store Nat)
  liveLast : Nat
  takeover : Option Nat
  ldrErr : ErrWin
  trrErr : ErrWin
  ldrBad : Bool
  trrBad : Bool
  ladder : List LadSec
  ladWait : Bool
  judge : Option (Bool × Bool)
  openIn : Nat
  fe : FrontEnd
  gainNext : Option (Nat × Nat)
  flights : List Flight
  heatR : Nat
  heatBase : Store Nat
  caps : Nat
  burst : Option Nat
  wsec : Option RawSec
  raws : List RawSec
  rewrites : List RawSec
  retired : Nat
  frame : Option Frame
  frames : List Frame
  sdio : Nat
  modeBad : Bool
  image : List WriteFrag
  pair : Bool
  pc : Nat × Nat × Nat
  lag : Nat
  gateAt : Nat
  idleAt : Nat
  dutyWin : Nat
  dutyAcc : Nat
  lead : Nat
  framed : Option Nat
  frameAt : Nat
  rampOn : Bool
  fltBits : Nat
  fltHeads : Nat
  calMan : Nat
  calSlot : Nat
  calRuns : List CalRun
  results : Store Nat
  resPtr : Nat
  calFrom : Option Nat
  calHot : Bool
  ramping : Bool
  stepSeen : Nat
  plossSeen : Bool
  deriving DecidableEq, Repr

/-- An arm die after power-on: no table, heads unloaded, both set memories at 0 (no reset value is given: DESIGN CHOICE,
notes/assumptions/14), nothing in progress. -/
def Arm.reset : Arm :=
  { bands := [], newBands := none, period := 0, periods := [], slope := 0, bridged := 0,
    ratio := 0, ldrOut := false, lagLsb := 0, accRun := 0,
    unlocked := false, inhNext := 0, liftNext := 0, loading := false, samSeen := false,
    tgtHead := 0, tgtTrack := 0, fwSeek := false, fwPend := false, sp := 0,
    prof := ⟨0, 0, 0⟩, phases := [], goal := 0, ofs := 0, ladOfs := 0, pos := 0, pes := 0,
    rdRun := 0, wrRun := 0, feRun := 0, validRun := 0, moveAt := 0,
    hist := [], m := 0, v := 0, ff := 0, iSet := 0,
    drive := 0, meas := none, iMeas := 0, maFlag := false, missCur := 0,
    iModel := 0, coilZ := 0, pubWedge := 0, pub := 0, pubIdle := true,
    src := [], tables := [], stage := List.replicate 64 0, tblPend := none, bank := 0,
    wNum := 0, wDen := 1, shedTaps := [], capOn := false, prbs := 0,
    prbsHold := 0, injPhase := 0, injTime := 0, sets := [], setsJ := [], stageA := List.replicate 64 0, stageJ := List.replicate 64 0,
    pendA := none, pendJ := none, copySrc := none, liveLast := 0, takeover := none,
    ldrErr := ErrWin.empty, trrErr := ErrWin.empty, ldrBad := false, trrBad := false,
    ladder := [], ladWait := false, judge := none, openIn := 0, fe := ⟨(0, 0), (0, 0), (0, 0)⟩, gainNext := none, flights := [],
    heatR := 0, heatBase := [],
    caps := 0, burst := none, wsec := none, raws := [], rewrites := [], retired := 0,
    frame := none, frames := [], sdio := 0, modeBad := false,
    image := [], pair := false, pc := (0, 0, 0), lag := 0, gateAt := 0, idleAt := 0, dutyWin := 0, dutyAcc := 0, lead := 0, framed := none,
    frameAt := 0, rampOn := false, fltBits := 0, fltHeads := 0,
    calMan := 0, calSlot := 0, calRuns := [], results := [],
    resPtr := 0, calFrom := none, calHot := false, ramping := false, stepSeen := 0, plossSeen := false }

/-- A hand: the media work queued for one arm (R254). -/
abbrev Hand := List Work

/-- A speed-step notice (R163): start or end, source step, target code. -/
structure Notice where
  start : Bool
  src : Nat
  tgt : Nat
  deriving DecidableEq, Repr

/-- The power die (R155 to R179) beyond its pages: arms in the full-voltage phase of a retract (bit n), when the phase of a retract in
force began (from an internal reset on before 0), the drive
command in force for each VCM, the last microactuator commands, missed commands in a row by arm, microactuator outputs held at 0 V for over-current (bit n); the last Hall code (none
before the first edge), implausible edges in a row and plausible edges since, agreeing edges in
a row, edges since the last whole revolution, revolutions in band, edge intervals of the present revolution, whether FOC
is disabled (R175), whether the braking or the vault rectification in force is timed by the observer (R160), the state left by a loss
of synchronism or a disconnection (0: none), the DEMAND samples (newest first), the end of the last
ramp (CLK_AUX time), when START was given (from an internal reset on before 0), whether the chopper is held off until power cycle, VDD_CORE (mV) when it was last set or reported and that time, whether the flush of the
vault mode in force is complete, and whether the supplies have returned during it; the last revolution's speed in
0.01 rpm is SPN_SPEED; the notices sent and not yet arrived, by destination (arm number; 4 the hub). -/
structure Power where
  retFull : Nat
  retAt : Store Int
  drives : Store Int
  maCmd : Store Int
  miss : Store Nat
  maHeld : Nat
  noRetract : Nat
  hall : Option Nat
  badRun : Nat
  goodRun : Nat
  agree : Nat
  edges : Nat
  revSum : Nat
  inBand : Nat
  noFoc : Bool
  foc : Bool
  before : Nat
  demand : List Nat
  rampEnd : Option Int
  started : Int
  reached : Bool
  chopOff : Bool
  coreMv : Nat
  coreAt : Nat
  flushed : Bool
  supplyBack : Bool
  notices : Store (List Notice)
  deriving DecidableEq, Repr

/-- A power die after power-on. -/
def Power.reset : Power :=
  { retFull := 0, retAt := [], drives := [], maCmd := [], miss := [], maHeld := 0, noRetract := 0, hall := none,
    badRun := 0, goodRun := 0, agree := 0, edges := 0, revSum := 0, inBand := 0, noFoc := false, foc := false,
    before := 0, demand := [], rampEnd := none, started := 0, reached := false, chopOff := false, coreMv := 750, coreAt := 0, flushed := false,
    supplyBack := false, notices := [] }

/-- A zone record (R195). -/
structure Zone where
  state : Nat
  par : Bool
  conv : Bool
  spare : Bool
  vault : Bool
  reloc : Bool
  zfc : Bool
  rzr : Bool
  slips : Nat
  wp : Nat
  verif : Nat
  arm : Nat
  head : Nat
  track : Nat
  ns : Nat
  deriving DecidableEq, Repr

/-- A change that waits for room in the journal (R378): record index, the zone record after the change and the slip entry
added; or, with a head, a record of another kind as its bytes 0 to 7 and 16 to 59. -/
structure JWait where
  zi : Nat
  zone : Zone
  slip : Nat
  head : List Nat
  body : List Nat
  deriving DecidableEq, Repr

/-- The running parity of an incomplete stripe of a zone (R208, R209): the stripe, the data positions summed, S0 and
S1, 2,056 symbols each. -/
structure Parity where
  stripe : Nat
  count : Nat
  s0 : List Nat
  s1 : List Nat
  deriving DecidableEq, Repr

/-- The two parity sectors of a complete stripe, held until they pass read-after-write (R210). -/
structure ParSec where
  zi : Nat
  stripe : Nat
  p62 : List Nat
  p63 : List Nat
  deriving DecidableEq, Repr

/-- A relocation in progress (R204): the zone's record, the spare taken, the zone offset below which it copies, the sectors
read by zone offset (4,112 bytes each) and not yet written, and the fresh slip list. -/
structure Reloc where
  zi : Nat
  spare : Nat
  top : Nat
  buf : Store (List Nat)
  slips : List Nat
  deriving DecidableEq, Repr

/-- A media-cache sector rewritten whose index entry waits for a free entry in its bucket (R213): namespace, LBA, arm,
head, track, sector. -/
structure McHold where
  ns : Nat
  lba : Nat
  arm : Nat
  head : Nat
  track : Nat
  sector : Nat
  deriving DecidableEq, Repr

/-- A namespace as the zone engine has loaded it (R194). -/
structure NsEntry where
  first : Nat
  nzones : Nat
  zoned : Bool
  par : Bool
  mar : Nat
  mor : Nat
  deriving DecidableEq, Repr

/-- An unused namespace entry. -/
def NsEntry.off : NsEntry := ⟨0, 0, false, false, 0, 0⟩

/-- The zone engine (R193 to R217) beyond the ZON page and its tables in SDRAM: the namespaces as loaded, the records
that hold a hardware context (R196), running parity by record, held parity sectors, relocations that wait (oldest
first) and the one that runs, zone actions that wait for a relocation or for verification (record, action code), the
next JSEQ (none until replay has set it, R378), changes that wait for the journal, media-cache entries that wait, the
sequence number of the last index entry, the offsets above VERIF that have passed read-after-write and the next zone
offset that goes to the media, by record (R197, R202), and of zones finished below their capacity the logical blocks that were
written, plus 1 (R197, R209), and for each arm the second in which a scan last ran and the CLK_AUX cycles it ran in it (R214). -/
structure ZoneEng where
  ns : Store NsEntry
  ctx : List Nat
  parity : Store (Option Parity)
  parHeld : List ParSec
  queue : List Nat
  cur : Option Reloc
  waits : List (Nat × Nat)
  jnext : Option Nat
  jwait : List JWait
  mcHeld : List McHold
  mcSeq : Nat
  passed : Store (List Nat)
  wofs : Store Nat
  short : Store Nat
  scanUse : Store (Nat × Nat)
  deriving DecidableEq, Repr

/-- A zone engine without tables, contexts or work. -/
def ZoneEng.reset : ZoneEng :=
  { ns := [], ctx := [], parity := [], parHeld := [], queue := [], cur := none, waits := [], jnext := none,
    jwait := [], mcHeld := [], mcSeq := 0, passed := [], wofs := [], short := [], scanUse := [] }

/-- What the device's one ordered queue of posted writes holds (R226), oldest first. -/
inductive OutTlp
  | data (addr : Nat) (bytes : List Nat)
  | zeroFill (addr len : Nat)
  | cqe (addr cid sqid sqhd status dw0 dw1 : Nat)
  | msix (addr data : Nat)
  deriving DecidableEq, Repr

/-- What a device read request is for (R230): submission entry `idx` of a queue, fetched once more or not; a piece of a
command's list or data, from byte `ofs` on; nothing any more, when its command has ended meanwhile. -/
inductive ReadFor
  | submission (qid idx : Nat) (again : Bool)
  | piece (ctx ofs : Nat)
  | dead
  deriving DecidableEq, Repr

/-- A read request of the device (R228): its tag, its address and length, the bytes that have arrived, what it is
for, and when it was sent (R229). -/
structure DevRead where
  tag : Nat
  addr : Nat
  len : Nat
  got : List Nat
  use : ReadFor
  sentAt : Nat
  deriving DecidableEq, Repr

/-- One active peer window (R234): enable, read-only, LOG2SZ, BASE, TARGET. -/
structure Win where
  en : Bool
  ro : Bool
  log2 : Nat
  base : Nat
  target : Nat
  deriving DecidableEq, Repr

/-- A window that maps nothing. -/
def Win.off : Win := ⟨false, false, 0x10, 0, 0⟩

/-- A window mapping (R234, R237): the windows by number, and the CMB selection: window, in force, submission queues,
data. -/
structure WinSet where
  wins : Store Win
  cmbWin : Nat
  cmbEn : Bool
  cmbSqs : Bool
  cmbData : Bool
  deriving DecidableEq, Repr

/-- A mapping without windows. -/
def WinSet.off : WinSet := ⟨[], 0, false, false, false⟩

/-- A request of the host that waits for a window commit (R227, R235): to BAR0, or to BAR2. -/
inductive HeldReq
  | bar (off n : Nat) (data : Option Nat) (env : RegEnv)
  | win (r : WinReq)
  deriving DecidableEq, Repr

/-- The host endpoint (R218 to R238) beyond the HEP page: configuration space by byte offset of its doublewords, the
MSI-X table and the vectors whose pending bit is set with the event that waits there (`noEvent`: an interrupt of a completion
queue), the ordered queue of posted writes, the reads outstanding and
those that wait for a tag, the mapping in force and the one that a commit in progress will install, the inbound requests
that wait for it in their order, the last TLP in either direction (CLK_AUX time), since when the
head of the ordered queue has stood there (R390), the LTR values sent (µs), the error messages sent (0 ERR_COR, 1 ERR_NONFATAL, 2 ERR_FATAL), and whether
PERST_N is asserted. -/
structure HostSide where
  cfg : Store Nat
  msix : Store MsixEntry
  pba : List (Nat × Nat)
  out : List OutTlp
  reads : List DevRead
  todo : List DevRead
  act : WinSet
  next : Option WinSet
  held : List HeldReq
  lastTlp : Nat
  headAt : Nat
  ltrSent : List Nat
  errSent : List Nat
  perst : Bool
  deriving DecidableEq, Repr

/-- An endpoint before its link has come up: the MSI-X table has every vector masked (PCI Express), every list is
empty and no window is active. -/
def HostSide.reset : HostSide :=
  { cfg := [], msix := [], pba := [], out := [], reads := [], todo := [], act := WinSet.off, next := none, held := [], lastTlp := 0, headAt := 0,
    ltrSent := [], errSent := [], perst := false }
/-- A submission queue (R240): base address, entries, completion queue, the dealer's head, the doorbell tail,
whether it exists, and the namespace at its context quota that holds the queue back (R244). -/
structure Sq where
  live : Bool
  base : Nat
  size : Nat
  cq : Nat
  head : Nat
  tail : Nat
  held : Option Nat
  deriving DecidableEq, Repr

/-- A queue that does not exist. -/
def Sq.off : Sq := ⟨false, 0, 0, 0, 0, 0, none⟩

/-- A completion queue (R240): base address, entries, the host's head, the dealer's tail, the phase tag, interrupt
enable and vector. -/
structure Cq where
  live : Bool
  base : Nat
  size : Nat
  head : Nat
  tail : Nat
  phase : Bool
  ien : Bool
  iv : Nat
  deriving DecidableEq, Repr

/-- A completion queue that does not exist. -/
def Cq.off : Cq := ⟨false, 0, 0, 0, 0, true, false, 0⟩

/-- Where a command stands (R245, R248): fetched and not yet admitted, waiting for tokens, waiting at the budget check,
its data being pulled, its second copy being written, accepted and waiting for verification (FUA, Flush), its media
reads outstanding, waiting for earlier commands to its zone, waiting for room in the firmware queue, with firmware, or
complete and waiting for room in its completion queue. -/
inductive Stage
  | fetched | tokens | budget | pulling | second | verifying | reading | zoneWait | fwqWait | firmware | posting
  deriving DecidableEq, Repr

/-- A command context (R243, R244) beyond its bytes in the context region: the queue and identifier of the command,
whether it is an admin command, its opcode, namespace index (0xFF none), latency class, CSN at fetch order, stage,
admission time, first LBA, blocks, limited retry, forced unit access, zone record (none: conventional or no zone), read
deadline, blocks whose data is still to come or to be verified, whether its data was pulled again, whether a read's
data transfer has begun, the media time taken by trump work while it waited, the completion (status, DW0, DW1), the
kind in the firmware queue (R245), the host memory of its data as spans of address and length (R228), the bytes of its
transfer that have no span yet, what it reads from the host (0 nothing, 1 a PRP list, 2 an SGL segment, 3 the last SGL
segment, 4 write data), the bytes that have arrived by offset and their number when complete, the key slot captured at
admission and whether it is sealed (R316), its place in the order of fetch and then of admission, and whether the host
has asked to abort it during a sealed unit (R313); of a sealed read the blocks that have arrived (LBA, ciphertext, metadata
bytes, source 0 media, 2 read cache, 3 held copy), the next block to decrypt and the units that have passed (R312). -/
structure Ctx where
  sqid : Nat
  cid : Nat
  admin : Bool
  opcode : Nat
  ns : Nat
  cls : Nat
  order : Nat
  stage : Stage
  admitted : Nat
  lba : Nat
  blocks : Nat
  lr : Bool
  fua : Bool
  zrec : Option Nat
  deadline : Nat
  left : Nat
  again : Bool
  moving : Bool
  trump : Nat
  status : Nat
  dw0 : Nat
  dw1 : Nat
  kind : Nat
  spans : List (Nat × Nat)
  need : Nat
  phase : Nat
  pull : Store (List Nat)
  pullLen : Nat
  slot : Nat
  isSealed : Bool
  seq : Nat
  abort : Bool
  got : List (Nat × List Nat × List Nat × Nat)
  sent : Nat
  units : Nat
  deriving DecidableEq, Repr

/-- One copy of an accepted block (R372): in SDRAM or buffer store at a core address, or lost. -/
inductive Copy
  | at (addr : Nat)
  | lost
  deriving DecidableEq, Repr

/-- A block between its budget check and its verification (R249, R372 to R374): the command that brought it (while it
is open), its CSN (0 before acceptance), namespace, LBA, zone record and offset (none: conventional), the two copies,
the 16 metadata bytes, whether the block is accepted, whether it is a held entry of a replay, whether it came from a
replay, whether its media-cache entry is written, and the key slot that encrypted it (R316). -/
structure Blk where
  ctx : Option Nat
  csn : Nat
  ns : Nat
  lba : Nat
  zone : Option (Nat × Nat)
  c1 : Copy
  c2 : Copy
  md : List Nat
  accepted : Bool
  heldEntry : Bool
  replayed : Bool
  slot : Nat
  deriving DecidableEq, Repr

/-- The configuration and bucket levels of one tenant (R257): TEN_NSCFG0 to TEN_NSCFG3 and the levels in 1/1000. -/
structure Tenant where
  en : Bool
  cls : Nat
  ctxMax : Nat
  irate : Nat
  brate : Nat
  iburst : Nat
  bburst : Nat
  ilev : Int
  blev : Int
  deriving DecidableEq, Repr

/-- A tenant as TEN_NSCFGn reset (R257). -/
def Tenant.reset : Tenant := ⟨false, 2, 0, 0, 0, 0x40, 0x800, 0, 0⟩

/-- The live counters of one namespace (R265). -/
structure NsStat where
  reads : Nat
  writes : Nat
  rblocks : Nat
  wblocks : Nat
  busy : Nat
  breaches : Nat
  trumped : Nat
  cached : Nat
  hist : Store Nat
  logged : Bool
  deriving DecidableEq, Repr

/-- Counters at 0. -/
def NsStat.zero : NsStat := ⟨0, 0, 0, 0, 0, 0, 0, 0, [], false⟩

/-- The live counters of one arm (R265). -/
structure ArmStat where
  read : Nat
  written : Nat
  busy : Nat
  seeks : Nat
  ladder : Nat
  unrec : Nat
  rawFail : Nat
  trump : Nat
  deriving DecidableEq, Repr

/-- Counters at 0. -/
def ArmStat.zero : ArmStat := ⟨0, 0, 0, 0, 0, 0, 0, 0⟩

/-- A snapshot on its way to its bank (R263): sequence number, cause, operating seconds, interval in ms, power-cycle
count, the counters, the bank it goes to, and whether that bank was unread. -/
structure Snap where
  seq : Nat
  cause : Nat
  ops : Nat
  ms : Nat
  pcc : Nat
  ns : Store NsStat
  arms : Store ArmStat
  bank : Nat
  overrun : Bool
  deriving DecidableEq, Repr

/-- The dealer (R240 to R267) beyond its pages: submission and completion queues by identifier, the queue to be served
next and the entries it may still give, contexts by index, the fetch order, held blocks in order of their budget
check, tenants and statistics by namespace, arm statistics, the next CSN, the start of the tick timer (none: not
started) and the tick in force, the snapshot being written, a deferred boundary, the namespaces that breached since the
last governor tick, Error Recovery TLER by namespace, binding counts of the read cache by namespace, the entries of the
admin queue registers' feature values, the completion entries that each vector's message waits for and since when (R240), whether a power-loss notice or shutdown has stopped fetching, the sequence numbers
of the snapshots in the two banks, the media busy time of each arm since the last governor tick (CLK_AUX cycles), and the
step that the last speed-step notice named. -/
structure Dealer where
  sqs : Store Sq
  cqs : Store Cq
  turn : Nat
  burst : Nat
  ctxs : Store (Option Ctx)
  orders : Nat
  blks : List Blk
  tenants : Store Tenant
  nsStat : Store NsStat
  armStat : Store ArmStat
  tick : Option Nat
  tickSec : Nat
  snap : Option Snap
  deferred : Option Nat
  breached : Bool
  tler : Store Nat
  bind : Store Nat
  feats : Store Nat
  coal : Store (Nat × Nat)
  stop : Bool
  ploss : Bool
  csnHigh : Nat
  bankSeq : Store Nat
  busyAcc : Store Nat
  step : Nat
  deriving DecidableEq, Repr

/-- A dealer without queues, contexts or work. -/
def Dealer.reset : Dealer :=
  { sqs := [], cqs := [], turn := 0, burst := 0, ctxs := [], orders := 0, blks := [], tenants := [], nsStat := [],
    armStat := [], tick := none, tickSec := 0, snap := none, deferred := none, breached := false, tler := [],
    bind := [], feats := [], coal := [], stop := false, ploss := false, csnHigh := 0, bankSeq := [],
    busyAcc := [], step := 0 }

/-- One stored word of a memory: 64 data bits and 8 check bits (R288). -/
structure Cw where
  d : BitVec 64
  c : BitVec 8
  deriving DecidableEq, Repr

/-- The memories behind the hub cache, by word number (address / 8): core-local memory, buffer store, SDRAM (R31).
`words` lists the words whose contents are not what an unlisted word holds: zero with fresh check bits inside the
ranges of `zeroed` (word numbers, first and past the last), nothing written elsewhere (R293). -/
structure Memory where
  words : Store (Option Cw)
  zeroed : List (Nat × Nat)
  deriving DecidableEq, Repr

/-- A line of the hub cache: its line number (address / 128), whether it is dirty, its 16 words (R268, R288). -/
structure CLine where
  ln : Nat
  dirty : Bool
  ws : List Cw
  deriving DecidableEq, Repr

/-- An entry of the victim buffer (R281): the line, whether it has been offered to the next level, the buffer die whose
victim area takes a clean copy, and the line that copy replaces there. -/
structure VbEntry where
  line : CLine
  offered : Bool
  area : Option Nat
  repl : Option Nat
  deriving DecidableEq, Repr

/-- The hub cache and buffer store (R268 to R287) beyond their registers: lines by row · 16 + way, the replacement
bits by row, the victim buffer (oldest first), the victim areas by line number (with the buffer die that holds the
line), the fenced 1 MiB blocks of the buffer dies by die · 64 + block, and what the range operation in progress has skipped. -/
structure Cache where
  lines : Store (Option CLine)
  plru : Store Nat
  vb : List VbEntry
  areas : Store (Option (Nat × List Cw))
  fenced : List Nat
  skipped : Bool
  deriving DecidableEq, Repr

/-- A key slot of the cipher engine (R314): empty, an XTS key of two halves, or a GCM key. -/
inductive KeySlot
  | empty
  | xts (k1 k2 : List Nat)
  | gcm (k : List Nat)
  deriving DecidableEq, Repr

/-- What one 64-byte slot of the record area holds (R330, R334). -/
inductive LogSlot
  | free
  | valid (seq pcc ops sev code : Nat) (payload : List Nat)
  | corrupt
  | torn
  deriving DecidableEq, Repr

/-- One entry of the counter area (R329): power-cycle count and operating seconds. -/
structure CounterEntry where
  pcc : Nat
  ops : Nat
  deriving DecidableEq, Repr

/-- What the NOR is doing for the recorder (R331, R336): programming bytes 0 to 62 of a slot, programming the mark of
a slot, copying a block into the spare block (with the record that replaces the victim), or erasing a block. -/
inductive NorOp
  | body (slot seq pcc ops : Nat) (r : LogRec) (retried : Bool)
  | mark (slot seq pcc ops : Nat) (r : LogRec) (retried : Bool)
  | copy (block victim seq pcc ops : Nat) (r : LogRec) (retried : Bool)
  | counter (retried : Bool)
  deriving DecidableEq, Repr

/-- The event recorder (R328 to R341) beyond the LOG page. The NOR partition: its base and size as fixed at the first
scan, the record slots (an unlisted slot is erased), the spare block, the retired blocks and the counter entries by
index. The volatile part: whether the directory is valid, whether the counts are established, the queue (oldest
first), the cycle of the last arrivals and how many there were in it (R337), records dropped or displaced, the counts, the time OPS counts from, whether a counter entry is due, the NOR
operation in progress, the start of the kitty, the latched high part of OPS. -/
structure Recorder where
  base : Nat
  size : Nat
  slots : Store LogSlot
  spare : Nat
  retired : List Nat
  counters : Store (Option CounterEntry)
  ctrNext : Nat
  fixed : Bool
  dirOk : Bool
  counted : Bool
  queue : List LogRec
  cycle : Nat × Nat
  drops : Nat
  pcc : Nat
  ops : Nat
  opsFrom : Nat
  ctrDue : Bool
  nor : Option NorOp
  kittyFrom : Nat
  opsHigh : Nat
  newest : Nat
  deriving DecidableEq, Repr

/-- A recorder with an erased partition, before its first scan. -/
def Recorder.reset : Recorder :=
  { base := 0, size := 0, slots := [], spare := 0, retired := [], counters := [], ctrNext := 0, fixed := false,
    dirOk := false, counted := false, queue := [], cycle := (0, 0), drops := 0, pcc := 0, ops := 0, opsFrom := 0, ctrDue := false,
    nor := none, kittyFrom := 0, opsHigh := 0, newest := 0 }

/-- The key management unit and the DRBG beyond their registers (R318 to R324): the operation in progress (owner code of
its requester, KMU_CMD word) and when it began, when the lock was acquired, whether the entropy source fails its tests, whether a reseed
has been due while it failed, and whether the lasting action of R325 delays LOADWRAP. -/
structure Keys where
  op : Option (Nat × Nat)
  opAt : Nat
  lockAt : Nat
  srcFail : Bool
  late : Bool
  slow : Bool
  deriving DecidableEq, Repr

/-- No operation, lock free. -/
def Keys.reset : Keys := ⟨none, 0, 0, false, false, false⟩

/-- The thermal manager (R342 to R353) beyond the THM page: by sensor the run of conversions with one count and the run of
invalid conversions, of valid ones, and its error class; by die (0 H, 1 P, 2 to 5 A0 to A3, 6 and 7 B0 and B1) the hottest
valid sensor at the last conversion with one, the sensors that the substitute in force replaces (the last to fail at the
end), the last reading of the die's valid sensors in 0.25 °C (none before the first); the conversions in a row at which the release margin of the throttle step, of cold stop
and of pre-heat held; those at TCRIT, and those without a valid sensor; the sensor whose substitute set HOLD. -/
structure Thermal where
  same : Store Nat
  badRun : Store Nat
  goodRun : Store Nat
  errs : Store ErrWin
  hotLast : Store (Option Nat)
  subst : Store (List Nat)
  dieLast : Store (Option Int)
  relStep : Nat
  relCold : Nat
  relPre : Nat
  critRun : Nat
  noneRun : Nat
  holdBy : Option Nat
  deriving DecidableEq, Repr

/-- No conversion yet. -/
def Thermal.reset : Thermal :=
  { same := [], badRun := [], goodRun := [], errs := [], hotLast := [], subst := [], dieLast := [], relStep := 0,
    relCold := 0, relPre := 0, critRun := 0, noneRun := 0, holdBy := none }

/-- The power-state controller and the reset sequence (R356 to R367) beyond the PWS page: the state that the last
granted transition leads to; whether the buffer save of PS3 entry has been made and whether that of the exit has been
restored; the CLK_AUX time at which a quiesce began (none: no quiesce), whether it runs in retaining form, whether it
exceeded 1.5 s and whether its flush ended incomplete; the watchdogs that have expired since the last reset (bit per core,
R48). -/
structure PowerStates where
  goal : Nat
  saved : Bool
  restored : Bool
  quiesce : Option Nat
  retain : Bool
  late : Bool
  vinc : Bool
  wdDone : Nat
  deriving DecidableEq, Repr

/-- PS0, no transition, no quiesce. -/
def PowerStates.reset : PowerStates :=
  { goal := 0, saved := false, restored := false, quiesce := none, retain := false, late := false, vinc := false, wdDone := 0 }

/-- Test and perturbation (R387 to R395) beyond the TST page: who wrote the first key (owner code of R321), when, and
whether its window is over; the sectors chosen for forcing by arm (work item and place) and the sectors passed over since
the last chosen one; whether DMA back-pressure holds TLPs now; the instruction register of the TAP, its data register, the
boundary register, and whether EXTEST, CLAMP or HIGHZ has stopped the device. -/
structure TestState where
  armBy : Nat
  armAt : Nat
  armOver : Bool
  forced : Store (List (Nat × Nat))
  passed : Store Nat
  dmaHeld : Bool
  ir : Nat
  dr : Nat
  boundary : Nat
  stopped : Bool
  deriving DecidableEq, Repr

/-- Nothing armed or forced; the TAP has reset and IDCODE is selected (R394). -/
def TestState.reset : TestState :=
  { armBy := 0, armAt := 0, armOver := false, forced := [], passed := [], dmaHeld := false, ir := 1, dr := 0x1048063D,
    boundary := 0, stopped := false }

/-- Supplies and package pins (R398 to R401): whether the core regulator runs, the level of GPIO7 (VDDQ enable), when the
activity indicator's present stretch began (none: no stretch runs), and whether a brown-out holds the device in reset. -/
structure Supply where
  coreOn : Bool
  vddq : Bool
  actAt : Option Nat
  brown : Bool
  deriving DecidableEq, Repr

/-- After power-up: the core rail is up and VDDQ is enabled (R400). -/
def Supply.reset : Supply := ⟨true, true, none, false⟩

/-- Why a flush runs (R379). -/
inductive FlushWhy
  | powerLoss | quiesce | armLost (n : Nat) | noSpare (zi : Nat)
  deriving DecidableEq, Repr

/-- A descriptor of a data entry (R380): the block's CSN, LBA, namespace index, flags (bit 0 conventional, 1 poisoned when
flushed, 2 second copy), zone offset, zone record (0xFFFFFFFF for a conventional block), reference tag and CRC-32C of the
body sector. -/
structure VDesc where
  csn : Nat
  lba : Nat
  ns : Nat
  flags : Nat
  zofs : Nat
  zrec : Nat
  tag : Nat
  crc : Nat
  deriving DecidableEq, Repr

/-- An entry of a vault area (R380): its epoch, entry number and kind (1 journal, 2 data, 3 end mark), whether MIRROR was in
force, the position of its header sector in the area's stream, the descriptors, the body sectors of 4,112 bytes each, and
the end-mark summary. -/
structure VEntry where
  epoch : Nat
  entry : Nat
  kind : Nat
  mirror : Bool
  start : Nat
  desc : List VDesc
  bodies : List (List Nat)
  sum : List Nat
  deriving DecidableEq, Repr

/-- The vault (R376 to R382) beyond its registers. On the media: the entries placed in each area, and by area the sectors
placed and written. In the device: the reasons for flushes that wait, the flush that runs, its epoch, the next entry number,
the blocks it flushes, by area the sectors that have passed read-after-write, the areas whose end mark is needed and written
(bit a); whether a replay runs, the highest CSN it has found (plus 1) and whether it found an incomplete epoch; the replayed
journal records that firmware has not yet consumed; and the held blocks of a quiesce in retaining form, whose metadata bytes
have no named place in memory (notes/assumptions/58). -/
structure Vault where
  area0 : List VEntry
  area1 : List VEntry
  placed : Store Nat
  written : Store Nat
  want : List FlushWhy
  run : Option FlushWhy
  epoch : Nat
  entry : Nat
  blks : List Blk
  passed : Store Nat
  need : Nat
  marks : Nat
  replay : Bool
  foundCsn : Nat
  foundInc : Bool
  left : Nat
  retained : List Blk
  deriving DecidableEq, Repr

/-- A vault without epochs. -/
def Vault.reset : Vault :=
  { area0 := [], area1 := [], placed := [], written := [], want := [], run := none, epoch := 0, entry := 0, blks := [],
    passed := [], need := 0, marks := 0, replay := false, foundCsn := 0, foundInc := false, left := 0, retained := [] }

/-- The device: everything but the fuses and the queue of waiting commands. -/
structure Dev where
  /-- The ordering code (R1): which dies the package holds. -/
  part : Part
  /-- The fields of all registers by Fld.key; an unlisted field holds its reset value. -/
  regs : Store Nat
  /-- The page headers by page offset; an unlisted page holds its reset header. -/
  pages : Store PageHdr
  /-- The capability chain: the offsets of the present pages, as the hub built it (R34). -/
  chain : List Nat
  /-- The 64 bytes of the NOR directory copy that Boot ROM uses (R49); none before it has found one. -/
  dir : List Nat
  /-- The `time` count: CLK_AUX cycles of 8 ns (R46). -/
  time : Nat
  /-- What the last read command returned, or the NVMe status that a zone action answered. -/
  rdata : Nat
  /-- The last host request was answered or dropped as an Unsupported Request (R224, R232). -/
  ur : Bool
  /-- The Felox links by number (R14). -/
  links : Store Link
  /-- The Wiloz cores by number (R42). -/
  cores : Store Core
  /-- The host endpoint (R218). -/
  host : HostSide
  /-- The event recorder (R328). -/
  recd : Recorder
  /-- Core-local memory, buffer store and SDRAM (R31, R288). -/
  mem : Memory
  /-- The hub cache, the victim buffer and the victim areas (R268). -/
  cache : Cache
  /-- How many free values have been drawn; the model's own field, for values the spec leaves open. -/
  fresh : Nat
  /-- The arm dies by number (R1). -/
  arms : Store Arm
  /-- The hands by arm: media work in order of admission (R254). -/
  hands : Store Hand
  /-- The number of the next media work item. -/
  workNext : Nat
  /-- The zone engine (R193). -/
  zon : ZoneEng
  /-- The dealer (R240). -/
  deal : Dealer
  /-- The vault (R376). -/
  vault : Vault
  /-- The power die (R155). -/
  pwr : Power
  /-- The 512 key slots of the cipher engine (R314). -/
  keys : Store KeySlot
  /-- Accesses to buffer-store addresses go to the save region: from the start of a save to the end of the restore (R360). -/
  redirect : Bool
  /-- The key management unit and the DRBG (R318 to R324). -/
  kmu : Keys
  /-- The thermal manager (R342). -/
  thm : Thermal
  /-- The power-state controller and the reset sequence (R356 to R367). -/
  pws : PowerStates
  /-- Test and perturbation, and the JTAG port (R387 to R395). -/
  tst : TestState
  /-- Supplies and package pins (R398 to R401). -/
  sup : Supply
  /-- What Boot ROM has written on the debug UART, oldest first (R53). -/
  uart : List Nat
  deriving DecidableEq, Repr

/-- The device right after power-on reset. -/
def Dev.reset : Dev :=
  { part := .a4b2,
    regs := [],
    pages := [],
    chain := [],
    dir := [],
    time := 0,
    rdata := 0,
    ur := false,
    links := [],
    cores := [],
    host := HostSide.reset,
    recd := Recorder.reset,
    mem := ⟨[], []⟩,
    cache := ⟨[], [], [], [], [], false⟩,
    fresh := 0,
    arms := [],
    hands := [],
    workNext := 0,
    zon := ZoneEng.reset,
    deal := Dealer.reset,
    vault := Vault.reset,
    pwr := Power.reset,
    keys := [],
    redirect := false,
    kmu := Keys.reset,
    thm := Thermal.reset,
    pws := PowerStates.reset,
    tst := TestState.reset,
    sup := Supply.reset,
    uart := [] }

/-- The machine's state: the device, its one-time programmable fuses, and the commands that are waiting, first in,
first out. -/
structure State where
  dev : Dev
  otp : Otp
  pending : List Instr
  deriving DecidableEq, Repr

/-- The fuses of a production part (R225): host lock blown, test-disable fuse intact, nothing revoked, rollback
counter 0, no subsystem identity, no Verom slot programmed. DESIGN CHOICE, notes/assumptions/1. -/
def Otp.reset : Otp :=
  { hostLock := true, testDisabled := false, rollback := 0, key0rev := false,
    keyHash0 := List.replicate 48 0, keyHash1 := List.replicate 48 0, svid := 0, ssid := 0, verom := [],
    veromKeys := [] }

/-- The machine right after reset, with no command waiting. -/
def State.reset : State := { dev := Dev.reset, otp := Otp.reset, pending := [] }

/-- A command of the model that ends the run: none does. -/
inductive Fault
  /-- Never raised: no command of this device stops the machine with a fault. -/
  | none
  deriving DecidableEq, Repr

/-- Why the model gives a command no next state. -/
inductive Refusal
  /-- Answered only by an arm of exec for a command that has no meaning in the model yet. Safe: the model stops where
  the hardware goes on. -/
  | notModelled (mnemonic : String)
  deriving DecidableEq, Repr

end Sys2Proof.Machine
end

