-- ==== Sys2Proof/Machine/Ops.lean ====
section
/-!
DEFINITION. Machine/Ops.lean: the named operations every unit uses: reading and writing a register field (the one
place that touches the register storage), counters, page headers, the page map (R28), the dies and their links
(R4, R14), CLK_AUX time, and the form every meaning has.
-/
namespace Sys2Proof.Machine

/-- What a meaning answers. -/
abbrev Out := Host.Outcome State Fault Refusal

/-- The contents of a register field. -/
def rd (f : Fld) (d : Dev) : Nat := Store.get f.rst f.key d.regs

/-- The hub's clocks have stopped: a brown-out holds the device in reset (R401), or the shutdown latch is set and the recorder
has written what it was to write or does not append (R353). The latch, the retract control, the JTAG port and the supplies
go on. -/
def halted (d : Dev) : Bool :=
  d.sup.brown || (rd THM_STAT_LATCHED d == 1 && d.recd.nor.isNone
    && ((d.recd.queue.isEmpty && !d.recd.ctrDue) || rd LOG_STAT_STOPPED d == 1 || rd LOG_STAT_NOERASE d == 1))

/-- A meaning of the device that its clocks carry: nothing changes once they have stopped (R353). -/
def onState (f : State → State) (s : State) : Out := .next (if halted s.dev then s else f s)

/-- As `onState`, for what changes the device only. -/
def onDev (f : Dev → Dev) (s : State) : Out := onState (fun s => { s with dev := f s.dev }) s

/-- A meaning that needs no clock of the hub. -/
def always (f : Dev → Dev) (s : State) : Out := .next { s with dev := f s.dev }

/-- Put `v`, cut to the field's width, into a register field. -/
def wr (f : Fld) (v : Nat) (d : Dev) : Dev := { d with regs := Store.put f.rst f.key (v % 2 ^ f.w) d.regs }

/-- Put a truth value into a one-bit field. -/
def wrB (f : Fld) (b : Bool) (d : Dev) : Dev := wr f (if b then 1 else 0) d

/-- The field holds something else than 0. -/
def isSet (f : Fld) (d : Dev) : Bool := rd f d != 0

/-- Set bit `k` of a field. -/
def setBit (f : Fld) (k : Nat) (d : Dev) : Dev := wr f (rd f d ||| 2 ^ k) d

/-- Clear bit `k` of a field. -/
def clrBit (f : Fld) (k : Nat) (d : Dev) : Dev := if (rd f d).testBit k then wr f (rd f d - 2 ^ k) d else d

/-- The field read as a signed number. -/
def rdInt (f : Fld) (d : Dev) : Int := signed f.w (rd f d)

/-- Put a signed number into a field. -/
def wrInt (f : Fld) (x : Int) (d : Dev) : Dev := wr f (toField f.w x) d

/-- Put several values into several fields, in order. -/
def wrs : List (Fld × Nat) → Dev → Dev
  | [], d => d
  | (f, v) :: fs, d => wrs fs (wr f v d)

/-- The register word that a list of fields spells. -/
def wordOf (fs : List Fld) (d : Dev) : Nat := (fs.map (fun f => rd f d * 2 ^ f.lo)).sum

/-- The fields of the register at a BAR0 offset. -/
def fieldsAt (off : Nat) : List Fld :=
  if 0x120000 ≤ off ∧ off < 0x160000 then
    (rowFlds ((off - 0x120000) % 0x10000) (armRows ((off - 0x120000) / 0x10000))).getD []
  else (rowFlds off hubRows).getD []

/-- The access code of the field stored under a key. -/
def accAt (key : Nat) : Option Acc := ((fieldsAt (key / 32)).find? (fun f => f.lo == key % 32)).map Fld.acc

/-- Draw a free value. -/
def draw (d : Dev) : Dev × Nat := ({ d with fresh := d.fresh + 1 }, Config.free d.fresh)

/-- CLK_AUX cycles per millisecond (R20: 125 MHz). -/
def auxPerMs : Nat := 125000

/-- CLK_AUX time in whole milliseconds (R41). -/
def nowMs (d : Dev) : Nat := d.time / auxPerMs

/-- A die of the package (R1). -/
inductive Die
  | hub | arm (n : Nat) | buf (b : Nat) | power
  deriving DecidableEq, Repr

/-- Arm dies of an ordering code (R1). -/
def Part.arms : Part → Nat
  | .a2 | .a2b1 => 2
  | .a4 | .a4b2 => 4

/-- Buffer dies of an ordering code (R1). -/
def Part.bufs : Part → Nat
  | .a2 | .a4 => 0
  | .a2b1 => 1
  | .a4b2 => 2

/-- The die is fitted in this part (R1). -/
def fitted (x : Die) (d : Dev) : Bool :=
  match x with
  | .hub | .power => true
  | .arm n => decide (n < d.part.arms)
  | .buf b => decide (b < d.part.bufs)

/-- The Felox link of a die (R14); the hub has none. -/
def linkOf : Die → Option Nat
  | .hub => none
  | .arm n => some n
  | .buf b => some (4 + b)
  | .power => some 6

/-- Built lanes of a link (R14). -/
def builtLanes (l : Nat) : Nat := if l < 4 then 8 else 4

/-- The die at a link position (R14). -/
def dieAt (l : Nat) : Die := if l < 4 then .arm l else if l < 6 then .buf (l - 4) else .power

/-- The hub reaches the die: it is the hub itself, or its link is up. -/
def dieUp (x : Die) (d : Dev) : Bool :=
  match linkOf x with
  | none => true
  | some l => isSet (GLB_FLXSTAT_UP l) d

/-- A register page: its BAR0 offset, type, instance, first event number and number of events (R28). -/
structure PageInfo where
  base : Nat
  typ : Nat
  inst : Nat
  evBase : Nat
  nevt : Nat
  deriving DecidableEq, Repr

/-- The hub's pages (R28). -/
def hubPages : List PageInfo :=
  [ ⟨0x100000, 0x0001, 0, 0x008, 32⟩, ⟨0x101000, 0x0002, 0, 0x028, 8⟩, ⟨0x102000, 0x0003, 0, 0x030, 16⟩,
    ⟨0x104000, 0x0004, 0, 0x040, 8⟩, ⟨0x108000, 0x0010, 0, 0x080, 32⟩, ⟨0x109000, 0x0011, 0, 0x0A0, 32⟩,
    ⟨0x10A000, 0x0012, 0, 0x0C0, 32⟩, ⟨0x10B000, 0x0013, 0, 0x0E0, 32⟩, ⟨0x110000, 0x0020, 0, 0x240, 16⟩,
    ⟨0x111000, 0x0021, 0, 0x250, 16⟩, ⟨0x112000, 0x0022, 0, 0x260, 16⟩, ⟨0x113000, 0x0023, 0, 0x270, 16⟩,
    ⟨0x114000, 0x0030, 0, 0x280, 16⟩, ⟨0x115000, 0x0031, 0, 0x290, 16⟩, ⟨0x116000, 0x0032, 0, 0x2A0, 16⟩,
    ⟨0x117000, 0x0033, 0, 0x2B0, 16⟩, ⟨0x118000, 0x0034, 0, 0x2C0, 16⟩ ]

/-- Page `k` of arm `n` (R28), `k` counting ARM, RCH of channel A, RCH of the joker, WRP, SRV, CTL, CAL, ALK. -/
def armPage (n k : Nat) : PageInfo :=
  ⟨0x120000 + 0x10000 * n + 0x1000 * k, if k < 2 then 0x40 + k else 0x3F + k,
    if k = 1 then 2 * n else if k = 2 then 2 * n + 1 else n, 0x100 + 0x40 * n + 8 * k, 8⟩

/-- Page `k` of the power die (R28): SPN, VCM, BRK, REG. -/
def powerPage (k : Nat) : PageInfo := ⟨0x160000 + 0x1000 * k, 0x50 + k, 0, 0x200 + 16 * k, 16⟩

/-- All pages of R28 in ascending offset. -/
def allPages : List PageInfo :=
  hubPages ++ (List.range 4).flatMap (fun n => (List.range 8).map (armPage n)) ++ (List.range 4).map powerPage

def pgGlb : Nat := 0x100000
def pgClk : Nat := 0x101000
def pgPws : Nat := 0x102000
def pgEvt : Nat := 0x104000
def pgHep : Nat := 0x108000
def pgCmd : Nat := 0x109000
def pgTen : Nat := 0x10A000
def pgZon : Nat := 0x10B000
def pgHcc : Nat := 0x110000
def pgMep : Nat := 0x111000
def pgDrc : Nat := 0x112000
def pgBuf : Nat := 0x113000
def pgCry : Nat := 0x114000
def pgKmu : Nat := 0x115000
def pgLog : Nat := 0x116000
def pgThm : Nat := 0x117000
def pgTst : Nat := 0x118000
def pgArm (n : Nat) : Nat := 0x120000 + 0x10000 * n
def pgRch (n c : Nat) : Nat := 0x121000 + 0x10000 * n + 0x1000 * c
def pgWrp (n : Nat) : Nat := 0x123000 + 0x10000 * n
def pgSrv (n : Nat) : Nat := 0x124000 + 0x10000 * n
def pgCtl (n : Nat) : Nat := 0x125000 + 0x10000 * n
def pgCal (n : Nat) : Nat := 0x126000 + 0x10000 * n
def pgAlk (n : Nat) : Nat := 0x127000 + 0x10000 * n
def pgSpn : Nat := 0x160000
def pgVcm : Nat := 0x161000
def pgBrk : Nat := 0x162000
def pgReg : Nat := 0x163000

/-- The page a BAR0 offset lies in; EVT takes 8 KiB (R28). -/
def pageBase (off : Nat) : Nat :=
  let b := off / 0x1000 * 0x1000
  if b = 0x105000 then pgEvt else b

/-- The row of R28 for a page. -/
def pageInfo (base : Nat) : Option PageInfo := allPages.find? (fun p => p.base == base)

/-- First event number of a page (R28). -/
def evBase (base : Nat) : Nat := ((pageInfo base).map PageInfo.evBase).getD 0

/-- Number of events of a page (R28). -/
def nEvt (base : Nat) : Nat := ((pageInfo base).map PageInfo.nevt).getD 0

/-- The die a page lives on (R28); the BUF page lives on the hub. -/
def pageDie (base : Nat) : Die :=
  if 0x120000 ≤ base ∧ base < 0x160000 then .arm ((base - 0x120000) / 0x10000)
  else if 0x160000 ≤ base ∧ base < 0x164000 then .power else .hub

/-- WINDOW and THRESH of PG_ERRWIN at reset: the header's values, or those the page's chapter gives (R107, R147, R148,
R175, R188, R215, R266, R325, R344, R368, R393). -/
def errReset (base : Nat) : Nat × Nat :=
  let k := if 0x120000 ≤ base ∧ base < 0x160000 then base / 0x1000 % 0x10 else 0
  if k = 3 then (0xEA60, 3) else if k = 4 then (0xEA60, 8) else if k = 5 then (0xEA60, 3)
  else if k = 6 then (0, 3) else if base = pgSpn then (0xEA60, 4) else if base = pgVcm then (0xEA60, 3)
  else if base = pgZon then (0, 4) else if base = pgKmu then (0xEA60, 8) else if base = pgThm then (0xEA60, 4)
  else if base = pgPws ∨ base = pgTen ∨ base = pgTst then (0x3E8, 0) else (0x3E8, 0x10)

/-- A page header at power-up (R33). PG_CTL.ENABLE is page-specific and no chapter gives its reset value; the model
starts every page enabled. DESIGN CHOICE, notes/assumptions/3. -/
def PageHdr.reset (base : Nat) : PageHdr :=
  { enable := true, freeze := false, lock := false, ready := false, fault := false, degraded := false, busy := false,
    raw := 0, even := 0, stat := 0, window := (errReset base).1, thresh := (errReset base).2, err := ErrWin.empty,
    total := 0 }

/-- The header of a page. -/
def page (base : Nat) (d : Dev) : PageHdr := Store.get (PageHdr.reset base) base d.pages

/-- Replace the header of a page. -/
def setPage (base : Nat) (h : PageHdr) (d : Dev) : Dev :=
  { d with pages := Store.put (PageHdr.reset base) base h d.pages }

/-- Change the header of a page. -/
def onPage (base : Nat) (f : PageHdr → PageHdr) (d : Dev) : Dev := setPage base (f (page base d)) d

def setReady (base : Nat) (b : Bool) : Dev → Dev := onPage base (fun h => { h with ready := b })
def setFault (base : Nat) (b : Bool) : Dev → Dev := onPage base (fun h => { h with fault := b })
def setDegraded (base : Nat) (b : Bool) : Dev → Dev := onPage base (fun h => { h with degraded := b })
def setBusy (base : Nat) (b : Bool) : Dev → Dev := onPage base (fun h => { h with busy := b })

/-- The registers of the page can be reached: its die's link is up (R19). -/
def reach (base : Nat) (d : Dev) : Bool := dieUp (pageDie base) d

/-- What a register of a page that cannot be reached reads as: all ones while its die's link is down (R19), 0 where the die is
not fitted (R4). -/
def absent (base : Nat) (d : Dev) : Nat := if fitted (pageDie base) d then 2 ^ 32 - 1 else 0

/-- Do `f` if the page can be reached; while its die's link is down, writes are discarded (R19). -/
def ifReach (base : Nat) (f : Dev → Dev) (d : Dev) : Dev := if reach base d then f d else d

/-- Core `c`. -/
def core (c : Nat) (d : Dev) : Core := Store.get Core.reset c d.cores

/-- Replace core `c`. -/
def setCore (c : Nat) (x : Core) (d : Dev) : Dev := { d with cores := Store.put Core.reset c x d.cores }

/-- Change core `c`. -/
def onCore (c : Nat) (f : Core → Core) (d : Dev) : Dev := setCore c (f (core c d)) d

/-- Change every core. -/
def eachCore (f : Core → Core) (d : Dev) : Dev := (List.range 8).foldl (fun d c => onCore c f d) d

/-- Lines of a core's I-cache, and of its D-cache (R6): 64 KiB of 128-byte lines. -/
def coreLines : Nat := 512

/-- Link `l`. -/
def link (l : Nat) (d : Dev) : Link := Store.get Link.reset l d.links

/-- Replace link `l`. -/
def setLink (l : Nat) (x : Link) (d : Dev) : Dev := { d with links := Store.put Link.reset l x d.links }

/-- Core `c` runs (GLB_CORERUN). -/
def coreRuns (c : Nat) (d : Dev) : Bool := (rd GLB_CORERUN_RUN d).testBit c

/-- Do `f` when `b` holds. -/
def when' (b : Bool) (f : Dev → Dev) (d : Dev) : Dev := if b then f d else d

/-- Do `f` for each number below `n`, in rising order. -/
def each (n : Nat) (f : Nat → Dev → Dev) (d : Dev) : Dev := (List.range n).foldl (fun d k => f k d) d

end Sys2Proof.Machine
end

