-- ==== Sys2Proof/Machine/Flags.lean ====
section
/-!
DEFINITION. Machine/Flags.lean: events and error classes, the flags every unit shares: the raw condition, the status
bit and the delivery of an event to cores, to the host by MSI-X and to the event recorder (R36 to R40, R335, R417),
and the counting of errors inside a window with promotion to lasting (R41).
-/
namespace Sys2Proof.Machine

/-- The one-bit mask of event `k` of a page. -/
def evMask (k : Nat) : Word := BitVec.twoPow 32 k

/-- Errors still inside the window at `now` (R41): those of age below WINDOW; WINDOW 0 never lets one leave. -/
def ErrWin.inside (window now : Nat) (e : ErrWin) : List Int :=
  if window = 0 then e.stamps else e.stamps.filter (fun t => decide ((now : Int) - t < window))

/-- WINCNT: the errors inside the window, saturating at 0xFF (R33). -/
def winCnt (h : PageHdr) (d : Dev) : Nat := min 0xFF (h.err.inside h.window (nowMs d)).length

/-- The PG_ERRCNT word (R33). -/
def errCntWord (h : PageHdr) (d : Dev) : Nat :=
  winCnt h d + (if h.err.lasting then 0x100 else 0) + 0x10000 * h.total

/-- MSI-X is enabled, and its function mask, in the capability at 0x050 (R221). -/
def msixEnabled (h : HostSide) : Bool := bitOf (Store.get 0 0x050 h.cfg) 31
def msixFuncMask (h : HostSide) : Bool := bitOf (Store.get 0 0x050 h.cfg) 30

/-- An MSI-X table entry after reset: every vector is masked (PCI Express). -/
def MsixEntry.reset : MsixEntry := ⟨0, 0, true⟩

/-- The number that stands for an interrupt of a completion queue where event numbers are named. -/
def noEvent : Nat := 0x300

/-- Send MSI-X vector `v` for event `e`, or record it as pending while the vector or the function is masked (R39). The
message goes into the ordered queue of posted writes (R226). -/
def msixSend (v e : Nat) (h : HostSide) : HostSide :=
  let x := Store.get MsixEntry.reset v h.msix
  if !msixEnabled h then h
  else if x.masked || msixFuncMask h then { h with pba := if h.pba.contains (v, e) then h.pba else h.pba ++ [(v, e)] }
  else { h with out := h.out ++ [.msix x.addr x.data] }

/-- Put event `e` with severity `sev` into the pending set of every core of `mask`; an event that is already pending
at a core keeps its old severity (R40). -/
def deliverCores (e sev mask : Nat) (cs : Store Core) : Store Core :=
  (List.range 8).foldl (fun cs c =>
    if mask.testBit c then
      let x := Store.get Core.reset c cs
      if x.pend.any (fun p => p.1 == e) then cs
      else Store.put Core.reset c { x with pend := x.pend ++ [(e, sev)] } cs
    else cs) cs

/-- The place of the most recently queued record of the lowest severity below 4, if any (R335). -/
def victimAt (q : List LogRec) : Option Nat :=
  let sevs := [0, 1, 2, 3].filter (fun s => q.any (fun r => r.sev == s))
  match sevs with
  | [] => none
  | s :: _ => ((List.range q.length).filter (fun k => (q.getD k ⟨0, 9, []⟩).sev == s)).getLast?

/-- Put a record before those that arrived in the same cycle with a higher CODE. -/
def byCode (r : LogRec) : List LogRec → List LogRec
  | [] => [r]
  | q :: l => if r.code < q.code then r :: q :: l else q :: byCode r l

/-- A record enters the queue at time `now`: at the end, in ascending CODE among the records of the same cycle (R335). -/
def logEnter (now : Nat) (r : LogRec) (x : Recorder) : Recorder :=
  let n := if x.cycle.1 = now then min x.cycle.2 x.queue.length else 0
  let k := x.queue.length - n
  { x with queue := x.queue.take k ++ byCode r (x.queue.drop k), cycle := (now, n + 1) }

/-- Queue a record (R335) while fewer than 64 wait; into a full queue only a record of severity 4 goes,
displacing the most recent of the lowest severity. The answer says whether a record was dropped or displaced. -/
def logPush (now : Nat) (r : LogRec) (x : Recorder) : Recorder × Bool :=
  if x.queue.length < 64 then (logEnter now r x, false)
  else
    let x := { x with drops := min (x.drops + 1) 0xFFFFFFFF }
    match if r.sev = 4 then victimAt x.queue else none with
    | some k => (logEnter now r { x with
        queue := x.queue.eraseIdx k
        cycle := (x.cycle.1, if x.queue.length - x.cycle.2 ≤ k then x.cycle.2 - 1 else x.cycle.2) }, true)
    | none => (x, true)

/-- The payload of a record for an event without a payload of its own (R333): bytes 16 to 19 hold the source page's
PG_EVRAW, bytes 20 to 23 its PG_ERRCNT. -/
def generalPayload (raw : Word) (errcnt : Nat) : List Nat :=
  leBytes raw.toNat 4 ++ leBytes errcnt 4 ++ List.replicate 32 0

/-- Deliver event `e` with severity `sev`, to the cores of `mask` and to MSI-X as its route entry names (R38). -/
def deliver (e sev mask : Nat) (d : Dev) : Dev :=
  { d with
    cores := deliverCores e sev mask d.cores
    host := if isSet (EVT_ROUTE_MSIX e) d then msixSend (rd (EVT_ROUTE_VECTOR e) d) e d.host else d.host }

/-- The header change of an occurrence of event `k`: the status bit is set, enabled or not (R33). -/
def noteStat (base k : Nat) (d : Dev) : Dev := onPage base (fun h => { h with stat := h.stat ||| evMask k }) d

/-- The occurrence of event `k` of a page delivers: its status bit was clear and it is enabled (R38). -/
def delivers (base k : Nat) (d : Dev) : Bool :=
  !(page base d).stat.getLsbD k && (page base d).even.getLsbD k

/-- LOG event bit 1, a record dropped or displaced (R335, R341). The queue is full at that moment, so a record of this
event itself can only drop or displace one more, which the status bit already reports. -/
def raiseDrop (d : Dev) : Dev :=
  if delivers pgLog 1 d then
    let e := evBase pgLog + 1
    let sev := rd (EVT_ROUTE_SEV e) d
    let d := noteStat pgLog 1 (deliver e sev (rd (EVT_ROUTE_CORES e) d) d)
    if isSet (EVT_ROUTE_LOG e) d then
      { d with recd := (logPush d.time ⟨e, sev, generalPayload (evMask 1) (errCntWord (page pgLog d) d)⟩ d.recd).1 }
    else d
  else noteStat pgLog 1 d

/-- Queue a record, reporting a record dropped or displaced (R335). -/
def queueRec (r : LogRec) (d : Dev) : Dev :=
  let p := logPush d.time r d.recd
  if p.2 then raiseDrop { d with recd := p.1 } else { d with recd := p.1 }

/-- Event `k` of a page occurs (R38): its status bit is set, and it is delivered once if the bit was clear and it is
enabled. An event of a die whose link is down is not delivered (R40). With `own` a rule requires a record of the
event with a severity and payload of its own, which is queued whatever the route entry holds, and the route entry's
LOG bit adds no second one (R417). -/
def occur (base k : Nat) (own : Option (Nat × List Nat)) (d : Dev) : Dev :=
  let e := evBase base + k
  let go := delivers base k d && reach base d
  let sev := rd (EVT_ROUTE_SEV e) d
  let pay := generalPayload ((page base d).raw ||| evMask k) (errCntWord (page base d) d)
  let d := noteStat base k d
  let d := if go then deliver e sev (rd (EVT_ROUTE_CORES e) d) d else d
  match own with
  | some (s, p) => queueRec ⟨e, s, p ++ List.replicate (40 - p.length) 0⟩ d
  | none => if go && isSet (EVT_ROUTE_LOG e) d then queueRec ⟨e, sev, pay⟩ d else d

/-- An occurrence without duration of event `k` of a page (R33). -/
def raise (base k : Nat) (d : Dev) : Dev :=
  if (page base d).raw.getLsbD k then d else occur base k none d

/-- An occurrence for which a rule requires a record, with its severity and payload (R417). -/
def raiseRec (base k sev : Nat) (payload : List Nat) (d : Dev) : Dev := occur base k (some (sev, payload)) d

/-- The condition behind event `k` begins or ends (R33): a beginning is an occurrence. -/
def setRaw (base k : Nat) (b : Bool) (d : Dev) : Dev :=
  if b then
    if (page base d).raw.getLsbD k then d
    else onPage base (fun h => { h with raw := h.raw ||| evMask k }) (occur base k none d)
  else onPage base (fun h => { h with raw := h.raw &&& ~~~ evMask k }) d

/-- The charge pump as it is found now (R173, R177): while it is out of regulation, whether it has come into regulation is a free
value, as no rule gives the moment (notes/assumptions/132); in regulation the fault behind VCM event bit 8 is over. -/
def pumpNow (d : Dev) : Dev :=
  if isSet VCM_PUMP_OK d then d
  else
    let x := draw d
    if x.2 % 2 = 1 then setRaw pgVcm 8 false (wr VCM_PUMP_OK 1 x.1) else x.1

/-- An event that belongs to no page, a software event or a watchdog expiry (R36, R48): delivered to the cores of
`mask`, to MSI-X and to the log as its route entry names. -/
def raiseFree (e sev mask : Nat) (d : Dev) : Dev :=
  let d := deliver e sev mask d
  if isSet (EVT_ROUTE_LOG e) d then queueRec ⟨e, sev, List.replicate 40 0⟩ d else d

/-- Count one error of a class at `now` (R41). The answer says whether this error promotes the class. -/
def ErrWin.count (window thresh now : Nat) (e : ErrWin) : ErrWin × Bool :=
  let st := (now : Int) :: e.inside window now
  let up := !e.lasting && decide (thresh ≠ 0) && decide (thresh ≤ st.length)
  (⟨st, e.lasting || up⟩, up)

/-- Count one error of a page's class (R41): it enters the window, WINCNT and TOTAL. FREEZE does not stop it. -/
def countErr (base : Nat) (d : Dev) : Dev :=
  onPage base (fun h =>
    { h with err := (h.err.count h.window h.thresh (nowMs d)).1, total := min 0xFFFF (h.total + 1) }) d

/-- The next error of the page's class promotes it (R41). -/
def promotes (base : Nat) (d : Dev) : Bool :=
  ((page base d).err.count (page base d).window (page base d).thresh (nowMs d)).2

/-- One error of a page's class: it is counted, and on promotion the lasting action `act` is carried out, which raises
the page's lasting-fault event (R41). -/
def errClass (base : Nat) (act : Dev → Dev) (d : Dev) : Dev :=
  if promotes base d then act (countErr base d) else countErr base d

/-- Add `n` to a statistics counter of a page: the value holds under FREEZE and at its all-ones value (R33, R239). -/
def bump (base : Nat) (f : Fld) (n : Nat) (d : Dev) : Dev :=
  if (page base d).freeze then d else wr f (satAdd (2 ^ f.w - 1) (rd f d) n) d

/-- As `bump`, and event `k` of the page when the counter reaches its all-ones value. -/
def bumpEv (base : Nat) (f : Fld) (k n : Nat) (d : Dev) : Dev :=
  if (page base d).freeze || rd f d == 2 ^ f.w - 1 then d
  else if 2 ^ f.w - 1 ≤ rd f d + n then raise base k (wr f (2 ^ f.w - 1) d) else wr f (rd f d + n) d

/-- A replacement reason (R384): its bit is set, and GLB event 0x00D is raised on each 0-to-1 change. -/
def reason (k : Nat) (d : Dev) : Dev :=
  if (rd GLB_HEALTH_REPLACE d).testBit k then d else raise pgGlb 5 (setBit GLB_HEALTH_REPLACE k d)

end Sys2Proof.Machine
end

