-- ==== Sys2Proof/Machine/MemCode.lean ====
section
/-!
DEFINITION. Machine/MemCode.lean: the address-folded code of R288 to R290 and the memories behind the hub cache: the
check bits of a word, the class of a word read, poison, the regions of R31 and R279, and reading and writing words and
lines where they are stored.
-/
namespace Sys2Proof.Machine

/-- The masks of the `n`-element subsets of the bits 0 to 7, in ascending lexicographic order (R288). -/
def subsets2 : List Nat :=
  (List.range 8).flatMap fun a => ((List.range 8).filter (fun b => decide (a < b))).map fun b => 2 ^ a + 2 ^ b

def subsets3 : List Nat :=
  (List.range 8).flatMap fun a => ((List.range 8).filter (fun b => decide (a < b))).flatMap fun b =>
    ((List.range 8).filter (fun c => decide (b < c))).map fun c => 2 ^ a + 2 ^ b + 2 ^ c

def subsets4 : List Nat :=
  (List.range 8).flatMap fun a => ((List.range 8).filter (fun b => decide (a < b))).flatMap fun b =>
    ((List.range 8).filter (fun c => decide (b < c))).flatMap fun c =>
      ((List.range 8).filter (fun e => decide (c < e))).map fun e => 2 ^ a + 2 ^ b + 2 ^ c + 2 ^ e

/-- Rotate an 8-bit mask left. -/
def rotl8 (v k : Nat) : Nat := (v * 2 ^ k) % 256 + v * 2 ^ k / 256

/-- Column of data bit `i` (R288). -/
def dataCol (i : Nat) : Nat := if i < 56 then subsets3.getD i 0 else rotl8 0x1F (i - 56)

/-- Column of address bit `j`, 3 to 39 (R288). -/
def addrCol (j : Nat) : Nat := if j ≤ 30 then subsets2.getD (j - 3) 0 else subsets4.getD (j - 31) 0

/-- XOR of the columns of the set bits of `v` below bit `n`. -/
def xorCols (col : Nat → Nat) (v : Nat) : Nat → Nat
  | 0 => 0
  | n + 1 => bif v / 2 ^ n % 2 == 1 then xorCols col v n ^^^ col n else xorCols col v n

/-- The check bits of data `x` at word number `w` (address bits 39 to 3): c = H_d·d ⊕ H_a·A (R288). -/
def checkBits (x : BitVec 64) (w : Nat) : BitVec 8 :=
  BitVec.ofNat 8 (xorCols dataCol x.toNat 64 ^^^ xorCols (fun j => addrCol (j + 3)) w 37)

/-- A word with fresh check bits (R288). -/
def encWord (x : BitVec 64) (w : Nat) : Cw := ⟨x, checkBits x w⟩

/-- The syndrome of a word read for word number `w` (R289). -/
def syndrome (v : Cw) (w : Nat) : BitVec 8 := v.c ^^^ checkBits v.d w

/-- The classes of R289. -/
inductive WordClass
  | good
  | fixData (i : Nat)
  | fixCheck
  | poison
  | bad
  deriving DecidableEq, Repr

/-- The class of a syndrome (R289). -/
def classOf (s : Nat) : WordClass :=
  if s = 0 then .good
  else match (List.range 64).find? (fun i => dataCol i == s) with
    | some i => .fixData i
    | none =>
      if (List.range 8).any (fun k => 2 ^ k == s) then .fixCheck
      else if s = 0xFF then .poison else .bad

/-- A stored word, or nothing where nothing has been written, with its class and syndrome. -/
def readClass (v : Option Cw) (w : Nat) : WordClass × Nat :=
  match v with
  | some x => (classOf (syndrome x w).toNat, (syndrome x w).toNat)
  | none => (.bad, Config.unwrittenSynd w)

/-- The word as the device uses it: corrected where it is correctable (R289). -/
def corrected (v : Option Cw) (w : Nat) : Cw :=
  match v with
  | none => ⟨Config.unwritten w, checkBits (Config.unwritten w) w⟩
  | some x =>
    match (readClass v w).1 with
    | .fixData i => ⟨x.d ^^^ BitVec.twoPow 64 i, x.c⟩
    | .fixCheck => ⟨x.d, checkBits x.d w⟩
    | _ => x

/-- The word with its data kept and the poison pattern in its check bits (R290). -/
def poisonWord (v : Option Cw) (w : Nat) : Cw :=
  let x := match v with | some x => x.d | none => Config.unwritten w
  ⟨x, checkBits x w ^^^ 0xFF⟩

/-- What the 16 words of a line amount to (R290): poisoned when two words carry the poison syndrome, a new uncorrectable
error when one word is uncorrectable or exactly one carries it, else usable. -/
inductive LineClass
  | ok (fixed : Nat)
  | poisoned
  | newError (word synd : Nat)
  deriving DecidableEq, Repr

/-- The words of a line with their numbers. -/
def numbered (ln : Nat) (ws : List (Option Cw)) : List (Nat × Option Cw) :=
  ws.zipIdx.map (fun p => (ln * 16 + p.2, p.1))

/-- The class of line `ln` holding `ws` (R290). -/
def lineClass (ln : Nat) (ws : List (Option Cw)) : LineClass :=
  let cs := (numbered ln ws).map (fun p => readClass p.2 p.1)
  let np := (cs.filter (fun c => c.1 == .poison)).length
  if 2 ≤ np then .poisoned
  else match cs.zipIdx.find? (fun c => c.1.1 == .bad || c.1.1 == .poison) with
    | some (c, k) => .newError k c.2
    | none => .ok (cs.filter (fun c => c.1 != .good)).length

/-- The line as used or passed on: corrected words, or every word poisoned (R289, R290). -/
def fixLine (ln : Nat) (ws : List (Option Cw)) : List Cw := (numbered ln ws).map (fun p => corrected p.2 p.1)
def poisonLine (ln : Nat) (ws : List (Option Cw)) : List Cw := (numbered ln ws).map (fun p => poisonWord p.2 p.1)

/-- A line of zeros with fresh check bits. -/
def zeroLine (ln : Nat) : List Cw := (List.range 16).map (fun k => encWord 0 (ln * 16 + k))

/-- What word `w` holds when it is not listed (R293): zero inside a filled range, nothing elsewhere. -/
def Memory.unlisted (m : Memory) (w : Nat) : Option Cw :=
  if m.zeroed.any (fun r => decide (r.1 ≤ w) && decide (w < r.2)) then some (encWord 0 w) else none

/-- Word `w` as it is stored. -/
def Memory.word (m : Memory) (w : Nat) : Option Cw := Store.get (m.unlisted w) w m.words

/-- Store word `w`. -/
def Memory.setWord (m : Memory) (w : Nat) (v : Option Cw) : Memory :=
  { m with words := Store.put (m.unlisted w) w v m.words }

/-- The 16 words of line `ln` as they are stored. -/
def Memory.line (m : Memory) (ln : Nat) : List (Option Cw) := (List.range 16).map (fun k => m.word (ln * 16 + k))

/-- Store the 16 words of line `ln`. -/
def Memory.setLine (m : Memory) (ln : Nat) (ws : List Cw) : Memory :=
  { m with words := Store.puts m.unlisted (ln * 16) (ws.map some) m.words }

/-- Fill the words from `lo` to below `hi` with zeros and fresh check bits (R52, R295). -/
def Memory.fill (m : Memory) (lo hi : Nat) : Memory :=
  { words := Store.cut lo hi m.words, zeroed := (lo, hi) :: m.zeroed }

/-- Forget the words from `lo` to below `hi`: nothing has been written there any more (power loss of a die, R293). -/
def Memory.forget (m : Memory) (lo hi : Nat) : Memory :=
  { words := Store.cut lo hi m.words,
    zeroed := m.zeroed.flatMap (fun r => [(r.1, min r.2 lo), (max r.1 hi, r.2)].filter (fun q => q.1 < q.2)) }

/-- The memory is in its canonical form. -/
def Memory.wf (m : Memory) : Bool := Store.wf m.unlisted m.words

/-- The kinds of memory, in the order of MEP_ERRLOG1.MEM (R303). -/
inductive MemKind
  | local | hubCache | buffer | sdram
  deriving DecidableEq, Repr

def MemKind.code : MemKind → Nat
  | .local => 0 | .hubCache => 1 | .buffer => 2 | .sdram => 3

/-- First address of core-local memory of core `c`, of buffer die `b`, and of SDRAM (R31). -/
def localBase (c : Nat) : Nat := 0x08100000 + c * 0x20000
def bufBase (b : Nat) : Nat := 0xC0000000 + b * 0x4000000
def sdramBase : Nat := 0x100000000

/-- Bytes of usable SDRAM: 7/8 of the fitted capacity (R31), two channels of CHGIB GiB. -/
def sdramBytes (d : Dev) : Nat := rd DRC_MAP_CHGIB d * 2 * 2 ^ 30 / 8 * 7

/-- The memory an address of the core map lies in (R31): the victim area of a buffer die, dies that are not fitted and
SDRAM above the usable extent are no memory (R278). -/
def memKind (a : Nat) (d : Dev) : Option MemKind :=
  if 0x08100000 ≤ a ∧ a < 0x08200000 then some .local
  else if 0xC0000000 ≤ a ∧ a < 0xC8000000 then
    let b := (a - 0xC0000000) / 0x4000000
    if fitted (.buf b) d ∧ a - bufBase b < 0x4000000 - rd (BUF_CFG_VICSZ b) d * 0x100000 then some .buffer else none
  else if sdramBase ≤ a ∧ a < sdramBase + sdramBytes d then some .sdram
  else none

/-- Every byte from `a` on for `n` bytes is usable memory of one kind. -/
def usable (a n : Nat) (d : Dev) : Bool :=
  match memKind a d, memKind (a + n - 1) d with
  | some x, some y => n != 0 && x == y
  | _, _ => false

/-- The buffer die an address lies on. -/
def bufDieOf (a : Nat) : Nat := (a - 0xC0000000) / 0x4000000

/-- The memory behind an address can be reached now: a buffer die needs its link, unless its
addresses are redirected (R360). -/
def memUp (a : Nat) (d : Dev) : Bool :=
  match memKind a d with
  | some .buffer => d.redirect || dieUp (.buf (bufDieOf a)) d
  | some _ => true
  | none => false

/-- Two ranges, first and past the last, share something. -/
def meets (a b : Nat × Nat) : Bool := decide (a.1 < b.2) && decide (b.1 < a.2)

/-- A range of `n` bytes from the address whose bits from `sh` up are `v`. -/
def spanAt (v sh n : Nat) : Nat × Nat := (v * 2 ^ sh, v * 2 ^ sh + n)

def ctxRegion (d : Dev) : Nat × Nat := spanAt (rd HCC_CTXBASE_ADDR d) 22 0x400000
def wdRegion (d : Dev) : Nat × Nat := spanAt (rd BUF_WDBASE_ADDR d) 7 0x10000000
def sdMirRegion (d : Dev) : Nat × Nat := spanAt (rd BUF_SDMIR_ADDR d) 7 0x10000000
def vstRegion (d : Dev) : Nat × Nat := spanAt (rd BUF_VSTBASE_ADDR d) 7 0x1000000
def retRegion (d : Dev) : Nat × Nat := spanAt (rd PWS_RETBASE_ADDR d) 7 0x400000
def rcRegion (d : Dev) : Nat × Nat :=
  spanAt (rd CMD_RCBASE_ADDR d) 7 (if rd CMD_RCCFG_LOG2 d = 0 then 0 else 2 ^ rd CMD_RCCFG_LOG2 d * 2 ^ 20)

/-- The mirror region of buffer die `b` (R278). -/
def bufMirRegion (b : Nat) (d : Dev) : Nat × Nat :=
  let lo := bufBase b + rd (BUF_MIR_BASE b) d * 2 ^ 20
  (lo, lo + rd (BUF_MIR_SIZE b) d * 2 ^ 20)

/-- The regions the dealer uses (R279). -/
def dealerRegions (d : Dev) : List (Nat × Nat) :=
  [ctxRegion d, wdRegion d, sdMirRegion d, vstRegion d, retRegion d, rcRegion d]
    ++ ((List.range 2).filter (fun b => fitted (.buf b) d)).map (fun b => bufMirRegion b d)

/-- Firmware has declared itself ready (R241). -/
def fwReady (d : Dev) : Bool := isSet CMD_CTL_FWRDY d

/-- The address lies in a range. -/
def inSpan (a : Nat) (r : Nat × Nat) : Bool := decide (r.1 ≤ a) && decide (a < r.2)

/-- The line lies in a mirror region; such lines are never placed in the hub cache (R279). -/
def isDirect (ln : Nat) (d : Dev) : Bool :=
  inSpan (ln * 128) (sdMirRegion d)
    || (List.range 2).any (fun b => fitted (.buf b) d && inSpan (ln * 128) (bufMirRegion b d))

/-- The SDRAM channel and the offset inside it of usable offset `u` (R294). -/
def sdramPlace (u : Nat) (d : Dev) : Nat × Nat :=
  let k := rd DRC_MAP_ILV d
  if k = 0 then
    let half := sdramBytes d / 2
    if u < half then (0, u) else (1, u - half)
  else (u / 2 ^ k % 2, u / 2 ^ (k + 1) * 2 ^ k + u % 2 ^ k)

/-- Channel byte addresses of the data and of the check bytes of the line at channel offset `o` (R294). -/
def sdramLine (o : Nat) : Nat × Nat :=
  let l := o / 128
  (l / 7 * 1024 + l % 7 * 128, l / 7 * 1024 + 896 + l % 7 * 16)

/-- The bit of DRC_FENCE for an SDRAM address (R301): a rank region is one eighth of the usable capacity of one rank of
one channel. That ranks and regions lie in ascending order of the channel offset is DEDUCED, notes/assumptions/6. -/
def rankRegion (a : Nat) (d : Dev) : Nat :=
  let p := sdramPlace (a - sdramBase) d
  let rankBytes := sdramBytes d / 2 / max 1 (rd DRC_MAP_RANKS d)
  16 * p.1 + 8 * (p.2 / max 1 rankBytes) + p.2 % max 1 rankBytes / max 1 (rankBytes / 8)

end Sys2Proof.Machine
end

