-- ==== Sys2Proof/Machine/Cache.lean ====
section
/-!
DEFINITION. Machine/Cache.lean: the hub cache and buffer store as every agent's accesses meet them (R268 to R285):
index, replacement, locking, the victim buffer and victim areas, errors found on the way with their error classes, and
reading and writing memory through the cache.
-/
namespace Sys2Proof.Machine

/-! ## Geometry and replacement -/

/-- Ways per set (R268). -/
def waysPerSet (d : Dev) : Nat := 16 / 2 ^ rd HCC_WAYCFG_ASSOC d

/-- The set index of a line number (A[40:7]) of width `w` (R269). The tag H has 26 bits, so two slices make up F. -/
def setIndex (w : Nat) (hash : Bool) (ln : Nat) : Nat :=
  let h := ln / 2 ^ 8 % 2 ^ 26
  if hash then (ln % 2 ^ w) ^^^ ((h % 2 ^ w) ^^^ (h / 2 ^ w % 2 ^ w)) else ln % 2 ^ w

/-- Row and way group of a line (R268, R269). -/
def setOf (ln : Nat) (d : Dev) : Nat × Nat :=
  let s := setIndex (15 + rd HCC_WAYCFG_ASSOC d) (isSet HCC_WAYCFG_HASH d) ln
  (s % 2 ^ 15, s / 2 ^ 15)

/-- The way is locked (R274); the way is fenced (R284). -/
def wayLocked (w : Nat) (d : Dev) : Bool := (rd HCC_LOCK_MASK d).testBit w
def wayFenced (w : Nat) (d : Dev) : Bool := (rd HCC_LOCK_FENCED d).testBit w

/-- The line held in a physical way of a row. -/
def wayLine (row w : Nat) (d : Dev) : Option CLine := Store.get none (row * 16 + w) d.cache.lines

/-- Put a line into a physical way of a row, or empty it. -/
def setWay (row w : Nat) (l : Option CLine) (d : Dev) : Dev :=
  { d with cache := { d.cache with lines := Store.put none (row * 16 + w) l d.cache.lines } }

/-- The ways of a group. -/
def groupWays (g : Nat) (d : Dev) : List Nat := (List.range (waysPerSet d)).map (fun k => g * waysPerSet d + k)

/-- The way that holds the line, if it is in the cache. -/
def findWay (ln : Nat) (d : Dev) : Option Nat :=
  let s := setOf ln d
  (groupWays s.2 d).find? (fun w => (wayLine s.1 w d).any (fun l => l.ln == ln))

/-- The replacement bits after an access to way `w`, walking `n` levels up from the pair's node; each node comes to
point away from the way (R272). -/
def plruUp : Nat → Nat → Bool → Nat → Nat
  | 0, _, _, b => b
  | n + 1, node, lower, b =>
    let b := if lower then b ||| 2 ^ node else (if b.testBit node then b - 2 ^ node else b)
    plruUp n ((node - 1) / 2) (node % 2 == 1) b

/-- The replacement bits of a row after a hit or fill in way `w` with `a` = ASSOC (R272). -/
def plruTouch (a w b : Nat) : Nat := plruUp (4 - a) (7 + w / 2) (w % 2 == 0) b

/-- Walk down from a node that covers the `2^n` ways from `lo` on, taking the child the bit points to unless it covers
no eligible way (R273). -/
def plruWalk (ok : Nat → Bool) (b : Nat) : Nat → Nat → Nat → Nat
  | 0, _, lo => lo
  | n + 1, node, lo =>
    let hi := lo + 2 ^ n
    let has := fun (x : Nat) => (List.range (2 ^ n)).any (fun k => ok (x + k))
    if b.testBit node then
      if has hi then plruWalk ok b n (2 * node + 2) hi else plruWalk ok b n (2 * node + 1) lo
    else if has lo then plruWalk ok b n (2 * node + 1) lo else plruWalk ok b n (2 * node + 2) hi

/-- The way to fill in a row and group (R273). -/
def chooseWay (row g : Nat) (d : Dev) : Nat :=
  let ok := fun w => !wayLocked w d && !wayFenced w d
  match (groupWays g d).find? (fun w => ok w && (wayLine row w d).isNone) with
  | some w => w
  | none =>
    let a := rd HCC_WAYCFG_ASSOC d
    plruWalk ok (Store.get 0 row d.cache.plru) (4 - a) (2 ^ a - 1 + g) (g * waysPerSet d)

/-- A hit or fill in a way: the replacement bits change unless the way is locked (R272). -/
def touch (row w : Nat) (d : Dev) : Dev :=
  if wayLocked w d then d
  else
    let b := plruTouch (rd HCC_WAYCFG_ASSOC d) w (Store.get 0 row d.cache.plru)
    { d with cache := { d.cache with plru := Store.put 0 row b d.cache.plru } }

/-! ## Coherence of the cores' D-caches -/

/-- A write of line `ln` by an agent: every other core's D-cache drops it, and reservations on it end (R43, R44). -/
def dInval (ln : Nat) (writer : Option Nat) (d : Dev) : Dev :=
  let drop := fun (cs : Store Core) (c : Nat) =>
    if writer = some c then cs
    else
      let x := Store.get Core.reset c cs
      let resv := if x.resv = some ln then none else x.resv
      Store.put Core.reset c { x with dlines := x.dlines.filter (· != ln), resv := resv } cs
  { d with cores := (List.range 8).foldl drop d.cores }

/-! ## Victims and the next level -/

/-- The line lies in a region that never goes to a victim area (R279). -/
def copyRegionLine (ln : Nat) (d : Dev) : Bool :=
  inSpan (ln * 128) (wdRegion d) || inSpan (ln * 128) (sdMirRegion d)

/-- Free lines of the victim area of die `b`: its size less the lines it holds and its fenced blocks (R281, R285). -/
def areaFree (b : Nat) (d : Dev) : Nat :=
  let size := rd (BUF_CFG_VICSZ b) d
  let lost := ((List.range size).filter (fun k => d.cache.fenced.contains (b * 64 + (63 - k)))).length
  (size - lost) * 8192 - (d.cache.areas.filter (fun p => p.2.any (fun q => q.1 == b))).length

/-- The buffer die whose victim area serves a line (R281). -/
def servingDie (ln : Nat) (d : Dev) : Option Nat :=
  let av := (List.range 2).filter
    (fun b => fitted (.buf b) d && dieUp (.buf b) d && rd (BUF_CFG_VICSZ b) d != 0 && !d.redirect)
  match av with
  | [] => none
  | [b] => some b
  | _ => some (ln / 32 % 2)

/-- Where a line of the buffer store stands in the save region (R359, R360): the line, and the place of its written flag
as a word number and a bit. -/
def saveLine (ln : Nat) (d : Dev) : Nat × Nat × Nat :=
  let base := rd PWS_SAVEBASE_ADDR d * 128
  let b := bufDieOf (ln * 128)
  let o := ln - bufBase b / 128
  ((base + b * 0x4000000) / 128 + o, (base + 0x8000000 + b * 0x10000) / 8 + o / 64, o % 64)

/-- The line is carried out in the save region (R360). -/
def redirected (ln : Nat) (d : Dev) : Bool := d.redirect && memKind (ln * 128) d == some .buffer

/-- The words of a line re-encoded for another line, poison carried along (R359). -/
def moveLine (src dst : Nat) (ws : List (Option Cw)) : List Cw :=
  match lineClass src ws with
  | .ok _ => ((fixLine src ws).zipIdx.map (fun p => encWord p.1.d (dst * 16 + p.2)))
  | _ => poisonLine dst ((poisonLine src ws).zipIdx.map (fun p => some (encWord p.1.d (dst * 16 + p.2))))

/-- Set or clear bit `k` of a memory word. -/
def putMemBit (w k : Nat) (b : Bool) (d : Dev) : Dev :=
  let v := ((d.mem.word w).map (fun c => c.d.toNat)).getD 0
  let v := if b then v ||| 2 ^ k else if v.testBit k then v - 2 ^ k else v
  { d with mem := d.mem.setWord w (some (encWord (BitVec.ofNat 64 v) w)) }

/-- The words of a line where its home is; through the redirection a line whose saved flag is clear was never written
(R360). -/
def homeLine (ln : Nat) (d : Dev) : List (Option Cw) :=
  if redirected ln d then
    let p := saveLine ln d
    if ((d.mem.word p.2.1).map (fun c => c.d.toNat)).any (fun v => v.testBit p.2.2) then
      (moveLine p.1 ln (d.mem.line p.1)).map some
    else List.replicate 16 none
  else d.mem.line ln

/-- An access to SDRAM in PS3 takes it out of self-refresh (R356). -/
def wakeSdram (ln : Nat) (d : Dev) : Dev :=
  if rd PWS_PSSTAT_STATE d = 3 && rd DRC_STAT_SREF d != 0 && (memKind (ln * 128) d == some .sdram || redirected ln d) then
    wr DRC_STAT_SREF 0 d
  else d

/-- Write a line where its home is; through the redirection its saved flag is set (R360). -/
def homeWrite (ln : Nat) (ws : List Cw) (d : Dev) : Dev :=
  let d := wakeSdram ln d
  if redirected ln d then
    let p := saveLine ln d
    putMemBit p.2.1 p.2.2 true { d with mem := d.mem.setLine p.1 (moveLine ln p.1 (ws.map some)) }
  else { d with mem := d.mem.setLine ln ws }

/-- Take entry `k` out of the victim buffer. -/
def vbErase (k : Nat) (d : Dev) : Dev := { d with cache := { d.cache with vb := d.cache.vb.eraseIdx k } }

/-- Replace entry `k` of the victim buffer. -/
def vbSet (k : Nat) (e : VbEntry) (d : Dev) : Dev := { d with cache := { d.cache with vb := d.cache.vb.set k e } }

/-- Offer entry `k` of the victim buffer to the next level (R281): a clean line whose home is a memory on the package,
or one of the dealer's copies, or that finds no victim area, is dropped; a clean SDRAM line is offered to the victim
area, which declines it below HCC_VICTHR; a dirty line is offered to its home, and a clean copy to the victim area
where free space allows. A dirty line of a buffer die whose link is down stays (R283), and is dropped when the die is
lost. `repl` names the line a victim-area placement replaces, which the spec leaves to the area's sets. -/
def vbOffer (k : Nat) (repl : Option Nat) (d : Dev) : Dev :=
  match d.cache.vb[k]? with
  | none => d
  | some e =>
    if e.offered then d
    else
      let a := e.line.ln * 128
      let area := if memKind a d = some .sdram && !copyRegionLine e.line.ln d then servingDie e.line.ln d else none
      let room := fun b => decide (rd HCC_VICTHR_THR d ≤ areaFree b d)
      if e.line.dirty then
        if memUp a d then vbSet k { e with offered := true, area := area.filter room, repl := repl } d else d
      else
        match area with
        | none => vbErase k d
        | some b =>
          if room b then vbSet k { e with offered := true, area := some b, repl := repl } d
          else bumpEv pgHcc HCC_VICCNT_DECLINED 6 1 (vbErase k d)

/-- Put a clean copy of a line into the victim area of die `b`, in place of line `repl` if one is named; BUF event 0
when the free space falls below HCC_VICTHR (R281, R287). -/
def areaPut (b ln : Nat) (ws : List Cw) (repl : Option Nat) (d : Dev) : Dev :=
  let m := match repl with | some r => Store.put none r none d.cache.areas | none => d.cache.areas
  let d := { d with cache := { d.cache with areas := Store.put none ln (some (b, ws)) m } }
  let d := bumpEv pgBuf BUF_VICCNT_PLACED 4 1 d
  when' (decide (areaFree b d < rd HCC_VICTHR_THR d)) (raise pgBuf 0) d

/-- The next level acknowledges entry `k` (R281): the dirty line is in its home, the clean copy in the victim area
unless that die's link is down by now (R18), and the entry is free. -/
def vbAccept (k : Nat) (d : Dev) : Dev :=
  match d.cache.vb[k]? with
  | none => d
  | some e =>
    if !e.offered then d
    else
      let d := vbErase k d
      let d := when' e.line.dirty (homeWrite e.line.ln e.line.ws) d
      match e.area with
      | some b => if dieUp (.buf b) d then areaPut b e.line.ln e.line.ws e.repl d else d
      | none => d

/-- Entry `k` of the victim buffer is offered and accepted, or dropped (R281). -/
def vbSettle (k : Nat) (d : Dev) : Dev :=
  let n := d.cache.vb.length
  let d := vbOffer k none d
  if d.cache.vb.length < n then d else vbAccept k d

/-- Wait for the victim buffer to free an entry, when all 8 are busy: the oldest entry that the next level can take
goes (R281). -/
def vbDrain (d : Dev) : Dev :=
  if d.cache.vb.length < 8 then d
  else
    let d := raise pgHcc 4 d
    match (List.range d.cache.vb.length).find? (fun k =>
        match d.cache.vb[k]? with
        | some e => e.offered || memUp (e.line.ln * 128) d
        | none => false) with
    | none => d
    | some k =>
      vbSettle k d

/-- An evicted line enters the victim buffer (R281). -/
def vbPush (l : CLine) (d : Dev) : Dev :=
  { d with cache := { d.cache with vb := d.cache.vb ++ [⟨l, false, none, none⟩] } }

/-! ## Errors found in a memory -/

/-- Corrected words are counted (R289, R303, R304). -/
def noteFixed (k : MemKind) (n : Nat) (d : Dev) : Dev :=
  if n = 0 then d
  else if k = .sdram then raise pgDrc 0 (raise pgMep 0 (bumpEv pgMep MEP_CECNT_SDRAM 9 n d))
  else raise pgMep 0 (bumpEv pgMep MEP_CECNT_SRAM 9 n d)

/-- A dirty line leaves the cache (R271, R274, R284): it is written home; one of a buffer die whose link is down waits in the victim buffer
(R283). Where that is full the write home counts as done, the wait for the link is not modelled (notes/assumptions/124). -/
def writeOut (l : CLine) (d : Dev) : Dev :=
  if memUp (l.ln * 128) d || decide (8 ≤ d.cache.vb.length) then homeWrite l.ln l.ws d else vbPush l d

/-- Write every dirty line of a physical way home and empty the way (R274, R284). -/
def cleanWay (w : Nat) (d : Dev) : Dev :=
  d.cache.lines.foldl (fun d p =>
    if p.1 % 16 = w then
      match p.2 with
      | some l => setWay (p.1 / 16) w none (when' l.dirty (writeOut l) d)
      | none => d
    else d) d

/-- The lasting action of the HCC class (R284): the way of the promoting error is fenced, unless it is locked. -/
def fenceWay (w : Nat) (d : Dev) : Dev :=
  let d := if wayLocked w d then d else setBit HCC_LOCK_FENCED w (cleanWay w d)
  reason 4 (raise pgHcc 5 d)

/-- The lasting action of the BUF class (R285): the 1 MiB block of the promoting error is fenced; a block of a mirror
region takes its 256 blocks of 4 KiB out of the room. -/
def fenceBlock (a : Nat) (d : Dev) : Dev :=
  let b := bufDieOf a
  let blk := b * 64 + (a - bufBase b) / 0x100000
  let d := if d.cache.fenced.contains blk then d
    else
      let d := { d with cache := { d.cache with fenced := d.cache.fenced ++ [blk] } }
      when' (inSpan a (bufMirRegion b d)) (fun d => wr (BUF_MIRSTAT_FENCED b) (rd (BUF_MIRSTAT_FENCED b) d + 256) d) d
  reason 4 (raise pgBuf 2 d)

/-- The lasting action of the DRC class (R301): the rank region of the promoting error is fenced. -/
def fenceRank (a : Nat) (d : Dev) : Dev :=
  raise pgDrc 2 (setDegraded pgDrc true (setBit DRC_FENCE_FENCED (rankRegion a d) d))

/-- The lasting action of the MEP class (R301). -/
def lastingMep (d : Dev) : Dev := reason 4 (raise pgMep 7 (setDegraded pgMep true d))

/-- A new uncorrectable error in word `k` of line `ln` (R290): counted once in the error class of the memory that holds
it (with `way` the physical way, in the hub cache), logged in MEP_ERRLOG, and reported. -/
def noteError (kind : MemKind) (way ln k synd : Nat) (scrub : Bool) (d : Dev) : Dev :=
  let a := ln * 128 + 8 * k
  let d := wrs [(MEP_ERRLOG0_ADDR, a / 8), (MEP_ERRLOG1_SYND, synd), (MEP_ERRLOG1_MEM, kind.code),
    (MEP_ERRLOG1_SCRUB, if scrub then 1 else 0), (MEP_ERRLOG1_WORD, k)] d
  let d := raise pgMep 1 (bumpEv pgMep (if kind = .sdram then MEP_UECNT_SDRAM else MEP_UECNT_SRAM) 9 1 d)
  match kind with
  | .local => errClass pgMep lastingMep d
  | .hubCache => errClass pgHcc (fenceWay way) d
  | .buffer => errClass pgBuf (fenceBlock a) d
  | .sdram => errClass pgDrc (fenceRank a) (raise pgDrc 1 d)

/-- Read a line where its home is, correcting or poisoning it (R289, R290). The answer says whether it is poisoned. -/
def homeRead (ln : Nat) (scrub : Bool) (d : Dev) : Dev × List Cw × Bool :=
  let d := wakeSdram ln d
  let ws := homeLine ln d
  let kind := (memKind (ln * 128) d).getD .sdram
  match lineClass ln ws with
  | .ok n => (noteFixed kind n d, fixLine ln ws, false)
  | .poisoned => (d, poisonLine ln ws, true)
  | .newError k s =>
    let d := noteError kind 0 ln k s scrub d
    (if ws.all Option.isSome then homeWrite ln (poisonLine ln ws) d else d, poisonLine ln ws, true)

/-! ## Accesses through the hub cache -/

/-- Make room for a line in its set: the chosen way is emptied, its line entering the victim buffer (R273, R281). No
way is answered while the victim buffer cannot take the line. -/
def makeRoom (ln : Nat) (d : Dev) : Dev × Option (Nat × Nat) :=
  let s := setOf ln d
  let w := chooseWay s.1 s.2 d
  match wayLine s.1 w d with
  | none => (d, some (s.1, w))
  | some l =>
    let d := vbDrain d
    if d.cache.vb.length < 8 then (vbPush l (setWay s.1 w none d), some (s.1, w)) else (d, none)

/-- Place a line in an unlocked way of its set. -/
def install (l : CLine) (d : Dev) : Dev :=
  match makeRoom l.ln d with
  | (d, some (row, w)) => touch row w (setWay row w (some l) d)
  | (d, none) => when' l.dirty (homeWrite l.ln l.ws) d

/-- The entry of the victim buffer that holds a line. -/
def vbFind (ln : Nat) (d : Dev) : Option Nat :=
  (List.range d.cache.vb.length).find? (fun k => (d.cache.vb[k]?).any (fun e => e.line.ln == ln))

/-- Bring a line into the hub cache (R282, R283): a hit; a reinstatement from the victim buffer; a move from the victim
area; a read of its home. -/
def fetch (ln : Nat) (d : Dev) : Dev :=
  match findWay ln d with
  | some w => touch (setOf ln d).1 w (bumpEv pgHcc HCC_HITCNT_HITS 6 1 d)
  | none =>
    let d := bumpEv pgHcc HCC_MISSCNT_MISSES 6 1 d
    match vbFind ln d with
    | some k =>
      match d.cache.vb[k]? with
      | some e => install e.line (bumpEv pgHcc HCC_VICCNT_REINST 6 1 (vbErase k d))
      | none => d
    | none =>
      match Store.get none ln d.cache.areas with
      | some (b, ws) =>
        if dieUp (.buf b) d then
          let d := { d with cache := { d.cache with areas := Store.put none ln none d.cache.areas } }
          install ⟨ln, false, ws⟩ (bumpEv pgBuf BUF_VICCNT_HIT 4 1 d)
        else
          let r := homeRead ln false d
          install ⟨ln, false, r.2.1⟩ r.1
      | none =>
        let r := homeRead ln false d
        install ⟨ln, false, r.2.1⟩ r.1

/-- Read a line as the code classes it (R289, R290), wherever it is held: the words, and whether it is poisoned. -/
def lineRead (ln : Nat) (d : Dev) : Dev × List Cw × Bool :=
  if isDirect ln d then homeRead ln false d
  else
    let d := fetch ln d
    match findWay ln d with
    | none => homeRead ln false d
    | some w =>
      let row := (setOf ln d).1
      match wayLine row w d with
      | none => homeRead ln false d
      | some l =>
        let ws := l.ws.map some
        match lineClass ln ws with
        | .ok n => (noteFixed .hubCache n d, fixLine ln ws, false)
        | .poisoned => (d, l.ws, true)
        | .newError k s =>
          let d := noteError .hubCache w ln k s false d
          (if (wayLine row w d).isSome then setWay row w (some { l with ws := poisonLine ln ws }) d else d,
            poisonLine ln ws, true)

/-- Put words over a line that is in the cache, or in its home where it is held directly. -/
def lineStore (ln : Nat) (ws : List Cw) (writer : Option Nat) (d : Dev) : Dev :=
  let d := dInval ln writer d
  if isDirect ln d then homeWrite ln ws d
  else
    match findWay ln d with
    | some w => touch (setOf ln d).1 w (setWay (setOf ln d).1 w (some ⟨ln, true, ws⟩) d)
    | none =>
      let d := match vbFind ln d with | some k => bumpEv pgHcc HCC_VICCNT_REINST 6 1 (vbErase k d) | none => d
      let d := { d with cache := { d.cache with areas := Store.put none ln none d.cache.areas } }
      install ⟨ln, true, ws⟩ d

/-- A line access that reads nothing first is counted as a hit or a miss (R286). -/
def noteAccess (ln : Nat) (d : Dev) : Dev :=
  if isDirect ln d then d
  else if (findWay ln d).isSome then bumpEv pgHcc HCC_HITCNT_HITS 6 1 d
  else bumpEv pgHcc HCC_MISSCNT_MISSES 6 1 d

/-- Write a whole line in one operation (R292): new check bits for all words, poison and errors cleared. -/
def lineWrite (ln : Nat) (data : List (BitVec 64)) (writer : Option Nat) (d : Dev) : Dev :=
  lineStore ln (data.zipIdx.map (fun p => encWord p.1 (ln * 16 + p.2))) writer (noteAccess ln d)

/-- The bytes of a line's words, byte 0 of word 0 first (R8). -/
def lineBytes (ws : List Cw) : List Nat := ws.flatMap (fun v => leBytes v.d.toNat 8)

/-- The words that 128 bytes spell. -/
def bytesWords (bs : List Nat) : List (BitVec 64) :=
  (List.range 16).map (fun k => BitVec.ofNat 64 (leNat ((bs.drop (8 * k)).take 8)))

/-- Write some bytes of a line (R292): merged into the line as read; a line that is poisoned or holds an uncorrectable
word is poisoned afterwards. -/
def lineMerge (ln off : Nat) (bs : List Nat) (writer : Option Nat) (d : Dev) : Dev :=
  let r := lineRead ln d
  let old := lineBytes r.2.1
  let data := bytesWords (old.take off ++ bs ++ old.drop (off + bs.length))
  let enc := data.zipIdx.map (fun p => encWord p.1 (ln * 16 + p.2))
  lineStore ln (if r.2.2 then poisonLine ln (enc.map some) else enc) writer r.1

/-- The lines a range of `n` bytes from `a` touches: line, offset in the line, number of bytes. -/
def pieces (a n : Nat) : List (Nat × Nat × Nat) :=
  if n = 0 then []
  else (List.range ((a + n - 1) / 128 - a / 128 + 1)).map (fun k =>
    let ln := a / 128 + k
    let lo := max a (ln * 128)
    (ln, lo - ln * 128, min (a + n) (ln * 128 + 128) - lo))

/-- Read `n` bytes from `a` through the hub cache. Nothing is answered when a line is poisoned, which is reported as
poison consumption (R291). -/
def memRead (a n : Nat) (d : Dev) : Dev × Option (List Nat) :=
  (pieces a n).foldl (fun st p =>
    let r := lineRead p.1 st.1
    if r.2.2 then (raise pgMep 2 r.1, none)
    else (r.1, st.2.map (fun bs => bs ++ ((lineBytes r.2.1).drop p.2.1).take p.2.2)))
    (d, some [])

/-- Write bytes from `a` on through the hub cache. -/
def memWrite (a : Nat) (bs : List Nat) (writer : Option Nat) (d : Dev) : Dev :=
  (pieces a bs.length).foldl (fun d p =>
    let part := (bs.drop (p.1 * 128 + p.2.1 - a)).take p.2.2
    if p.2.2 = 128 then lineWrite p.1 (bytesWords part) writer d else lineMerge p.1 p.2.1 part writer d) d

/-- Read `n` bytes as a number, least significant byte first; nothing where the memory is unreadable. -/
def memNat (a n : Nat) (d : Dev) : Dev × Option Nat :=
  let r := memRead a n d
  (r.1, r.2.map leNat)

end Sys2Proof.Machine
end

