-- ==== Sys2Proof/Machine/ZoneOps.lean ====
section
/-!
DEFINITION. Machine/ZoneOps.lean: the zone engine's shared operations: zone records in SDRAM (R195), contexts (R196),
the vault journal (R198, R378), reports (R215), the slip-list address map (R201, R202), and what the retirement of a
head or the loss of an arm does to zones (R206).
-/
namespace Sys2Proof.Machine

/-- Zone state codes of R195. -/
def zEmpty : Nat := 1
def zImplicit : Nat := 2
def zExplicit : Nat := 3
def zClosed : Nat := 4
def zReadOnly : Nat := 0xD
def zFull : Nat := 0xE
def zOffline : Nat := 0xF

/-- A zone is active while it is open or closed (R196). -/
def Zone.active (z : Zone) : Bool := z.state == zImplicit || z.state == zExplicit || z.state == zClosed

/-- A zone is open, implicitly or explicitly. -/
def Zone.isOpen (z : Zone) : Bool := z.state == zImplicit || z.state == zExplicit

/-- Zone capacity in logical blocks (R200). -/
def Zone.cap (z : Zone) : Nat := if z.par then 63488 else 65536

def b2n (b : Bool) : Nat := if b then 1 else 0

/-- The 32 bytes of a zone record (R195). -/
def Zone.bytes (z : Zone) : List Nat :=
  [z.state % 16 + 16 * b2n z.par + 32 * b2n z.conv + 64 * b2n z.spare + 128 * b2n z.vault,
   b2n z.reloc + 2 * b2n z.zfc + 4 * b2n z.rzr]
  ++ leBytes z.slips 2 ++ leBytes z.wp 4 ++ leBytes z.verif 4
  ++ leBytes (z.arm + 4 * z.head + 32 * z.track) 4 ++ [z.ns % 256] ++ List.replicate 15 0

/-- The zone record that 32 bytes spell (R195). -/
def Zone.ofBytes (bs : List Nat) : Zone :=
  let at' := fun k n => leNat ((bs.drop k).take n)
  let f := at' 0 1
  let g := at' 1 1
  let p := at' 12 4
  { state := f % 16, par := bitOf f 4, conv := bitOf f 5, spare := bitOf f 6, vault := bitOf f 7,
    reloc := bitOf g 0, zfc := bitOf g 1, rzr := bitOf g 2, slips := bits (at' 2 2) 0 7, wp := bits (at' 4 4) 0 17,
    verif := bits (at' 8 4) 0 17, arm := bits p 0 2, head := bits p 2 3, track := bits p 5 22, ns := at' 16 1 }

/-- A record that cannot be read: the engine does nothing with it. -/
def Zone.none : Zone := Zone.ofBytes (0x0F :: List.replicate 31 0)

/-- Address of zone record `r`, of entry `k` of its slip list, of its generation entry (R195, R201, R310). -/
def recAddr (r : Nat) (d : Dev) : Nat := rd ZON_TBLBASE_ADDR d * 128 + 32 * r
def slipAddr (r k : Nat) (d : Dev) : Nat := rd ZON_SLIPBASE_ADDR d * 128 + 512 * r + 8 * k
def genAddr (r : Nat) (d : Dev) : Nat := rd CRY_GENBASE_ADDR d * 128 + 4 * r

/-- Zone offsets that the blocks below write pointer `wp` take, parity of complete stripes included (R207). -/
def offsBelow (z : Zone) : Nat :=
  if z.par then 64 * (z.wp / 62) + z.wp % 62 else z.wp

/-- Remember of a zone finished below its capacity how many blocks were written, plus 1; 0 forgets it. -/
def setShort (zi s : Nat) (d : Dev) : Dev := { d with zon := { d.zon with short := Store.put 0 zi s d.zon.short } }

/-- The newest change of zone record `r` that waits for the journal (R198, R378). -/
def zoneWaits (r : Nat) (d : Dev) : Option Zone :=
  ((d.zon.jwait.filter (fun w => w.zi == r && w.head.isEmpty)).getLast?).map JWait.zone

/-- Read zone record `r` with the changes that wait for the journal; a record that does not exist or cannot be read counts as an
Offline zone. -/
def zoneGet (r : Nat) (d : Dev) : Dev × Zone :=
  if rd ZON_NREC_NREC d ≤ r then (d, Zone.none)
  else
    match zoneWaits r d with
    | some z => (d, z)
    | none =>
      let p := memRead (recAddr r d) 32 d
      (p.1, (p.2.map Zone.ofBytes).getD Zone.none)

/-- Logical blocks of a zone that have been written: those below WP, of a zone finished below its capacity those below the WP it
had then (R197, R209). -/
def blocksWritten (zi : Nat) (z : Zone) (d : Dev) : Nat :=
  let s := Store.get 0 zi d.zon.short
  if s = 0 ∨ z.active = true then z.wp else min z.wp (s - 1)

/-- Zone offset `o` of a zone with parity was filled with zero content when the zone was finished (R209). -/
def fillerAt (zi : Nat) (z : Zone) (o : Nat) (d : Dev) : Bool :=
  z.par && decide (o % 64 < 62) && decide (blocksWritten zi z d ≤ 62 * (o / 64) + o % 64) && decide (62 * (o / 64) < blocksWritten zi z d)

/-- Zone offsets that a zone takes on the media: those below WP, of a zone finished below its capacity those written and the rest
of the last stripe (R209). -/
def offsWritten (zi : Nat) (z : Zone) (d : Dev) : Nat :=
  let b := blocksWritten zi z d
  if b = z.wp then offsBelow z else if z.par then 64 * ((b + 61) / 62) else b

/-- Read the slip list of record `r`: (LOFS, NEWPOS) in list order (R201). -/
def slipList (r n : Nat) (d : Dev) : Dev × List (Nat × Nat) :=
  (List.range n).foldl (fun st k =>
    let p := memNat (slipAddr r k d) 8 st.1
    let v := p.2.getD 0
    (p.1, st.2 ++ [(bits v 0 16, bits v 16 17)])) (d, [])

/-- Physical position of zone offset `o` under a slip list (R202). -/
def slipPos (l : List (Nat × Nat)) (o : Nat) : Nat :=
  match (l.filter (fun e => e.1 == o)).getLast? with
  | some e => e.2
  | none => l.foldl (fun p e => if e.2 ≤ p then p + 1 else p) o

/-- The runs of offsets `0` to below `n` whose positions follow each other, in the order of their positions: first offset, length and first
position (R202, R214). -/
def posRuns (l : List (Nat × Nat)) (n : Nat) : List (Nat × Nat × Nat) :=
  let runs := (List.range n).foldl (fun (rs : List (Nat × Nat × Nat)) o =>
    match rs with
    | (a, k, p) :: t => if slipPos l o = p + k then (a, k + 1, p) :: t else (o, 1, slipPos l o) :: rs
    | [] => [(o, 1, slipPos l o)]) []
  runs.foldl (fun (s : List (Nat × Nat × Nat)) r => s.takeWhile (fun x => decide (x.2.2 < r.2.2)) ++ r ::
    s.dropWhile (fun x => decide (x.2.2 < r.2.2))) []

/-- Zone offset of logical block `b` of a zone (R207). -/
def zoneOfs (par : Bool) (b : Nat) : Nat := if par then 64 * (b / 62) + b % 62 else b

/-- Store a slip entry (R201): LOFS, NEWPOS, CAUSE. -/
def slipWord (lofs newpos cause : Nat) : Nat := lofs % 0x10000 + newpos % 0x20000 * 0x10000 + cause % 256 * 2 ^ 40

/-- Records in the journal ring (R378). -/
def jnlCount (d : Dev) : Nat := (rd GLB_JNLHEAD_HEAD d + 131072 - rd GLB_JNLTAIL_TAIL d) % 131072

/-- The device may append a journal record: replay has set the next JSEQ and the ring is not full (R378). -/
def jnlReady (d : Dev) : Bool := d.zon.jnext.isSome && decide (jnlCount d < 131071)

/-- Addresses of the two copies of ring record `i` (R378): with ILV = k the staging lines whose offset has bit k at 0
hold copy A, and copy B lies 2^k above; with ILV = 0 copy B is the upper 8 MiB. -/
def jnlAddr (i : Nat) (d : Dev) : Nat × Nat :=
  let base := (vstRegion d).1
  let k := rd DRC_MAP_ILV d
  let o := 64 * i
  if k = 0 then (base + o, base + 0x800000 + o)
  else
    let x := o / 2 ^ k * 2 ^ (k + 1) + o % 2 ^ k
    (base + x, base + x + 2 ^ k)

/-- Append a journal record (R378): bytes 0 to 7 and 16 to 59 as given, JSEQ and CRC added; both copies are written. -/
def jnlAppend (head : List Nat) (body : List Nat) (d : Dev) : Dev :=
  match d.zon.jnext with
  | none => d
  | some js =>
    let bs := head ++ leBytes js 8 ++ body
    let bs := bs ++ leBytes (crc32c bs) 4
    let i := rd GLB_JNLHEAD_HEAD d
    let a := jnlAddr i d
    let d := memWrite a.2 bs none (memWrite a.1 bs none d)
    let d := wr GLB_JNLHEAD_HEAD ((i + 1) % 131072) { d with zon := { d.zon with jnext := some (js + 1) } }
    if 114688 < jnlCount d then raise pgGlb 15 d else d

/-- The generation entry G of record `r` (R310), 0 while no table is set. -/
def genGet (r : Nat) (d : Dev) : Dev × Nat :=
  if rd CRY_GENBASE_ADDR d = 0 then (d, 0)
  else
    let p := memNat (genAddr r d) 4 d
    (p.1, p.2.getD 0)

/-- Write a zone record and journal it in one operation (R198), with the slip entry added, or 0. -/
def zoneWrite (r : Nat) (z : Zone) (slip : Nat) (d : Dev) : Dev :=
  let d := memWrite (recAddr r d) z.bytes none d
  let g := genGet r d
  jnlAppend ([1, 0, 0, 0] ++ leBytes r 4) (z.bytes ++ leBytes slip 8 ++ leBytes g.2 4) g.1

/-- Change a zone record (R198); while no journal record can be appended the change waits (R378). -/
def zonePut (r : Nat) (z : Zone) (slip : Nat) (d : Dev) : Dev :=
  if jnlReady d && d.zon.jwait.isEmpty then zoneWrite r z slip d
  else { d with zon := { d.zon with jwait := d.zon.jwait ++ [⟨r, z, slip, [], []⟩] } }

/-- Carry out the changes that waited for the journal, as long as it takes records. -/
def jnlDrain (d : Dev) : Dev :=
  d.zon.jwait.foldl (fun d w =>
    if jnlReady d then
      let d := { d with zon := { d.zon with jwait := d.zon.jwait.drop 1 } }
      if w.head.isEmpty then zoneWrite w.zi w.zone w.slip d else jnlAppend w.head w.body d
    else d) d

/-- Append a record that describes no zone change, or let it wait its turn (R378). -/
def jnlPut (head body : List Nat) (d : Dev) : Dev :=
  if jnlReady d && d.zon.jwait.isEmpty then jnlAppend head body d
  else { d with zon := { d.zon with jwait := d.zon.jwait ++ [⟨0, Zone.none, 0, head, body⟩] } }

/-- Contexts in use, with the peak kept (R196). -/
def ctxCount (d : Dev) : Dev :=
  let n := d.zon.ctx.length
  let d := wr ZON_CTXSTAT_INUSE n d
  if rd ZON_CTXSTAT_PEAK d < n then wr ZON_CTXSTAT_PEAK n d else d

/-- A zone takes a context. -/
def takeCtx (r : Nat) (d : Dev) : Dev :=
  if d.zon.ctx.contains r then d else ctxCount { d with zon := { d.zon with ctx := d.zon.ctx ++ [r] } }

/-- A zone gives its context back, and its running parity with it. -/
def dropCtx (r : Nat) (d : Dev) : Dev :=
  ctxCount { d with zon := { d.zon with ctx := d.zon.ctx.erase r, parity := Store.put none r none d.zon.parity } }

/-- Append a report to the ring (R215): record, zone offset, kind, highest rung, recorder sequence number. -/
def report (r ofs kind rung seq : Nat) (d : Dev) : Dev :=
  let size := 2 ^ rd ZON_RPTCTL_LOG2 d
  let h := rd ZON_RPTHEAD_HEAD d % size
  if (h + 1) % size = rd ZON_RPTTAIL_TAIL d % size then
    raise pgZon 10 (bumpEv pgZon ZON_RPTCTL_DROP 14 1 d)
  else
    wr ZON_RPTHEAD_HEAD ((h + 1) % size)
      (memWrite (rd ZON_RPTBASE_ADDR d * 128 + 16 * h)
        (leBytes r 4 ++ leBytes ofs 2 ++ [kind, rung] ++ leBytes seq 4 ++ [0, 0, 0, 0]) none d)

/-- The zone engine has been asked to relocate zone `r`: it waits its turn, and BUSY is 1 (R204). -/
def relocQueue (r : Nat) (d : Dev) : Dev :=
  if d.zon.queue.contains r || d.zon.cur.any (fun c => c.zi == r) then d
  else wr ZON_RELOC_BUSY 1 { d with zon := { d.zon with queue := d.zon.queue ++ [r] } }

/-- A fitted arm's spare count below the threshold raises the replacement reason (R205). -/
def spareCheck (n : Nat) (d : Dev) : Dev :=
  if fitted (.arm n) d && decide (rd (ZON_SPARE_FREE n) d < rd ZON_CTL_SPARETHR d) then
    reason 2 (raise pgZon 11 d)
  else d

/-- What the retirement of head `h` of arm `n` does to zone `r` (R206). -/
def retireZone (n h r : Nat) (d : Dev) : Dev :=
  let p := zoneGet r d
  let d := p.1
  let z := p.2
  if z.arm ≠ n || z.head ≠ h || z.spare || z.vault then d
  else if z.conv then report r 0 0x06 0 0 d
  else if z.state = zEmpty then raise pgZon 5 (zonePut r { z with state := zOffline } 0 d)
  else if z.active then relocQueue r d
  else if z.state = zFull then raise pgZon 5 (zonePut r { z with state := zReadOnly } 0 d)
  else d

/-- The zones of a retired head (R206), in ascending record order. -/
def retireZones (n h : Nat) (d : Dev) : Dev :=
  if isSet ZON_CTL_VALID d then each (rd ZON_NREC_NREC d) (retireZone n h) d else d

/-- Every zone of a lost arm becomes Offline (R206). -/
def offlineZones (n : Nat) (d : Dev) : Dev :=
  if !isSet ZON_CTL_VALID d then d
  else each (rd ZON_NREC_NREC d) (fun r d =>
    let p := zoneGet r d
    let z := p.2
    if z.arm ≠ n || z.spare || z.vault || z.conv || z.state = zOffline || z.state = 0 then p.1
    else raise pgZon 5 (dropCtx r (zonePut r { z with state := zOffline } 0 p.1))) d

end Sys2Proof.Machine
end

