-- ==== Sys2Proof/Machine/DealerOps.lean ====
section
/-!
DEFINITION. Machine/DealerOps.lean: the dealer's shared operations: contexts and queues (R243, R240), posting a
completion in the order of R226, what is counted when a completion is sent (R259, R262), the held blocks and the write
budget (R249, R373), the release of a verified block (R250).
-/
namespace Sys2Proof.Machine

/-- NVMe status fields the device uses: SC in bits 7 to 0, SCT in bits 10 to 8, DNR in bit 14. -/
def stOk : Nat := 0
def stInvalidOpcode : Nat := 0x01
def stInvalidField : Nat := 0x02
def stTransfer : Nat := 0x04
def stInternal : Nat := 0x06
def stInternalDnr : Nat := 0x4006
def stAborted : Nat := 0x07
def stRange : Nat := 0x80
def stBoundary : Nat := 0x1B8
def stZoneFull : Nat := 0x1B9
def stZoneRo : Nat := 0x1BA
def stZoneOff : Nat := 0x1BB
def stZoneInvalid : Nat := 0x1BC
def stManyActive : Nat := 0x1BD
def stManyOpen : Nat := 0x1BE
def stZoneState : Nat := 0x1BF
def stUnrec : Nat := 0x281

def sq (q : Nat) (d : Dev) : Sq := Store.get Sq.off q d.deal.sqs
def setSq (q : Nat) (x : Sq) (d : Dev) : Dev := { d with deal := { d.deal with sqs := Store.put Sq.off q x d.deal.sqs } }
def cq (q : Nat) (d : Dev) : Cq := Store.get Cq.off q d.deal.cqs
def setCq (q : Nat) (x : Cq) (d : Dev) : Dev := { d with deal := { d.deal with cqs := Store.put Cq.off q x d.deal.cqs } }

/-- The context with index `i`, if it is in use (R243). -/
def ctx (i : Nat) (d : Dev) : Option Ctx := Store.get none i d.deal.ctxs

/-- What goes with a context that is freed: its pieces still being read are for nothing, and its blocks belong to no open
command any more. -/
def forgetCtx (i : Nat) (d : Dev) : Dev :=
  let mine := fun (r : DevRead) => match r.use with | .piece j _ => j == i | _ => false
  { d with
    host := { d.host with
      reads := d.host.reads.map (fun r => if mine r then { r with use := .dead } else r)
      todo := d.host.todo.filter (fun r => !mine r) }
    deal := { d.deal with blks := d.deal.blks.map (fun b => if b.ctx = some i then { b with ctx := none } else b) } }

/-- Put or free a context; CMD_CTXSTAT follows, and fetching may go on (R243). -/
def setCtx (i : Nat) (x : Option Ctx) (d : Dev) : Dev :=
  let d := if x.isNone then forgetCtx i d else d
  let d := { d with deal := { d.deal with ctxs := Store.put none i x d.deal.ctxs } }
  let n := d.deal.ctxs.length
  let d := wr CMD_CTXSTAT_INUSE n d
  let d := if x.isNone && !d.deal.stop && !d.deal.ploss then wr CMD_STAT_NOFETCH 0 d else d
  if rd CMD_CTXSTAT_PEAK d < n then wr CMD_CTXSTAT_PEAK n d else d

def onCtx (i : Nat) (f : Ctx → Ctx) (d : Dev) : Dev :=
  match ctx i d with
  | none => d
  | some x => setCtx i (some (f x)) d

/-- The lowest free context of the 16,384 (R243). -/
def freeCtx (d : Dev) : Option Nat :=
  let used := d.deal.ctxs.map (fun p => p.1)
  if 16384 ≤ used.length then none
  else (List.range (used.length + 1)).find? (fun i => !used.contains i)

/-- Address of byte `k` of context `i` (R243). -/
def ctxAddr (i k : Nat) (d : Dev) : Nat := (ctxRegion d).1 + 256 * i + k

/-- A tenant's configuration and buckets (R257). -/
def tenant (ns : Nat) (d : Dev) : Tenant := Store.get Tenant.reset ns d.deal.tenants
def setTenant (ns : Nat) (t : Tenant) (d : Dev) : Dev :=
  { d with deal := { d.deal with tenants := Store.put Tenant.reset ns t d.deal.tenants } }

def nsStat (ns : Nat) (d : Dev) : NsStat := Store.get NsStat.zero ns d.deal.nsStat
def onNsStat (ns : Nat) (f : NsStat → NsStat) (d : Dev) : Dev :=
  { d with deal := { d.deal with nsStat := Store.put NsStat.zero ns (f (nsStat ns d)) d.deal.nsStat } }
def armStat (n : Nat) (d : Dev) : ArmStat := Store.get ArmStat.zero n d.deal.armStat

/-- Count in an arm's statistics; counting stops under FREEZE of the TEN page (R262). -/
def countArm (n : Nat) (f : ArmStat → ArmStat) (d : Dev) : Dev :=
  if (page pgTen d).freeze then d
  else { d with deal := { d.deal with armStat := Store.put ArmStat.zero n (f (armStat n d)) d.deal.armStat } }

/-- A 32-bit statistics field stops at all ones (R265). -/
def add32 (x n : Nat) : Nat := min 0xFFFFFFFF (x + n)

/-- CLK_AUX cycles in one microsecond (R20). -/
def auxPerUs : Nat := 125

/-- Latency bucket of `c` CLK_AUX cycles (R265): 0 below 64 µs, b up to 64·2^b µs, 15 from 1,048,576 µs on. -/
def latBucket (c : Nat) : Nat :=
  ((List.range 15).find? (fun b => decide (c < 64 * 2 ^ b * auxPerUs))).getD 15

/-- The namespace index names a namespace. -/
def nsValid (ns : Nat) : Bool := decide (ns < 0xFF)

/-- What is counted when the completion entry of a command is sent (R259, R262): the command, its blocks, its latency
bucket, its breach; the first trump-caused breach of a namespace in a billing interval is logged with severity 1 and
raises TEN event bit 2, any raises CMD event bit 5. -/
def countDone (x : Ctx) (d : Dev) : Dev :=
  if !nsValid x.ns || x.admin then d
  else
    let lat := d.time - x.admitted
    let tgt := rd (CMD_LCTGT_TGT x.cls) d * 100 * auxPerUs
    let breach := decide (tgt < lat)
    let trumped := breach && decide (lat - tgt < x.trump)
    let b := latBucket lat
    let isRd := x.opcode == 2
    let isWr := x.opcode == 1 || x.opcode == 8 || x.opcode == 0x7D
    let old := nsStat x.ns d
    let d :=
      if (page pgTen d).freeze then d
      else
        let d := onNsStat x.ns (fun s =>
          { s with
            reads := s.reads + b2n isRd, writes := s.writes + b2n isWr,
            rblocks := s.rblocks + (if isRd then x.blocks else 0),
            wblocks := s.wblocks + (if isWr then x.blocks else 0),
            breaches := add32 s.breaches (b2n breach), trumped := add32 s.trumped (b2n trumped),
            hist := Store.put 0 b (add32 (Store.get 0 b s.hist) 1) s.hist }) d
        let new := nsStat x.ns d
        let full := fun (o n : Nat) => decide (o < 0xFFFFFFFF) && n == 0xFFFFFFFF
        when' (full old.breaches new.breaches || full old.trumped new.trumped
          || full (Store.get 0 b old.hist) (Store.get 0 b new.hist)) (raise pgTen 3) d
    let d := if breach then { d with deal := { d.deal with breached := true } } else d
    if trumped then
      let d := raise pgCmd 5 d
      if old.logged then d
      else raiseRec pgTen 2 1 ([x.ns, x.cls, 0, 0] ++ leBytes (lat / auxPerUs) 4 ++ leBytes (x.trump / auxPerUs) 4)
        (onNsStat x.ns (fun s => { s with logged := true }) d)
    else d

/-- Room in a completion queue: one slot stays free. -/
def cqRoom (q : Cq) : Bool := q.live && decide (q.size ≠ 0) && decide ((q.tail + 1) % q.size ≠ q.head)

/-- The message of completion queue `n` after an entry (R226), under the Interrupt Coalescing feature that the device honours (R240): for an
I/O queue it waits until the entries of its vector exceed THR, or TIME has passed. PRESUMED (NVM Express), notes/assumptions/122. -/
def cqMessage (n : Nat) (q : Cq) (d : Dev) : Dev :=
  let w := Store.get 0 8 d.deal.feats
  let c := Store.get (0, 0) q.iv d.deal.coal
  if !q.ien then d
  else if n = 0 ∨ bits w 8 8 = 0 ∨ bits w 0 8 ≤ c.1 then
    { d with host := msixSend q.iv noEvent d.host, deal := { d.deal with coal := Store.put (0, 0) q.iv (0, 0) d.deal.coal } }
  else
    { d with deal := { d.deal with
      coal := Store.put (0, 0) q.iv (c.1 + 1, if c.1 = 0 then d.time else c.2) d.deal.coal } }

/-- Messages that have waited for TIME, in units of 100 µs, are sent. -/
def messagesDue (d : Dev) : Dev :=
  d.deal.coal.foldl (fun d p =>
    if p.2.2 + bits (Store.get 0 8 d.deal.feats) 8 8 * 100 * auxPerUs ≤ d.time then
      { d with host := msixSend p.1 noEvent d.host, deal := { d.deal with coal := Store.put (0, 0) p.1 (0, 0) d.deal.coal } }
    else d) d

/-- Send the completion entry of context `i` (R226, R243): the entry and then its MSI-X message go into the ordered
queue, the command is counted, the context is freed. A full completion queue holds the completion back (R261). -/
def postCqe (i : Nat) (d : Dev) : Dev :=
  match ctx i d with
  | none => d
  | some x =>
    let s := sq x.sqid d
    let q := cq s.cq d
    if !cqRoom q then onCtx i (fun x => { x with stage := .posting }) d
    else
      let t := (q.tail + 1) % q.size
      let d := setCq s.cq { q with tail := t, phase := if t = 0 then !q.phase else q.phase } d
      let d := countDone x d
      let d := { d with host := { d.host with
        out := d.host.out ++
          [.cqe (q.base + 16 * q.tail) x.cid x.sqid s.head (x.status * 2 + b2n q.phase) x.dw0 x.dw1] } }
      setCtx i none (cqMessage s.cq q d)

/-- Complete the command of context `i` with a status and DW0. -/
def complete (i status dw0 : Nat) (d : Dev) : Dev :=
  postCqe i (onCtx i (fun x => { x with status := status, dw0 := dw0 }) d)

/-- Contexts in use, with their indexes, in the order their commands were fetched. -/
def ctxList (d : Dev) : List (Nat × Ctx) := d.deal.ctxs.filterMap (fun p => p.2.map (fun x => (p.1, x)))

/-- The hand of arm `n` (R254). -/
def hand (n : Nat) (d : Dev) : Hand := Store.get [] n d.hands
def setHand (n : Nat) (h : Hand) (d : Dev) : Dev :=
  let d := { d with hands := Store.put [] n h d.hands }
  let d := wr (CMD_HAND_DEPTH n) (min 0xFFF h.length) d
  wrB (CMD_HAND_TRUMP n) (h.any (fun w => w.trump != 0)) d

/-- Put a work item into a hand. -/
def handPush (n : Nat) (w : Work) (d : Dev) : Dev :=
  setHand n (hand n d ++ [{ w with id := d.workNext }]) { d with workNext := d.workNext + 1 }

/-- Change work item `id` of hand `n`; take it out. -/
def onWork (n id : Nat) (f : Work → Work) (d : Dev) : Dev :=
  setHand n ((hand n d).map (fun w => if w.id = id then f w else w)) d
def dropWork (n id : Nat) (d : Dev) : Dev := setHand n ((hand n d).filter (fun w => w.id != id)) d

/-- Work item `id` of hand `n`. -/
def work (n id : Nat) (d : Dev) : Option Work := (hand n d).find? (fun w => w.id == id)

/-- Take all media work of command `i` that has not started out of the hands; work that has started belongs to no command
any more. -/
def dropWorkOf (i : Nat) (d : Dev) : Dev :=
  each 4 (fun n d => setHand n (((hand n d).filter (fun w => !(w.ctx == some i) || w.started)).map (fun w =>
    if w.ctx = some i then { w with ctx := none } else w)) d) d

/-- End a command whose media work is outstanding: work not started is dropped, the command completes. -/
def endCmd (i status : Nat) (d : Dev) : Dev := complete i status 0 (dropWorkOf i d)

/-- Blocks counted in CMD_WBUSE.USED (R249): those that have passed the budget check and are neither verified nor
abandoned; a held entry of a replay does not count. -/
def usedBlocks (d : Dev) : Nat := (d.deal.blks.filter (fun b => !b.heldEntry)).length

/-- Keep CMD_WBUSE and BUF_MIRSTATd in step with the held blocks. -/
def countUse (d : Dev) : Dev :=
  let d := wr CMD_WBUSE_USED (usedBlocks d) d
  each 2 (fun b d =>
    let r := bufMirRegion b d
    wr (BUF_MIRSTAT_USED b) ((d.deal.blks.filter (fun k =>
      match k.c2 with | .at a => inSpan a r | .lost => false)).length) d) d

def setBlks (l : List Blk) (d : Dev) : Dev := countUse { d with deal := { d.deal with blks := l } }

/-- WB_BUDGET in blocks (R249); 0 while the power die is lost (R375). -/
def budget (d : Dev) : Nat := if dieUp .power d then rd CMD_WBBUDGET_MIB d * 256 else 0

/-- Complete the commands that waited for verification and whose blocks are all verified (R250): a FUA write when none
of its blocks is held, a Flush when no write of its namespace accepted before it is. -/
def settleWaits (d : Dev) : Dev :=
  (ctxList d).foldl (fun d p =>
    if p.2.stage ≠ .verifying then d
    else
      let open' := d.deal.blks.any (fun b =>
        if p.2.opcode = 0 then b.accepted && (p.2.ns == 0xFF || b.ns == p.2.ns) && decide (b.csn < p.2.order) else b.ctx == some p.1)
      if open' then d else complete p.1 stOk p.2.dw0 d) d

/-- Release the copies of the blocks that satisfy `p` (R109, R373). -/
def releaseBlks (p : Blk → Bool) (d : Dev) : Dev :=
  settleWaits (setBlks (d.deal.blks.filter (fun b => !p b)) d)

/-- Latency class of the namespace that owns device-placed work (R254): class 3 for namespace 0xFF. -/
def nsClass (ns : Nat) (d : Dev) : Nat := if nsValid ns then (tenant ns d).cls else 3

/-- Class deadline of work admitted at `t` for class `c` (R254). -/
def classDue (t c : Nat) (d : Dev) : Nat := t + rd (CMD_LCTGT_TGT c) d * 100 * auxPerUs

/-- Something in the device sets CSTS.CFS (R48, R53, R230, R375). -/
def setCfs (d : Dev) : Dev := wr NVME_CSTS_CFS 1 d

/-- The device is in a power state below PS1 or enters one, which holds work back (R357, R358). -/
def psHolds (d : Dev) : Bool :=
  decide (2 ≤ rd PWS_PSSTAT_STATE d) || (isSet PWS_PSSTAT_BUSY d && decide (2 ≤ d.pws.goal))

/-- The throttle holds arm `n` (R349): at step 2 outside KEEP2, at step 3 every arm but KEEP1. -/
def throttled (n : Nat) (d : Dev) : Bool :=
  let st := rd THM_STAT_STEP d
  (decide (2 ≤ st) && !(rd THM_THRCTL_KEEP2 d).testBit n) || (st == 3 && rd THM_THRCTL_KEEP1 d != n)

/-- The hand of arm `n` may start the item: a throttled arm only trump-class work (R349), nothing in or on the way to
PS2 and below (R357), and after a power-loss notice or the start of a quiesce only the vault's work (R168, R362). While
the power die is lost, nothing is dispatched (R364, R375); nor to an arm whose link is down (R18). -/
def mayDispatch (n : Nat) (w : Work) (d : Dev) : Bool :=
  dieUp .power d && dieUp (.arm n) d
    && (if d.pws.quiesce.isSome || d.deal.ploss then w.kind == .vaultWrite
        else !psHolds d && (w.trump != 0 || !throttled n d))

/-! ## Background scans -/

/-- CLK_AUX cycles in a second. -/
def auxPerS : Nat := 1000000 * auxPerUs

/-- The time for which arm `n` has run a scan in the present second (R214). -/
def scanUsed (n : Nat) (d : Dev) : Nat :=
  let u := Store.get (0, 0) n d.zon.scanUse
  if u.1 = d.time / auxPerS then u.2 else 0

/-- A scan of arm `n` pauses: for trump-class work, or because its share of the second is used up (R214). The seconds are those of the
time count, and a sector begun within the share is finished. DESIGN CHOICE, notes/assumptions/120. -/
def scanHeld (n : Nat) (d : Dev) : Bool :=
  decide (rd ZON_SCANDUTY_DUTY d * auxPerS ≤ 256 * scanUsed n d) || (hand n d).any (fun w => w.trump != 0)

/-- The item has started and goes on: a scan not while it pauses. -/
def goesOn (n : Nat) (w : Work) (d : Dev) : Bool := w.started && !(w.kind == .scanRead && scanHeld n d)

/-- The hand picks anew between the sectors of a scan, which has its lowest priority (R214, R254). -/
def scanYield (n : Nat) (d : Dev) : Dev :=
  if (hand n d).any (fun w => w.kind == .scanRead && w.started) then
    setHand n ((hand n d).map (fun w => if w.kind = .scanRead then { w with started := false } else w)) d
  else d

end Sys2Proof.Machine
end

