-- ==== Sys2Proof/Machine/VaultOps.lean ====
section
/-!
DEFINITION. Machine/VaultOps.lean: the vault areas (R376, R380): which arm holds an area and whether it can take entries,
the sectors of an entry, placing an entry as trump-class work, what happens to a flush that loses an arm or its last area
(R375, R379).
-/
namespace Sys2Proof.Machine

def onVault (f : Vault → Vault) (d : Dev) : Dev := { d with vault := f d.vault }

/-- The entries placed in area `a`; replace them. -/
def areaList (a : Nat) (d : Dev) : List VEntry := if a = 0 then d.vault.area0 else d.vault.area1
def setArea (a : Nat) (l : List VEntry) : Dev → Dev :=
  onVault (fun v => if a = 0 then { v with area0 := l } else { v with area1 := l })

def areaPlaced (a : Nat) (d : Dev) : Nat := Store.get 0 a d.vault.placed
def areaWritten (a : Nat) (d : Dev) : Nat := Store.get 0 a d.vault.written
def areaPassed (a : Nat) (d : Dev) : Nat := Store.get 0 a d.vault.passed

/-- The arm that holds area `a`: the a-th lowest set in BRK_VAULT.ARMS (R376). -/
def vaultArm (a : Nat) (d : Dev) : Option Nat :=
  ((List.range 4).filter (fun n => (rd BRK_VAULT_ARMS d).testBit n))[a]?

/-- The arm is fitted, its link is up, it is not handled as lost, and the power die is there. -/
def armWorks (n : Nat) (d : Dev) : Bool :=
  fitted (.arm n) d && dieUp (.arm n) d && !(rd GLB_HEALTH_LOSTARMS d).testBit n && dieUp .power d

/-- Area `a` is set and its arm can write. -/
def areaUp (a : Nat) (d : Dev) : Bool :=
  rd (GLB_VLTAREA_NZONES a) d != 0 && (vaultArm a d).any (fun n => armWorks n d)

/-- A vault arm can write (R362, R364). -/
def canVault (d : Dev) : Bool := areaUp 0 d || areaUp 1 d

/-- Sectors that an entry takes: its header and its body (R380). -/
def VEntry.len (e : VEntry) : Nat := 1 + e.bodies.length

/-- The 32 bytes of a descriptor (R380). -/
def VDesc.bytes (x : VDesc) : List Nat :=
  leBytes x.csn 8 ++ leBytes x.lba 8 ++ [x.ns % 256, x.flags % 256] ++ leBytes x.zofs 2 ++ leBytes x.zrec 4
    ++ leBytes x.tag 4 ++ leBytes x.crc 4

/-- The header sector of an entry in area `a`: 4,096 bytes with their CRC, and 16 metadata bytes of 0 (R380). -/
def VEntry.header (a : Nat) (e : VEntry) : List Nat :=
  let head := leBytes 0x544C5641 4 ++ leBytes 1 2 ++ [e.kind, a + 2 * b2n e.mirror] ++ leBytes e.epoch 4 ++ leBytes e.entry 4
    ++ leBytes e.bodies.length 2 ++ List.replicate 14 0
  let body := if e.kind = 3 then e.sum else e.desc.flatMap VDesc.bytes
  let bs := head ++ body ++ List.replicate (4060 - body.length) 0
  bs ++ leBytes (crc32c bs) 4 ++ List.replicate 16 0

/-- The 4,112 bytes of position `p` of area `a`'s stream. -/
def vaultSector (a p : Nat) (d : Dev) : List Nat :=
  match (areaList a d).find? (fun e => decide (e.start ≤ p) && decide (p < e.start + e.len)) with
  | some e => if p = e.start then e.header a else e.bodies.getD (p - e.start - 1) (List.replicate 4112 0)
  | none => List.replicate 4112 0

/-- The area whose zones hold record `r`. -/
def areaOfRec (r : Nat) (d : Dev) : Option Nat :=
  [0, 1].find? (fun a => decide (rd (GLB_VLTAREA_FIRST a) d ≤ r) &&
    decide (r < rd (GLB_VLTAREA_FIRST a) d + rd (GLB_VLTAREA_NZONES a) d))

/-- Position in its area's stream of place `k` of a vault work item. -/
def vaultPos (a : Nat) (w : Work) (k : Nat) (d : Dev) : Nat := (w.zrec - rd (GLB_VLTAREA_FIRST a) d) * 65536 + w.zofs + k

/-- A vault sector goes to the media; one has passed read-after-write. -/
def vaultWritten (w : Work) (k : Nat) (d : Dev) : Dev :=
  match areaOfRec w.zrec d with
  | some a => onVault (fun v => { v with written := Store.put 0 a (max (areaWritten a d) (vaultPos a w k d + 1)) v.written }) d
  | none => d
def vaultPassed (w : Work) (d : Dev) : Dev :=
  match areaOfRec w.zrec d with
  | some a => onVault (fun v => { v with passed := Store.put 0 a (areaPassed a d + 1) v.passed }) d
  | none => d

/-- Room in area `a` for `n` more sectors. -/
def areaRoom (a n : Nat) (d : Dev) : Bool := decide (areaPlaced a d + n ≤ rd (GLB_VLTAREA_NZONES a) d * 65536)

/-- Area `a` can take an entry of `n` sectors. -/
def areaTakes (a n : Nat) (d : Dev) : Bool := areaUp a d && areaRoom a n d

/-- Work of the vault for `n` sectors from stream position `p` of area `a`: one run in each zone (R376), of the highest
precedence of the trump class (R255). No reference tag is supplied for it. -/
def pushVault (a p n : Nat) (d : Dev) : Dev :=
  match vaultArm a d with
  | none => d
  | some arm =>
    let first := min n (65536 - p % 65536)
    [(p, first), (p + first, n - first)].foldl (fun d r =>
      if r.2 = 0 then d
      else
        let zi := rd (GLB_VLTAREA_FIRST a) d + r.1 / 65536
        let g := zoneGet zi d
        handPush arm ⟨0, .vaultWrite, 1, none, 0xFF, zi, r.1 % 65536, r.2, g.2.head, g.2.track, 2 ^ 32, 0, false, d.time,
          d.time, 0, 0, false, 0, 0, []⟩ g.1) d

/-- Place an entry at the end of area `a`. -/
def placeEntry (a : Nat) (e : VEntry) (d : Dev) : Dev :=
  let p := areaPlaced a d
  let d := setArea a (areaList a d ++ [{ e with start := p }]) d
  let d := onVault (fun v => { v with
    placed := Store.put 0 a (p + e.len) v.placed, need := v.need ||| 2 ^ a, marks := if v.marks.testBit a then v.marks - 2 ^ a else v.marks }) d
  pushVault a p e.len d

/-- The body that the vault holds of a block (R380), while its area can be read. -/
def vaultBody (b : Blk) (d : Dev) : Option (List Nat) :=
  [0, 1].findSome? (fun a =>
    if !(vaultArm a d).any (fun n => armWorks n d) then none
    else (areaList a d).findSome? (fun e =>
      ((e.desc.zip e.bodies).find? (fun p => p.1.csn == b.csn && p.1.lba == b.lba && p.1.ns == b.ns)).map (fun p => p.2)))

/-- No flush waits or runs (R379). -/
def flushIdle (d : Dev) : Bool := d.vault.run.isNone && d.vault.want.isEmpty

/-- GLB_VLTCTL.BUSY follows flush and replay. -/
def vaultBusy (d : Dev) : Dev := wrB GLB_VLTCTL_BUSY (d.vault.run.isSome || d.vault.replay) d

/-- Take the vault's work out of a hand. -/
def dropVaultWork (n : Nat) (d : Dev) : Dev := setHand n ((hand n d).filter (fun w => w.kind != .vaultWrite)) d

/-- A flush ends without every entry written (R379, R363): the replacement reason; after a quiesce VINC will be set. -/
def flushFailed (d : Dev) : Dev :=
  let d := { d with pws := { d.pws with vinc := d.pws.vinc || d.pws.quiesce.isSome } }
  reason 3 (vaultBusy (each 4 dropVaultWork (onVault (fun v => { v with run := none, want := [], blks := [] }) d)))

/-- Write an entry of the flush that runs (R379): to both areas, or to the one its number names; where that area's arm is
lost or its zones are full, to the other. With neither the flush is incomplete. -/
def putEntry (both : Bool) (e : VEntry) (d : Dev) : Dev :=
  if d.vault.run.isNone then d
  else
    let ok := fun a => areaTakes a e.len d
    let l := if both then [0, 1].filter ok
      else if ok (e.entry % 2) then [e.entry % 2] else if ok (1 - e.entry % 2) then [1 - e.entry % 2] else []
    if l.isEmpty then flushFailed d
    else onVault (fun v => { v with entry := v.entry + 1 }) (l.foldl (fun d a => placeEntry a e d) d)

/-- A vault arm is lost while a flush runs (R18, R375): the entries of its area go to the other area, unless they are there
already, and the flush completes on that one. -/
def vaultReroute (n : Nat) (d : Dev) : Dev :=
  match d.vault.run, [0, 1].find? (fun a => vaultArm a d == some n) with
  | some _, some a =>
    let b := 1 - a
    let l := areaList a d
    let mine := fun (e : VEntry) => e.epoch == d.vault.epoch
    let there := areaList b d
    let d := dropVaultWork n (setArea a (l.filter (fun e => !mine e)) d)
    if !areaUp b d then flushFailed d
    else
      let d := onVault (fun v => { v with need := 2 ^ b }) d
      (l.filter (fun e => mine e && e.kind != 3)).foldl (fun d e =>
        if d.vault.run.isNone || there.any (fun x => x.epoch == e.epoch && x.entry == e.entry) then d
        else if areaRoom b e.len d then placeEntry b e d
        else flushFailed d) d
  | _, _ => d

end Sys2Proof.Machine
end

