-- ==== Sys2Proof/Machine/ArmOps.lean ====
section
/-!
DEFINITION. Machine/ArmOps.lean: the operations the units of an arm die share: the servo state (R416), write inhibits
and the write gate (R103), the retry ladder's register face (R89, R92), the retract order with its two halves, on the
arm die and on the power die (R149, R171), and the lasting actions that retire heads or lose an arm (R107, R117, R147,
R148, R206, R375).
-/
namespace Sys2Proof.Machine

/-- Arm die `n`. -/
def arm (n : Nat) (d : Dev) : Arm := Store.get Arm.reset n d.arms
def setArm (n : Nat) (x : Arm) (d : Dev) : Dev := { d with arms := Store.put Arm.reset n x d.arms }
def onArm (n : Nat) (f : Arm → Arm) (d : Dev) : Dev := setArm n (f (arm n d)) d

/-- Servo states of SRV_STAT.STATE (R153). -/
def svParked : Nat := 0
def svSeek : Nat := 1
def svSettle : Nat := 2
def svFollow : Nat := 3
def svHold : Nat := 4
def svRetract : Nat := 5

def servo (n : Nat) (d : Dev) : Nat := rd (SRV_STAT_STATE n) d
def setServo (n st : Nat) (d : Dev) : Dev := wr (SRV_STAT_STATE n) st d

/-- The heads are unloaded (R416): parked or retracting, or a head load that has found no SAM. -/
def unloaded (n : Nat) (d : Dev) : Bool :=
  servo n d == svParked || servo n d == svRetract || ((arm n d).loading && !(arm n d).samSeen)

/-- The loops run: the heads are loaded or loading. -/
def servoOn (n : Nat) (d : Dev) : Bool := servo n d != svParked && servo n d != svRetract

/-- The selected head. -/
def selHead (n : Nat) (d : Dev) : Nat := rd (SRV_STAT_HEAD n) d

/-- The band of a head that holds a track, if the table has a usable one. -/
def bandOf (n h t : Nat) (d : Dev) : Option Band :=
  (arm n d).bands.find? (fun b => b.head == h && decide (b.first ≤ t) && decide (t ≤ b.last) && b.usable)

/-- The band under the selected head at the present track. -/
def curBand (n : Nat) (d : Dev) : Option Band := bandOf n (selHead n d) (rd (SRV_TRACK_TRACK n) d) d

/-! ## Calibration runs (R182 to R187) -/

/-- The run of kind `k` in progress on arm `n`. -/
def calRun (n k : Nat) (d : Dev) : Option CalRun := (arm n d).calRuns.find? (fun r => r.kind == k)

/-- Change the run of kind `k`. -/
def onCalRun (n k : Nat) (f : CalRun → CalRun) (d : Dev) : Dev :=
  onArm n (fun a => { a with calRuns := a.calRuns.map (fun r => if r.kind = k then f r else r) }) d

/-- CAL_STAT.RUNNING and BUSY follow the runs in progress. -/
def calStat (n : Nat) (d : Dev) : Dev :=
  setBusy (pgCal n) (!(arm n d).calRuns.isEmpty)
    (wr (CAL_STAT_RUNNING n) (((arm n d).calRuns.map (fun r => 2 ^ r.kind)).sum) d)

/-- The run of kind `k` ends. -/
def calEnd (n k : Nat) (d : Dev) : Dev :=
  calStat n (onArm n (fun a => { a with calRuns := a.calRuns.filter (fun r => r.kind != k) }) d)

/-- The run of kind `k` is abandoned (R187): no value changes, an automatic trigger stays pending, event bit 3. A CH run
whose channel A adapts hands back at the next sector boundary; any other run ends at once. -/
def calAbandonKind (n k : Nat) (d : Dev) : Dev :=
  match calRun n k d with
  | none => d
  | some r =>
    if k = 0 ∧ r.phase = 2 ∧ r.verdict = none then d
    else
      let d := if r.auto then setBit (CAL_STAT_PEND n) k d else d
      let d := if k = 0 ∧ 1 ≤ r.phase then onCalRun n 0 (fun r => { r with phase := 2, verdict := none }) d else calEnd n k d
      raise (pgCal n) 3 d

/-- Every run of the arm is abandoned (R187). -/
def calAbandon (n : Nat) (d : Dev) : Dev := each 4 (fun k d => calAbandonKind n k d) d

/-- An FH or AST run is to be abandoned at the end of the present revolution (R187). -/
def calLeave (n : Nat) (d : Dev) : Dev :=
  each 2 (fun k d => onCalRun n (k + 2) (fun r => { r with ending := true }) d) d

/-- The hottest valid sensor of arm `n` (R181, R342), in 0.25 °C. -/
def hottest (n : Nat) (d : Dev) : Option Int :=
  let l := (List.range 6).map (fun k => 12 + 6 * n + k)
  let ts := (l.filter (fun k => isSet (THM_TS_VALID k) d)).map (fun k => rdInt (THM_TS_TEMP k) d)
  match ts with
  | [] => none
  | t :: us => some (us.foldl max t)

/-- TREF takes the hottest reading of the arm, and the interval of R181 begins. -/
def calRef (n : Nat) (d : Dev) : Dev :=
  let d := onArm n (fun a => { a with calFrom := some d.time }) d
  match hottest n d with
  | some t => wrInt (CAL_STAT_TREF n) t d
  | none => d

/-- The first head load after power-up begins (R181). -/
def calFirstLoad (n : Nat) (d : Dev) : Dev := if (arm n d).calFrom.isSome then d else calRef n d

/-- An SRV run collects the wedge of track-following that ends (R185). -/
def calWedge (n : Nat) (d : Dev) : Dev :=
  if servo n d = svFollow then onCalRun n 1 (fun r => { r with wedges := r.wedges + 1 }) d else d

/-- An accepted SRV result comes into force at an aligned wedge boundary (R180, R185). -/
def calSrvInstall (n : Nat) (d : Dev) : Dev :=
  match calRun n 1 d with
  | some r =>
    if r.phase = 1 then
      raise (pgCal n) 1 (calEnd n 1 (wrs [(CTL_L0MODEL_RCOIL n, r.res.1), (CTL_L0MODEL_LCOIL n, r.res.2)] d))
    else d
  | none => d

/-- CLK_AUX cycles of an aligned 1.000 ms window (R105). -/
def dutySpan : Nat := 125000

/-- Cycles that write gate has been high in the window of time `t`, up to `t` (R105). -/
def dutyAt (a : Arm) (high : Bool) (t : Nat) : Nat :=
  let w := t / dutySpan
  (if a.dutyWin = w then a.dutyAcc else 0) + (if high then t - max a.gateAt (w * dutySpan) else 0)

/-- Write gate falls at time `t`, and the data pair goes to electrical idle (R100); ALK_STAT.WG follows. -/
def gateOffAt (n t : Nat) (d : Dev) : Dev :=
  let high := isSet (ALK_STAT_WG n) d
  wr (ALK_STAT_WG n) 0 (onArm n (fun a => { a with
    pair := false, idleAt := if high then t else a.idleAt, dutyWin := t / dutySpan, dutyAcc := dutyAt a high t }) d)
def gateOff (n : Nat) (d : Dev) : Dev := gateOffAt n d.time d

/-- Write gate rises; the data pair stays idle during the lead (R100). -/
def gateOn (n : Nat) (d : Dev) : Dev :=
  if isSet (ALK_STAT_WG n) d then d else wr (ALK_STAT_WG n) 1 (onArm n (fun a => { a with gateAt := d.time }) d)

/-- A serial frame of the arm die waits for the arm link (R114, R119); it goes before queued raw frames. -/
def queueFrame (n addr data : Nat) (read : Bool) (d : Dev) : Dev :=
  onArm n (fun a => { a with
    frames := a.frames.filter (fun f => !f.raw) ++ [⟨addr, data, read, false, 0⟩] ++ a.frames.filter (fun f => f.raw) }) d

/-- The highest code that a head may be sent (R105): its ILIM; for address 0xF, which reaches every head, the lowest of all. -/
def assistLim (n h : Nat) (d : Dev) : Nat :=
  if h < 8 then rd (WRP_ASLIM_ILIM n h) d
  else ((List.range 8).map (fun k => rd (WRP_ASLIM_ILIM n k) d)).foldl min 1023

/-- An ACODE or STBY code as it may be sent to head `h` (R105), with the clamp counted and reported. -/
def clampCode (n h v : Nat) (d : Dev) : Dev × Nat :=
  if assistLim n h d < v then (raise (pgWrp n) 5 (bumpEv (pgWrp n) (WRP_ASSTAT_CLAMPS n) 6 1 d), assistLim n h d) else (d, v)

/-- The ASSIST frame with the standby level for head `h` (R104, R118). The spec does not say when it goes out: at a head selection and at
a write of ALK_ASSIST. DESIGN CHOICE, notes/assumptions/112. -/
def stbyFrame (n h : Nat) (d : Dev) : Dev :=
  let c := clampCode n h (rd (ALK_ASSIST_STBY n) d) d
  queueFrame n (0x4001 + 0x100 * h) c.2 false c.1

/-- The HEADSEL frame (R118): head and preamplifier mode (0 SLEEP, 1 READ, 2 WRITE). -/
def headsel (n h m : Nat) (d : Dev) : Dev := queueFrame n 0x1000 (h + 16 * m) false d

/-- A burst stops where it is (R103): the gate falls, the sector being written is lost and fails read-after-write;
during the lead nothing fails. -/
def breakBurst (n : Nat) (d : Dev) : Dev :=
  let d := gateOff n d
  onArm n (fun a =>
    match a.wsec with
    | some r => { a with burst := none, wsec := none, image := [], framed := none, raws := a.raws ++ [{ r with cause := 3 }] }
    | none => if a.burst.isSome then { a with burst := none, framed := none } else a) d

/-- PG_EVRAW bit 4 of the WRP page holds while any source is in force (R121). -/
def inhibitRaw (n : Nat) (d : Dev) : Dev := setRaw (pgWrp n) 4 (rd (WRP_WISTAT_SRC n) d != 0) d

/-- Inhibit source `k` of arm `n` is in force from now on: WRP event bit 4 (R121); it spoils a write revolution of a calibration run
(R187). -/
def inhibitSet (n k : Nat) (d : Dev) : Dev :=
  if (rd (WRP_WISTAT_SRC n) d).testBit k then d
  else
    let d := each 2 (fun q d => onCalRun n (q + 2) (fun r => { r with inhibited := r.inhibited || r.phase == 1 }) d) d
    inhibitRaw n (setBit (WRP_WISTAT_SRC n) k d)

/-- Inhibit source `k` takes effect at once (R103): the write gate drops. -/
def inhibitNow (n k : Nat) (d : Dev) : Dev := inhibitSet n k (breakBurst n d)

/-- Inhibit source `k` takes effect at the next sector boundary. -/
def inhibitNext (n k : Nat) (d : Dev) : Dev :=
  onArm n (fun a => { a with inhNext := a.inhNext ||| 2 ^ k, liftNext := a.liftNext &&& (0x7FF - 2 ^ k) }) d

/-- Inhibit source `k` lifts now, or at the next sector boundary. -/
def inhibitLift (n k : Nat) (d : Dev) : Dev :=
  inhibitRaw n (clrBit (WRP_WISTAT_SRC n) k (onArm n (fun a => { a with inhNext := a.inhNext &&& (0x7FF - 2 ^ k) }) d))
def inhibitLiftNext (n k : Nat) (d : Dev) : Dev :=
  onArm n (fun a => { a with liftNext := a.liftNext ||| 2 ^ k, inhNext := a.inhNext &&& (0x7FF - 2 ^ k) }) d

/-- No inhibit source is set (R103). -/
def mayWrite (n : Nat) (d : Dev) : Bool := rd (WRP_WISTAT_SRC n) d == 0

/-- RCH_LADSTAT follows the ladder. -/
def ladStat (n : Nat) (d : Dev) : Dev :=
  let l := (arm n d).ladder
  match l with
  | [] => wrs [(RCH_LADSTAT_ACTIVE n, 0), (RCH_LADSTAT_RUNG n, 0), (RCH_LADSTAT_PENDSEC n, 0),
      (RCH_LADSTAT_ELAPSED n, 0)] d
  | s :: _ => wrs [(RCH_LADSTAT_ACTIVE n, 1), (RCH_LADSTAT_RUNG n, s.rung),
      (RCH_LADSTAT_PENDSEC n, min 0xFF (l.length - 1)),
      (RCH_LADSTAT_ELAPSED n, min 0xFFFF ((d.time - s.since) / 12500))] d

/-- The ladder is abandoned at once without a rung-11 record: the media work returns to its hand, and its sectors that have not been
delivered start again at rung 0 later (R92). -/
def ladderAbandon (n : Nat) (d : Dev) : Dev :=
  let a := arm n d
  let back := fun (w : Work) =>
    (a.ladder.filter (fun s => s.work == w.id)).map LadSec.sec ++ (a.flights.filter (fun s => s.work == w.id)).map Flight.sec
  let d := ladStat n (onArm n (fun a => { a with ladder := [], flights := [], ladOfs := 0, ladWait := false }) d)
  setHand n ((hand n d).map (fun w => { w with started := false, redo := w.redo ++ back w })) d

/-- Reads with media work in hand `n` end with Unrecovered Read Error, without a rung-11 record (R92). -/
def endReads (n : Nat) (d : Dev) : Dev :=
  (hand n d).foldl (fun d w =>
    match w.kind, w.ctx with
    | .hostRead, some i => endCmd i stUnrec d
    | _, _ => d) d

/-- Arm `n` is handled as a lost arm die (R148, R206, R375): its hand stops, its zones become Offline, reads that wait
for it end, and its unverified accepted writes are to be flushed to the vault. -/
def armLost (n : Nat) (d : Dev) : Dev :=
  if (rd GLB_HEALTH_LOSTARMS d).testBit n then d
  else
    let d := wr (CMD_HAND_STOP n) 1 (setBit GLB_HEALTH_LOSTARMS n d)
    let d := endReads n (offlineZones n d)
    vaultReroute n { d with vault := { d.vault with want := d.vault.want ++ [.armLost n] } }

/-- The media-cache bands of a retired head are reported (R206), which have no zone record: record index all ones, the band's index
for the zone offset. DESIGN CHOICE, notes/assumptions/118. -/
def retireBands (n h : Nat) (d : Dev) : Dev :=
  if !isSet ZON_CTL_VALID d then d
  else ((arm n d).bands.filter (fun b => b.head == h && !b.shingled && b.usable)).foldl (fun d b =>
    report 0xFFFFFFFF b.idx 0x06 0 0 d) d

/-- Head `h` of arm `n` is retired for writing (R107, R206): writing on it stops at once where it is selected, the
replacement reason is raised, its zones change, its media-cache bands are reported. -/
def retireHead (n h : Nat) (d : Dev) : Dev :=
  let d := onArm n (fun a => { a with retired := a.retired ||| 2 ^ h }) d
  let d := if selHead n d = h then inhibitNow n 5 d else d
  retireBands n h (retireZones n h (reason 1 d))

/-- FLT_N's inhibit (R120): until the release where FLT_N is asserted, or where the arm waits for it; else while the selected head waits
for a burst of its own, or the arm for the next burst. -/
def fltInhibit (n : Nat) (d : Dev) : Dev :=
  let a := arm n d
  if isSet (ALK_STAT_FLT n) d || a.fltBits != 0 || a.fltHeads.testBit (selHead n d) then inhibitSet n 2 d else inhibitLift n 2 d

/-- The inhibits of a retired head and of a head's preamplifier fault follow the head selection (R103 bits 5 and 2). -/
def headInhibit (n : Nat) (d : Dev) : Dev :=
  fltInhibit n (if (arm n d).retired.testBit (selHead n d) then inhibitSet n 5 d else inhibitLift n 5 d)

/-- One error of the write-safety class (R107). -/
def writeSafety (n : Nat) (d : Dev) : Dev :=
  errClass (pgWrp n) (fun d => raise (pgWrp n) 1 (retireHead n (selHead n d) d)) d

/-- One error of the position-fault class (R147). -/
def positionFault (n : Nat) (d : Dev) : Dev :=
  errClass (pgSrv n) (fun d => raise (pgSrv n) 6 (retireHead n (selHead n d) d)) d

/-- One error of the current-loop class (R148). -/
def currentFault (n : Nat) (d : Dev) : Dev :=
  errClass (pgCtl n) (fun d =>
    armLost n (raise (pgCtl n) 7 (setFault (pgCtl n) true (each 8 (fun h d => retireHead n h d) d)))) d

/-- One error of the arm-link class (R117). -/
def linkFault (n : Nat) (d : Dev) : Dev :=
  errClass (pgAlk n) (fun d => raise (pgAlk n) 2 (setFault (pgAlk n) true (each 8 (fun h d => retireHead n h d) d))) d

end Sys2Proof.Machine
end

