-- ==== Sys2Proof/Machine/DataPath.lean ====
section
/-!
DEFINITION. Machine/DataPath.lean: how blocks travel between the host, the held copies, the read cache and the media:
namespaces as loaded (R194), held copies (R372, R373), the protection information of a block, encryption and decryption
(R305 to R313), the read cache (R252, R253), the media-cache index (R212), and the running parity (R207 to R209).
-/
namespace Sys2Proof.Machine

/-- The record number that names no zone: work outside every zone. -/
def noRec : Nat := 0x100000

/-- A namespace as the zone engine has loaded it (R194). -/
def nsEntry (ns : Nat) (d : Dev) : NsEntry := Store.get NsEntry.off ns d.zon.ns

/-- Zone record of a block of a zoned namespace, or its home region's record (R194, R211). -/
def recOf (ns lba : Nat) (d : Dev) : Nat := (nsEntry ns d).first + lba / 65536

/-- One step of CRC-16 with the polynomial 0x8BB7. -/
def crc16Byte (c b : Nat) : Nat :=
  (List.range 8).foldl (fun c k =>
    let top := c.testBit 15 != b.testBit (7 - k)
    let s := c * 2 % 65536
    if top then s ^^^ 0x8BB7 else s) c

/-- The protection information of a block (R65): guard, application tag, reference tag, each little-endian (R8). The spec
gives the reference tag's place (R80); the guard, the application tag 0 and a reference tag that counts from the LBA are
NVMe's. PRESUMED, notes/assumptions/32. -/
def piBytes (lba : Nat) (user : List Nat) : List Nat :=
  leBytes (user.foldl crc16Byte 0) 2 ++ [0, 0] ++ leBytes (lba % 2 ^ 32) 4

/-! ## Key slots -/

def keySlot (k : Nat) (d : Dev) : KeySlot := Store.get KeySlot.empty k d.keys

/-- The cipher may start new blocks (R324). -/
def cipherOk (d : Dev) : Bool := !isSet CRY_RNGSTAT_ERR d

/-- The nonce of a protection unit (R308). -/
def gcmNonce (ns u g : Nat) : List Nat := beBytes ns 2 ++ beBytes u 6 ++ beBytes g 4

/-- Encrypt the blocks of a command from LBA `lba` on (R306 to R309): ciphertext and metadata of each. -/
def encryptBlocks (slot ns lba g : Nat) (users : List (List Nat)) (d : Dev) : List (List Nat × List Nat) :=
  match keySlot slot d with
  | .empty => users.map (fun _ => ([], []))
  | .xts k1 k2 => users.zipIdx.map (fun p =>
      (xtsEnc k1 k2 (lba + p.2) p.1, piBytes (lba + p.2) p.1 ++ List.replicate 8 0))
  | .gcm k =>
    (List.range (users.length / 8)).flatMap (fun i =>
      let us := (users.drop (8 * i)).take 8
      let pis := us.zipIdx.map (fun p => piBytes (lba + 8 * i + p.2) p.1)
      let nonce := gcmNonce ns (lba / 8 + i) g
      let ct := gcmCtr k nonce us.flatten
      let tag := gcmTag k nonce pis.flatten ct
      (List.range 8).map (fun j =>
        ((ct.drop (4096 * j)).take 4096,
          pis.getD j [] ++ leBytes g 4 ++ (if j < 4 then (tag.drop (4 * j)).take 4 else [0, 0, 0, 0]))))

/-- Decrypt one block (R306): of a sealed unit, block `lba % 8`, with the generation that its metadata holds (R309). -/
def decryptBlock (slot ns lba : Nat) (ct md : List Nat) (d : Dev) : List Nat :=
  match keySlot slot d with
  | .empty => []
  | .xts k1 k2 => xtsDec k1 k2 lba ct
  | .gcm k =>
    let nonce := gcmNonce ns (lba / 8) (leNat ((md.drop 8).take 4))
    ((blocks16 ct).zipIdx.map (fun p =>
      xorBytes p.1 (aesEnc k (nonce ++ beBytes (256 * (lba % 8) + p.2 + 2) 4)))).flatten

/-- The tag check of a sealed unit whose eight blocks are given in order (R308, R309, R312). -/
def unitOk (slot ns u : Nat) (blks : List (List Nat × List Nat)) (d : Dev) : Bool :=
  match keySlot slot d with
  | .gcm k =>
    let g := leNat (((blks.getD 0 ([], [])).2.drop 8).take 4)
    let tag := (blks.take 4).flatMap (fun b => (b.2.drop 12).take 4)
    let gs := blks.all (fun b => leNat ((b.2.drop 8).take 4) == g)
    gs && blks.length == 8
      && gcmTag k (gcmNonce ns u g) (blks.flatMap (fun b => b.2.take 8)) (blks.flatMap (fun b => b.1)) == tag
  | _ => false

/-! ## Held copies -/

/-- The newest held block of an LBA (R197, R216). -/
def heldBlk (ns lba : Nat) (d : Dev) : Option Blk :=
  (d.deal.blks.filter (fun b => b.accepted && !b.heldEntry && b.ns == ns && b.lba == lba)).getLast?

/-- The held block of a zone offset. -/
def heldAt (zi ofs : Nat) (d : Dev) : Option Blk :=
  (d.deal.blks.filter (fun b => b.accepted && b.zone == some (zi, ofs))).getLast?

/-- Read a copy of a block: its 4,096 bytes of ciphertext, nothing where it is lost or unreadable. -/
def readCopy (c : Copy) (d : Dev) : Dev × Option (List Nat) :=
  match c with
  | .lost => (d, none)
  | .at a => if memUp a d then memRead a 4096 d else (d, none)

/-- Read a held block from its first copy, or from the second where the first cannot be read; a held entry of a replay from
the vault (R382). -/
def readBlk (b : Blk) (d : Dev) : Dev × Option (List Nat) :=
  if b.heldEntry then (d, (vaultBody b d).map (fun bs => bs.take 4096))
  else
    let r := readCopy b.c1 d
    match r.2 with
    | some bs => (r.1, some bs)
    | none => readCopy b.c2 r.1

/-! ## Host buffers and delivery -/

/-- The part of some spans from byte `skip` on for `n` bytes. -/
def sliceSpans : List (Nat × Nat) → Nat → Nat → List (Nat × Nat)
  | [], _, _ => []
  | (a, l) :: ss, skip, n =>
    if n = 0 then []
    else if l ≤ skip then sliceSpans ss (skip - l) n
    else (a + skip, min n (l - skip)) :: sliceSpans ss 0 (n - min n (l - skip))

/-- The spans of block `k` of a command. -/
def blockSpans (x : Ctx) (k : Nat) : List (Nat × Nat) := sliceSpans x.spans (4096 * k) 4096

/-- A span that stands for nothing in host memory: an SGL bit bucket (NVMe; PRESUMED, notes/assumptions/15). -/
def bitBucket : Nat := 2 ^ 64

/-- Cut `n` bytes from address `a` into pieces that end at multiples of `m`, a divisor of 4,096, so that no piece crosses
a 4 KiB boundary (R228). The spec gives the limits, not the places of the cuts: DESIGN CHOICE, notes/assumptions/49. -/
def cutSpan (a n m : Nat) : List (Nat × Nat) :=
  if n = 0 ∨ m = 0 then []
  else (List.range ((a + n - 1) / m - a / m + 1)).map (fun k =>
    let lo := max a ((a / m + k) * m)
    (lo, min (a + n) ((a / m + k + 1) * m) - lo))

/-- Device Control of the PCI Express capability (R222; the PCI Express layout, PRESUMED, notes/assumptions/45). -/
def devCtl (d : Dev) : Nat := Store.get 0x2810 0x078 d.host.cfg

/-- The largest write and read request the device sends, in bytes (R228). -/
def maxPayload (d : Dev) : Nat := min 512 (128 * 2 ^ bits (devCtl d) 5 3)
def maxRead (d : Dev) : Nat := min 4096 (128 * 2 ^ bits (devCtl d) 12 3)

/-- Put a posted write into the one ordered queue (R226). -/
def sendOut (t : OutTlp) (d : Dev) : Dev := { d with host := { d.host with out := d.host.out ++ [t] } }

/-- Write bytes to host memory, in requests within the limits of R228. -/
def sendBytes (a : Nat) (bs : List Nat) (d : Dev) : Dev :=
  if bitBucket ≤ a then d
  else (cutSpan a bs.length (maxPayload d)).foldl (fun d p => sendOut (.data p.1 ((bs.drop (p.1 - a)).take p.2)) d) d

/-- Write zeros to host memory (R313). -/
def sendZeros (a n : Nat) (d : Dev) : Dev :=
  if bitBucket ≤ a then d else (cutSpan a n (maxPayload d)).foldl (fun d p => sendOut (.zeroFill p.1 p.2) d) d

/-- Send the plaintext of block `k` of a command to the host. -/
def sendBlock (x : Ctx) (k : Nat) (bs : List Nat) (d : Dev) : Dev :=
  ((blockSpans x k).foldl (fun (st : Dev × List Nat) s =>
    (sendBytes s.1 (st.2.take s.2) st.1, st.2.drop s.2)) (d, bs)).1

/-- The first and the last protection unit that a command touches. -/
def firstUnit (x : Ctx) : Nat := x.lba / 8
def lastUnit (x : Ctx) : Nat := (x.lba + x.blocks - 1) / 8

/-- The blocks that a read takes in: all of each unit in a sealed namespace (R312). -/
def readSpan (x : Ctx) : Nat × Nat :=
  if x.isSealed then (8 * firstUnit x, 8 * (lastUnit x + 1)) else (x.lba, x.lba + x.blocks)

/-- Decrypt the next block of a sealed read in order, and send it where it was asked for, as soon as it is there; a unit
begins only when the unit before it has passed (R312, R313). -/
def sealedNext (i : Nat) (d : Dev) : Dev :=
  match ctx i d with
  | none => d
  | some x =>
    if 8 * (firstUnit x + x.units + 1) ≤ x.sent then d
    else
      match x.got.find? (fun g => g.1 == x.sent) with
      | none => d
      | some g =>
        let d := if x.lba ≤ x.sent ∧ x.sent < x.lba + x.blocks then
            sendBlock x (x.sent - x.lba)
              (if g.2.2.1.isEmpty then g.2.1 else decryptBlock x.slot x.ns x.sent g.2.1 g.2.2.1 d) d
          else d
        onCtx i (fun x => { x with sent := x.sent + 1, moving := true }) d

def sealedFlow (i : Nat) (d : Dev) : Dev := each 8 (fun _ d => sealedNext i d) d

/-- A block of a read has arrived as ciphertext (R305, R312): an XTS block is decrypted and sent, and the command
completes after its last block; a block of a sealed unit goes the way of R312. With the DRBG in its error state the
read ends with Internal Error (R324). Block `lba`, metadata `md`, source `src` (0 media, 2 read cache, 3 held copy). -/
def giveBlock (i lba : Nat) (ct md : List Nat) (src : Nat) (d : Dev) : Dev :=
  match ctx i d with
  | none => d
  | some x =>
    if cipherOk d = false then endCmd i stInternal d
    else if x.isSealed then
      sealedFlow i (onCtx i (fun x => { x with got := x.got ++ [(lba, ct, md, src)] }) d)
    else
      let d := if x.lba ≤ lba ∧ lba < x.lba + x.blocks then
          sendBlock x (lba - x.lba) (decryptBlock x.slot x.ns lba ct md d) d
        else d
      let d := onCtx i (fun x => { x with left := x.left - 1, moving := true }) d
      if x.left ≤ 1 then complete i stOk 0 d else d

/-- A block of a read that holds zeros without media access (R197). In a sealed namespace it takes its turn among the
blocks of its unit, without metadata. -/
def giveZeros (i lba : Nat) (d : Dev) : Dev :=
  match ctx i d with
  | none => d
  | some x =>
    if x.isSealed then
      sealedFlow i (onCtx i (fun x => { x with got := x.got ++ [(lba, List.replicate 4096 0, [], 3)] }) d)
    else
      let d := if x.lba ≤ lba ∧ lba < x.lba + x.blocks then sendBlock x (lba - x.lba) (List.replicate 4096 0) d else d
      let d := onCtx i (fun x => { x with left := x.left - 1, moving := true }) d
      if x.left ≤ 1 then complete i stOk 0 d else d

/-! ## SDRAM read cache -/

/-- The read cache exists (R252). -/
def rcOn (d : Dev) : Bool := rd CMD_RCCFG_LOG2 d != 0

/-- Frames and sets of the read cache (R252). -/
def rcFrames (d : Dev) : Nat := let r := 2 ^ rd CMD_RCCFG_LOG2 d * 2 ^ 20; (r - r / 128) / 4096
def rcSets (d : Dev) : Nat := rcFrames d / 8

/-- Address of tag entry `f` and of frame `f` (R252). -/
def rcTag (f : Nat) (d : Dev) : Nat := rd CMD_RCBASE_ADDR d * 128 + 32 * f
def rcFrame (f : Nat) (d : Dev) : Nat :=
  rd CMD_RCBASE_ADDR d * 128 + 2 ^ rd CMD_RCCFG_LOG2 d * 2 ^ 20 / 128 + 4096 * f

/-- The set of a block (R252). -/
def rcSet (ns lba : Nat) (d : Dev) : Nat :=
  let k := ns * 2 ^ 40 + lba
  (k ^^^ (k / 2 ^ 20)) % max 1 (rcSets d)

/-- The present binding count of a namespace (R253). -/
def bindCount (ns : Nat) (d : Dev) : Nat := Store.get 0 ns d.deal.bind

/-- A tag entry names the block: VALID and key (R252); with the present binding count as well for a hit (R253). -/
def tagNames (tag : List Nat) (ns lba : Nat) : Bool :=
  leNat (tag.take 5) == lba % 2 ^ 40 && tag.getD 5 0 == ns && bitOf (tag.getD 6 0) 0

/-- The frame of a set that a predicate on its tag singles out. -/
def rcFind (p : List Nat → Bool) (s : Nat) (d : Dev) : Dev × Option (Nat × List Nat) :=
  (List.range 8).foldl (fun st k =>
    match st.2 with
    | some _ => st
    | none =>
      let r := memRead (rcTag (8 * s + k) st.1) 32 st.1
      match r.2 with
      | some t => if p t then (r.1, some (8 * s + k, t)) else (r.1, none)
      | none => (r.1, none)) (d, none)

/-- Clear VALID of a frame; the replacement pointer of the set stays. -/
def rcClear (f : Nat) (d : Dev) : Dev :=
  let r := memRead (rcTag f d + 6) 1 d
  match r.2 with
  | some b => memWrite (rcTag f d + 6) [b.getD 0 0 / 2 * 2] none r.1
  | none => memWrite (rcTag f d) (List.replicate 32 0) none r.1

/-- Look a block up (R253): ciphertext and metadata on a hit, counted; a poisoned frame is cleared and misses. -/
def rcLookup (ns lba : Nat) (d : Dev) : Dev × Option (List Nat × List Nat) :=
  if !rcOn d || !isSet CMD_RCCFG_EN d then (d, none)
  else
    let n := bindCount ns d
    let r := rcFind (fun t => tagNames t ns lba && t.getD 7 0 == n) (rcSet ns lba d) d
    match r.2 with
    | none => (r.1, none)
    | some (f, t) =>
      let q := memRead (rcFrame f d) 4096 r.1
      match q.2 with
      | none => (rcClear f q.1, none)
      | some bs => (bumpEv pgCmd CMD_RCCNT_HIT 8 1 q.1, some (bs, (t.drop 8).take 16))

/-- Fill the cache with a block that a media read delivered, unless a frame of the present binding holds it (R253). -/
def rcFill (ns lba : Nat) (ct md : List Nat) (d : Dev) : Dev :=
  if !rcOn d || !isSet CMD_RCCFG_EN d then d
  else
    let s := rcSet ns lba d
    let r := rcFind (fun t => tagNames t ns lba && t.getD 7 0 == bindCount ns d) s d
    match r.2 with
    | some _ => r.1
    | none =>
      let p := memRead (rcTag (8 * s) d + 6) 1 r.1
      let ptr := bits ((p.2.getD [0]).getD 0 0) 1 3
      let f := 8 * s + ptr
      let d := memWrite (rcFrame f d) ct none p.1
      let old := memRead (rcTag (8 * s) d + 6) 1 d
      let d := memWrite (rcTag (8 * s) d + 6) [(old.2.getD [0]).getD 0 0 % 2 + 2 * ((ptr + 1) % 8)] none old.1
      let flag := if ptr = 0 then 1 + 2 * ((ptr + 1) % 8) else 1
      let d := memWrite (rcTag f d) (leBytes (lba % 2 ^ 40) 5 ++ [ns % 256, flag, bindCount ns d] ++ md) none d
      bumpEv pgCmd CMD_RCCNT_FILL 8 1 d

/-- Clear every frame that holds a block (R253, coherence). -/
def rcDrop (ns lba : Nat) (d : Dev) : Dev :=
  if !rcOn d then d
  else
    let s := rcSet ns lba d
    each 8 (fun k d =>
      let r := memRead (rcTag (8 * s + k) d) 32 d
      match r.2 with
      | some t => if tagNames t ns lba then rcClear (8 * s + k) r.1 else r.1
      | none => r.1) d

/-- Clear every frame of a namespace: the sweep of a binding count that wraps (R253). -/
def rcSweep (ns : Nat) (d : Dev) : Dev :=
  if !rcOn d then d
  else each (rcFrames d) (fun f d =>
    let r := memRead (rcTag f d) 32 d
    match r.2 with
    | some t => if t.getD 5 0 == ns && bitOf (t.getD 6 0) 0 then rcClear f r.1 else r.1
    | none => r.1) d

/-! ## Media-cache index -/

/-- The bucket of a group of 16 blocks (R212): the XOR of the B-bit slices of the 48-bit key. -/
def mcBucket (ns group bbits : Nat) : Nat :=
  (List.range (48 / max 1 bbits + 1)).foldl (fun x k => x ^^^ bits (ns * 2 ^ 40 + group) (k * bbits) bbits) 0

/-- One index entry (R212): key, first block and count, valid, place, sequence. -/
structure McEntry where
  group : Nat
  ns : Nat
  first : Nat
  count : Nat
  valid : Bool
  arm : Nat
  head : Nat
  track : Nat
  sector : Nat
  seq : Nat
  deriving DecidableEq, Repr

def McEntry.ofBytes (bs : List Nat) : McEntry :=
  let k := leNat (bs.take 8)
  let p := leNat (bs.drop 8)
  { group := bits k 0 40, ns := bits k 40 8, first := bits k 48 4, count := bits k 52 4, valid := bitOf k 56,
    arm := bits p 0 2, head := bits p 2 3, track := bits p 5 22, sector := bits p 27 11, seq := bits p 38 26 }

def McEntry.bytes (e : McEntry) : List Nat :=
  leBytes (e.group + e.ns * 2 ^ 40 + e.first * 2 ^ 48 + e.count * 2 ^ 52 + b2n e.valid * 2 ^ 56) 8
    ++ leBytes (e.arm + e.head * 4 + e.track * 32 + e.sector * 2 ^ 27 + e.seq * 2 ^ 38) 8

/-- Entry a is newer than entry b (R212). -/
def mcNewer (a b : Nat) : Bool := let x := (a + 2 ^ 26 - b) % 2 ^ 26; decide (1 ≤ x) && decide (x ≤ 2 ^ 25)

/-- Address of a bucket. -/
def mcAddr (ns group : Nat) (d : Dev) : Nat :=
  rd ZON_MCBASE_ADDR d * 128 + 128 * mcBucket ns group (rd ZON_MCCFG_BBITS d)

/-- The entries of a group's bucket. -/
def mcRead (ns group : Nat) (d : Dev) : Dev × List McEntry :=
  let r := memRead (mcAddr ns group d) 128 d
  match r.2 with
  | none => (r.1, [])
  | some bs => (r.1, (List.range 8).map (fun k => McEntry.ofBytes ((bs.drop (16 * k)).take 16)))

/-- The newest valid entry whose run covers a block (R212). -/
def mcFind (ns lba : Nat) (d : Dev) : Dev × Option McEntry :=
  if rd ZON_MCCFG_BBITS d = 0 then (d, none)
  else
    let r := mcRead ns (lba / 16) d
    let o := lba % 16
    let es := r.2.filter (fun e => e.valid && e.group == lba / 16 && e.ns == ns && decide (e.first ≤ o)
      && decide (o ≤ e.first + e.count))
    (r.1, es.foldl (fun b e => match b with
      | none => some e
      | some c => if mcNewer e.seq c.seq then some e else some c) none)

/-- The sequence number after that of the run that a new entry replaces, and after the last one the engine gave (R213). DESIGN CHOICE,
notes/assumptions/119. -/
def mcNext (ns lba : Nat) (d : Dev) : Dev × Nat :=
  let m := mcFind ns lba d
  let last := m.1.zon.mcSeq
  (m.1, ((m.2.elim last (fun e => if mcNewer e.seq last then e.seq else last)) + 1) % 2 ^ 26)

/-- Enter a one-block run with the next SEQ (R213); nothing is answered when the bucket has no free entry. -/
def mcEnter (h : McHold) (d : Dev) : Option Dev :=
  let q := mcNext h.ns h.lba d
  let r := mcRead h.ns (h.lba / 16) q.1
  match (List.range 8).find? (fun k => !((r.2.getD k ⟨0, 0, 0, 0, true, 0, 0, 0, 0, 0⟩).valid)) with
  | none => none
  | some k =>
    let e : McEntry := ⟨h.lba / 16, h.ns, h.lba % 16, 0, true, h.arm, h.head, h.track, h.sector, q.2⟩
    some (memWrite (mcAddr h.ns (h.lba / 16) r.1 + 16 * k) e.bytes none { r.1 with zon := { r.1.zon with mcSeq := q.2 } })

/-! ## Zone parity -/

/-- Product in GF(2^16) with the field polynomial 0x1_100B (R208). -/
def gf16Mul (a b : Nat) : Nat :=
  ((List.range 16).foldl (fun (st : Nat × Nat) k =>
    ((if (st.1 * 2).testBit 16 then (st.1 * 2) ^^^ 0x1100B else st.1 * 2),
      (if b.testBit k then st.2 ^^^ st.1 else st.2))) (a, 0)).2

/-- α^k (R208). -/
def gf16Pow (k : Nat) : Nat := (List.range k).foldl (fun x _ => gf16Mul x 2) 1

/-- The inverse in GF(2^16): the power 2^16 − 2. -/
def gf16Inv (a : Nat) : Nat :=
  ((List.range 15).foldl (fun (st : Nat × Nat) _ => let s := gf16Mul st.1 st.1; (s, gf16Mul st.2 s)) (a, 1)).2

/-- The 2,056 symbols of a sector's 4,112 bytes (R208), and back. -/
def symbols (bs : List Nat) : List Nat := (List.range (bs.length / 2)).map (fun i => leNat ((bs.drop (2 * i)).take 2))
def symBytes (xs : List Nat) : List Nat := xs.flatMap (fun x => leBytes x 2)

def xorList (a b : List Nat) : List Nat := (List.range (max a.length b.length)).map (fun i => a.getD i 0 ^^^ b.getD i 0)

/-- Add the sector at data position `j` to a running parity (R208). -/
def parityAdd (j : Nat) (bs : List Nat) (p : Parity) : Parity :=
  let xs := symbols bs
  let g := gf16Pow j
  { p with count := p.count + 1, s0 := xorList p.s0 xs, s1 := xorList p.s1 (xs.map (gf16Mul g)) }

/-- The two parity sectors of a complete stripe (R208): c_62 = (S1 + α^63·S0) / (α^62·(1 + α)), c_63 = S0 + c_62. -/
def parityMake (p : Parity) : List Nat × List Nat :=
  let inv := gf16Inv (gf16Mul (gf16Pow 62) 3)
  let g := gf16Pow 63
  let c62 := (xorList p.s1 (p.s0.map (gf16Mul g))).map (gf16Mul inv)
  (symBytes c62, symBytes (xorList p.s0 c62))

/-- The parity sectors held for a stripe (R210). -/
def heldParity (zi s : Nat) (d : Dev) : Option ParSec := d.zon.parHeld.find? (fun p => p.zi == zi && p.stripe == s)

end Sys2Proof.Machine
end

