-- ==== Sys2Proof/Machine/ZoneActs.lean ====
section
/-!
DEFINITION. Machine/ZoneActs.lean: what the zone engine does to one zone: work for runs of its offsets, the running parity
and its completion (R207 to R209), and the zone actions (R196, R199, R203) with what they wait for (R216).
-/
namespace Sys2Proof.Machine

/-- Zone offset of place `k` of a work item. -/
def ofsAt (w : Work) (k : Nat) : Nat := w.zofs + k

/-- The reference tag that the dealer supplies for place `k` of a work item (R80). -/
def tagAt (w : Work) (k : Nat) : Nat := (w.refTag + k) % 2 ^ 32

/-- A decoded reference tag agrees with the one supplied; a parity or device sector has none (R208). -/
def tagFits (w : Work) (k tag : Nat) : Bool := decide (2 ^ 32 ≤ w.refTag) || tag == tagAt w k

/-- The reference tag in 16 metadata bytes: bytes 4 to 7 (R80, notes/assumptions/32). -/
def tagOf (md : List Nat) : Nat := leNat ((md.drop 4).take 4)

/-- The logical block that zone offset `o` of a zone holds, if any (R207, R418). -/
def blockOfOfs (par : Bool) (o : Nat) : Option Nat :=
  if par then (if o % 64 < 62 then some (62 * (o / 64) + o % 64) else none) else some o

/-- Put VERIF of a zone record; a change of the record that waits for the journal carries it too. -/
def putVerif (zi v : Nat) (z : Zone) (d : Dev) : Dev :=
  let d := memWrite (recAddr zi d) { z with verif := v }.bytes none d
  { d with zon := { d.zon with jwait := d.zon.jwait.map (fun w =>
    if w.zi = zi then { w with zone := { w.zone with verif := v } } else w) } }

/-- The next zone offset of zone `zi` that goes to the media. -/
def nextOfs (zi : Nat) (z : Zone) (d : Dev) : Nat :=
  let x := Store.get 0 zi d.zon.wofs
  if x = 0 then z.verif else x - 1
def setNextOfs (zi o : Nat) (d : Dev) : Dev := { d with zon := { d.zon with wofs := Store.put 0 zi (o + 1) d.zon.wofs } }

/-! ## Work on zone offsets -/

/-- Where a run of offsets that begins at `o` ends, at most at `e`: a run does not cross from data to parity positions,
and a parity position is a run of its own (R207). -/
def runEnd (par : Bool) (o e : Nat) : Nat :=
  if par then (if o % 64 < 62 then min e (o - o % 64 + 62) else o + 1) else e

/-- The runs of offsets `o` to below `e`. -/
def runsOf (par : Bool) : Nat → Nat → Nat → List (Nat × Nat)
  | 0, _, _ => []
  | fuel + 1, o, e => if e ≤ o then [] else (o, runEnd par o e - o) :: runsOf par fuel (runEnd par o e) e

/-- LBA of zone offset `o` of a zone, if it holds a block: filler holds none (R209). -/
def lbaOfOfs (zi : Nat) (z : Zone) (o : Nat) (d : Dev) : Option Nat :=
  if nsValid z.ns && !fillerAt zi z o d then (blockOfOfs (z.par && !z.conv) o).map (fun b => (zi - (nsEntry z.ns d).first) * 65536 + b) else none

/-- Where the filler of a zone begins, if it lies between `o` and `e` (R209); else `e`. -/
def fillerFrom (zi : Nat) (z : Zone) (o e : Nat) (d : Dev) : Nat :=
  let f := zoneOfs z.par (blocksWritten zi z d)
  if fillerAt zi z f d then min e (max o f) else e

/-- Put work for the offsets `o` to below `e` of a zone into hand `n` (R254): class of the owner, deadline from now. Filler is work of
its own, without a reference tag. -/
def pushZone (n : Nat) (kind : WorkKind) (zi : Nat) (z : Zone) (o e : Nat) (d : Dev) : Dev :=
  let f := fillerFrom zi z o e d
  (runsOf (z.par && !z.conv) (f - o) o f ++ runsOf (z.par && !z.conv) (e - f) f e).foldl (fun d r =>
    let l := lbaOfOfs zi z r.1 d
    handPush n ⟨0, kind, 0, none, z.ns, zi, r.1, r.2, z.head, z.track,
      (match l with | some b => b % 2 ^ 32 | none => 2 ^ 32), l.getD 0, z.par && !z.conv, d.time,
      classDue d.time (nsClass z.ns d) d, 0, 0, false, 0, 0, []⟩ d) d

/-! ## Running parity (R208, R209) -/

/-- An empty running parity for a stripe. -/
def Parity.start (s : Nat) : Parity := ⟨s, 0, List.replicate 2056 0, List.replicate 2056 0⟩

def putParity (zi : Nat) (p : Option Parity) (d : Dev) : Dev :=
  { d with zon := { d.zon with parity := Store.put none zi p d.zon.parity } }

/-- The number under which a stripe of zone `zi` is summed: the zone's record for its running parity, one of its own for a
complete stripe whose parity is formed again after a replay. -/
def stripeKey (zi s : Nat) : Nat := 2 ^ 20 * (1 + s) + zi
def parityKey (zi s : Nat) (d : Dev) : Nat :=
  if (Store.get none (stripeKey zi s) d.zon.parity).isSome then stripeKey zi s else zi

/-- Once all 62 data positions are summed, the zone engine forms the two parity sectors (R208), holds them until they
pass read-after-write (R210), and queues their writing, which a replay has done already. -/
def parityForm (zi key : Nat) (d : Dev) : Dev :=
  match Store.get none key d.zon.parity with
  | none => d
  | some p =>
    if p.count < 62 then d
    else
      let c := parityMake p
      let g := zoneGet zi d
      let z := g.2
      let d := putParity key none g.1
      let d := { d with zon := { d.zon with parHeld := d.zon.parHeld ++ [⟨zi, p.stripe, c.1, c.2⟩] } }
      let one := fun (o : Nat) (bs : List Nat) (d : Dev) =>
        handPush z.arm ⟨0, .hostWrite, 0, none, z.ns, zi, o, 1, z.head, z.track, tagOf (bs.drop 4096), 0, true, d.time,
          classDue d.time (nsClass z.ns d) d, 0, 0, false, 0, 0, []⟩ d
      if key = zi then one (64 * p.stripe + 63) c.2 (one (64 * p.stripe + 62) c.1 d) else d

/-- The sector at zone offset `o` goes into the running parity of its stripe (R208). -/
def paritySum (zi o : Nat) (bs : List Nat) (d : Dev) : Dev :=
  let s := o / 64
  let key := parityKey zi s d
  let p := match Store.get none key d.zon.parity with
    | some p => if p.stripe = s then p else Parity.start s
    | none => Parity.start s
  parityForm zi key (putParity key (some (parityAdd (o % 64) bs p)) d)

/-- Sum the first `k` data positions of stripe `s` again (R209): from the held copies, and by media reads of the offsets
that are no longer held; filler is zero. -/
def stripeSum (zi s k key : Nat) (z : Zone) (d : Dev) : Dev :=
  (List.range k).foldl (fun d j =>
    let o := 64 * s + j
    match heldAt zi o d with
    | some b => let r := readBlk b d; paritySum zi o (r.2.getD (List.replicate 4096 0) ++ b.md) r.1
    | none =>
      if fillerAt zi z o d then paritySum zi o (List.replicate 4112 0) d
      else pushZone z.arm .parityRead zi z o (o + 1) d) (putParity key (some (Parity.start s)) d)

/-- The zone engine rebuilds the running parity of a zone's incomplete stripe (R209). -/
def parityRebuild (zi : Nat) (z : Zone) (d : Dev) : Dev :=
  if !z.par || z.wp % 62 = 0 then d else stripeSum zi (z.wp / 62) (z.wp % 62) zi z d

/-- The parity of the complete stripes of a zone that is not verified is formed again after a replay (R208, R381). -/
def stripesRebuild (zi : Nat) (z : Zone) (d : Dev) : Dev :=
  if !z.par then d
  else (List.range (offsWritten zi z d / 64 - z.verif / 64)).foldl (fun d k =>
    let s := z.verif / 64 + k
    stripeSum zi s 62 (stripeKey zi s) z d) d

/-- The last stripe of a zone finished after `b` blocks is completed (R209): its unwritten data positions are written with zero
content, and its parity sectors follow. `z` is the finished zone. -/
def stripeFill (zi b : Nat) (z : Zone) (d : Dev) : Dev :=
  let k := b % 62
  let s := b / 62
  if !z.par || k = 0 then d
  else
    let d := pushZone z.arm .hostWrite zi z (64 * s + k) (64 * s + 62) d
    let p := (Store.get none zi d.zon.parity).getD (Parity.start s)
    parityForm zi zi (putParity zi (some { p with count := p.count + (62 - k) }) d)

/-! ## Zone actions -/

/-- A scan of zone `zi` ends after the present sector (R214, R216): its work leaves the hand; SCAN_END reports it. -/
def scanStop (zi : Nat) (d : Dev) : Dev :=
  each 4 (fun n d => setHand n ((hand n d).filter (fun w => !(w.kind == .scanRead && w.zrec == zi))) d) d

/-- The namespace seals its blocks: it has a valid binding with MODE 1 (R306, R315). -/
def nsSealed (ns : Nat) (d : Dev) : Bool := nsValid ns && isSet (CRY_NSBIND_VALID ns) d && isSet (CRY_NSBIND_MODE ns) d

/-- The generation of a zone of a sealed namespace rises at its reset; an exhausted zone stays exhausted (R310, R311). -/
def genNext (zi : Nat) (z : Zone) (d : Dev) : Dev :=
  if nsSealed z.ns d && isSet CRY_GENBASE_ADDR d then
    let g := genGet zi d
    memWrite (genAddr zi d) (leBytes (min 0xFFFFFFFF (g.2 + 1)) 4) none g.1
  else d

/-- The read cache drops the blocks of a zone below WP (R253). -/
def zoneUncache (zi : Nat) (z : Zone) (d : Dev) : Dev :=
  if rcOn d then each z.wp (fun b d => rcDrop z.ns ((zi - (nsEntry z.ns d).first) * 65536 + b) d) d else d

/-- What is still to be written or summed of a zone whose accepted writes are verified, its parity and filler, is dropped with it. -/
def zoneDrop (zi : Nat) (d : Dev) : Dev :=
  let d := each 4 (fun n d => setHand n ((hand n d).filter (fun w =>
    !(w.zrec == zi && (w.kind == .hostWrite || w.kind == .replayWrite || w.kind == .parityRead)))) d) d
  { d with zon := { d.zon with
    passed := Store.put [] zi [] d.zon.passed, wofs := Store.put 0 zi 0 d.zon.wofs, short := Store.put 0 zi 0 d.zon.short,
    parHeld := d.zon.parHeld.filter (fun p => p.zi != zi),
    parity := (List.range 1024).foldl (fun m s => Store.put none (stripeKey zi s) none m) d.zon.parity } }

/-- Zone Reset takes effect (R199, R310). -/
def zoneResetNow (zi : Nat) (z : Zone) (d : Dev) : Dev :=
  let d := zoneDrop zi (genNext zi z (zoneUncache zi z (scanStop zi d)))
  dropCtx zi (zonePut zi { z with state := zEmpty, par := false, wp := 0, verif := 0, slips := 0, zfc := false, rzr := false } 0 d)

/-- The parity setting of a namespace, which a zone takes when it leaves Empty (R200). -/
def nsPar (ns : Nat) (d : Dev) : Bool := (nsEntry ns d).par

/-- A zone is finished by command or by the device (R199, R203, R209). -/
def zoneFinishNow (zi : Nat) (z : Zone) (zfc : Bool) (d : Dev) : Dev :=
  let z := if z.state = zEmpty then { z with par := nsPar z.ns d } else z
  let b := z.wp
  let d := setShort zi (if b < z.cap then b + 1 else 0) d
  let z := { z with state := zFull, wp := z.cap, zfc := z.zfc || zfc }
  let d := stripeFill zi b z d
  let d := if zfc then scanStop zi d else d
  let d := zonePut zi z 0 d
  if (Store.get none zi d.zon.parity).isSome then
    ctxCount { d with zon := { d.zon with ctx := d.zon.ctx.erase zi } }
  else dropCtx zi d

/-- The zone is relocating, or a relocation of it waits. -/
def relocating (zi : Nat) (d : Dev) : Bool := d.zon.cur.any (fun c => c.zi == zi)

/-- Accepted blocks of the zone are still to be verified. -/
def zoneUnverified (zi : Nat) (d : Dev) : Bool :=
  d.deal.blks.any (fun b => b.accepted && b.zone.any (fun q => q.1 == zi))

/-- An action of zone `zi` that waits cannot take effect yet: code 4 is a reset, which waits for a relocation and for verification, code
2 a finish, which waits for a relocation (R199, R216). -/
def actWaits (zi code : Nat) (d : Dev) : Bool := relocating zi d || (code == 4 && zoneUnverified zi d)

/-- Actions of the zone that waited take effect in order (R199): one that cannot yet holds back those behind it. -/
def zoneSettle (zi : Nat) (d : Dev) : Dev :=
  (d.zon.waits.foldl (fun (st : Dev × Bool) w =>
    if w.1 ≠ zi ∨ st.2 = true then st
    else if actWaits zi w.2 st.1 then (st.1, true)
    else
      let g := zoneGet zi st.1
      let d := { g.1 with zon := { g.1.zon with waits := g.1.zon.waits.erase w } }
      (if w.2 = 4 then zoneResetNow zi g.2 d else zoneFinishNow zi g.2 false d, false)) (d, false)).1

/-- The stripe has its two parity sectors (R210): its last data position has been accepted, or a finish has filled it. -/
def stripeComplete (zi : Nat) (z : Zone) (st : Nat) (d : Dev) : Bool :=
  z.par && decide (64 * st + 64 ≤ offsWritten zi z d)

/-- Active and open zones of a namespace (R196). -/
def zoneCounts (ns : Nat) (d : Dev) : Dev × Nat × Nat :=
  let e := nsEntry ns d
  (List.range e.nzones).foldl (fun (st : Dev × Nat × Nat) k =>
    let g := zoneGet (e.first + k) st.1
    (g.1, st.2.1 + b2n g.2.active, st.2.2 + b2n g.2.isOpen)) (d, 0, 0)

/-- Whether a zone may become open, and active if it is not: a status of R196, 0 if it may. -/
def openStatus (zi : Nat) (z : Zone) (d : Dev) : Dev × Nat :=
  let e := nsEntry z.ns d
  let c := zoneCounts z.ns d
  let st :=
    if !z.active && (decide (e.mar ≤ c.2.1) || (decide (4096 ≤ d.zon.ctx.length) && !d.zon.ctx.contains zi)) then stManyActive
    else if !z.isOpen && decide (e.mor ≤ c.2.2) then stManyOpen
    else 0
  (c.1, st)

end Sys2Proof.Machine
end

