-- ==== Sys2Proof/Machine/Media.lean ====
section
/-!
DEFINITION. Machine/Media.lean: what a sector that has been read, written or lost means to the work item it belongs to
(R80, R93, R109, R110, R197, R204, R214): delivery to a command, verification of zone offsets and release of copies,
slip-list entries, unrecoverable sectors.
-/
namespace Sys2Proof.Machine

/-- The band that holds the first track of a zone's physical zone. -/
def zoneBand (z : Zone) (d : Dev) : Option Band := bandOf z.arm z.head z.track d

/-- Track and sector of physical position `p` of a zone (R202). -/
def placeOf (z : Zone) (p : Nat) (d : Dev) : Nat × Nat :=
  match zoneBand z d with
  | some b => (z.track + p / max 1 b.spt, p % max 1 b.spt)
  | none => (z.track, p)

/-- Head, track and sector of place `k` of a work item (R202): in the zone of its record, for the writes of a relocation in the fresh
zone (R204), else from the place the item names. -/
def sectorPlace (n : Nat) (w : Work) (k : Nat) (d : Dev) : Nat × Nat × Nat :=
  if w.zrec = noRec then
    let p := w.sector + k
    match bandOf n w.head w.track d with
    | some b => (w.head, w.track + p / max 1 b.spt, p % max 1 b.spt)
    | none => (w.head, w.track, p)
  else
    let g := zoneGet w.zrec d
    let move := if w.kind = .relocWrite then d.zon.cur.filter (fun c => c.zi == w.zrec) else none
    let z := match move with
      | some c => (zoneGet c.spare d).2
      | none => g.2
    let l := match move with
      | some c => c.slips.map (fun e => (bits e 0 16, bits e 16 17))
      | none => (slipList w.zrec z.slips g.1).2
    if z.arm = n then (z.head, placeOf z (slipPos l (ofsAt w k)) d) else (w.head, w.track, w.sector)

/-- The fragments of a place on an arm (R66). -/
def placeFrags (n : Nat) (p : Nat × Nat × Nat) (d : Dev) : List Frag :=
  match bandOf n p.1 p.2.1 d with
  | some b => sectorFrags b.bpw16 b.skew p.2.1 p.2.2
  | none => []

/-- Namespace index and LBA that the rung-11 record names (R418): all ones where the sector holds no logical block. -/
def namedBlock (w : Work) (k : Nat) (z : Zone) (d : Dev) : Nat × Nat :=
  if w.zrec = noRec then (w.ns, w.lba + k)
  else if z.spare || z.vault || !nsValid z.ns then (0xFF, 2 ^ 64 - 1)
  else
    match lbaOfOfs w.zrec z (ofsAt w k) d with
    | some l => (z.ns, l)
    | none => (0xFF, 2 ^ 64 - 1)

/-- A work item whose sectors have all ended leaves its hand. -/
def workEnd (n id : Nat) (d : Dev) : Dev :=
  match work n id d with
  | none => d
  | some w =>
    let a := arm n d
    let busy := a.ladder.any (fun s => s.work == id) || a.raws.any (fun r => r.work == id)
      || a.rewrites.any (fun r => r.work == id) || a.burst == some id || a.flights.any (fun c => c.work == id)
    if decide (w.done < w.len + w.ahead) || !w.redo.isEmpty || busy then d else dropWork n id d

/-! ## Verification -/

/-- VERIF after the offsets of `ps` have passed as well (R197). -/
def verifUp : Nat → List Nat → Nat → Nat
  | 0, _, v => v
  | n + 1, ps, v => if ps.contains v then verifUp n ps (v + 1) else v

/-- Offset `o` of zone `zi` has passed read-after-write (R197): VERIF rises over every offset that has passed, and the
copies below it are released (R373); parity sectors held for a stripe below it are dropped (R210). -/
def zonePassed (zi o : Nat) (d : Dev) : Dev :=
  let p := zoneGet zi d
  let z := p.2
  let d := p.1
  let ps := o :: Store.get [] zi d.zon.passed
  let v := verifUp ps.length ps z.verif
  let d := { d with zon := { d.zon with
    passed := Store.put [] zi (ps.filter (fun x => decide (v ≤ x))) d.zon.passed
    parHeld := d.zon.parHeld.filter (fun h => !(h.zi == zi && decide (64 * h.stripe + 64 ≤ v))) } }
  if v = z.verif then d
  else zoneSettle zi (releaseBlks (fun b => b.zone.any (fun q => q.1 == zi && decide (q.2 < v))) (putVerif zi v z d))

/-! ## Slip lists -/

/-- A needed slip entry finds all 64 entries used (R203): one error of the ZON class, whose lasting action retires the
zone's head (R215), and the zone is relocated. -/
def slipExhausted (zi : Nat) (z : Zone) (d : Dev) : Dev :=
  relocQueue zi (errClass pgZon (fun d => raise pgZon 12 (retireHead z.arm z.head d)) d)

/-- Enter the rewrite of zone offset `o` in the zone's slip list (R110, R201). The answer says whether it was entered. -/
def slipAdd (zi o cause : Nat) (d : Dev) : Dev × Bool :=
  let p := zoneGet zi d
  let z := p.2
  if 64 ≤ z.slips then (slipExhausted zi z p.1, false)
  else
    let l := slipList zi z.slips p.1
    let d := l.1
    let e := slipWord o (slipPos l.2 (nextOfs zi z d)) cause
    let d := memWrite (slipAddr zi z.slips d) (leBytes e 8) none d
    let d := zonePut zi { z with slips := z.slips + 1 } e d
    (raise pgZon 0 (bumpEv pgZon ZON_CNT0_SLIPS 14 1 d), true)

/-- Enter the rewrite of an offset that a relocation has written in the fresh slip list (R204). -/
def relocSlip (o cause next : Nat) (d : Dev) : Dev :=
  match d.zon.cur with
  | none => d
  | some c =>
    let l := c.slips.map (fun e => (bits e 0 16, bits e 16 17))
    let e := slipWord o (slipPos l next) cause
    { d with zon := { d.zon with cur := some { c with slips := c.slips ++ [e] } } }

/-! ## Delivery and loss -/

/-- A delivered block goes into the read cache (R253): one read ahead not where a held copy or a media-cache run is the newer copy of it.
DEDUCED, notes/assumptions/123. -/
def fillsCache (w : Work) (k : Nat) (d : Dev) : Dev × Bool :=
  if k < w.len then (d, true)
  else if (heldBlk w.ns (w.lba + k) d).isSome then (d, false)
  else if w.zrec = noRec then (d, true)
  else
    let g := zoneGet w.zrec d
    if g.2.conv then
      let m := mcFind w.ns (w.lba + k) g.1
      (m.1, m.2.isNone)
    else (g.1, true)

/-- A sector of a work item is delivered at rung `r` with the 4,620 bytes of its codeword (R80, R93). -/
def deliverSector (n : Nat) (w : Work) (k r : Nat) (word : List Nat) (d : Dev) : Dev :=
  let user := word.take 4096
  let md := (word.drop 4096).take 16
  let d := countArm n (fun x => { x with read := x.read + 1 }) d
  match w.kind with
  | .hostRead =>
    let f := fillsCache w k d
    let d := if f.2 then rcFill w.ns (w.lba + k) user md f.1 else f.1
    match w.ctx with
    | some i => if k < w.len then giveBlock i (w.lba + k) user md 0 d else d
    | none => d
  | .relocRead =>
    match d.zon.cur with
    | some c => { d with zon := { d.zon with cur := some { c with buf := Store.put [] (ofsAt w k) (word.take 4112) c.buf } } }
    | none => d
  | .scanRead => if rd (ZON_SCAN_RUNGTHR n) d ≤ r then report w.zrec (ofsAt w k) 0x01 r 0 d else d
  | .parityRead => paritySum w.zrec (ofsAt w k) (word.take 4112) d
  | _ => d

/-- A sector of a work item is unrecoverable (R93, R204, R214): its command ends, a relocation copies zeros with the
reference tag inverted, and the zone engine reports it. `seq` is the sequence number of the log record. -/
def sectorLost (n : Nat) (w : Work) (k rung seq : Nat) (d : Dev) : Dev :=
  let d := countArm n (fun x => { x with unrec := add32 x.unrec 1 }) d
  let d := if w.zrec = noRec then d else report w.zrec (ofsAt w k) 0x03 rung seq d
  match w.kind with
  | .hostRead =>
    match w.ctx with
    | some i => if k < w.len then endCmd i stUnrec d else d
    | none => d
  | .relocRead =>
    match d.zon.cur with
    | some c =>
      let s := List.replicate 4096 0 ++ [0, 0, 0, 0] ++ leBytes (2 ^ 32 - 1 - tagAt w k % 2 ^ 32) 4 ++ List.replicate 8 0
      { d with zon := { d.zon with cur := some { c with buf := Store.put [] (ofsAt w k) s c.buf } } }
    | none => d
  | .parityRead => paritySum w.zrec (ofsAt w k) (List.replicate 4112 0) d
  | _ => d

/-- The data of place `k` of a write work item: 4,096 bytes of ciphertext and the 16 metadata bytes (R97). -/
def writeData (w : Work) (k : Nat) (d : Dev) : Dev × List Nat :=
  let o := ofsAt w k
  let none' := List.replicate 4112 0
  let fromBlk := fun (b : Option Blk) (d : Dev) =>
    match b with
    | some b => let r := readBlk b d; (r.1, (r.2.getD (List.replicate 4096 0)) ++ b.md)
    | none => (d, none')
  match w.kind with
  | .relocWrite =>
    match d.zon.cur with
    | some c =>
      let s := Store.get [] o c.buf
      if s.isEmpty then
        match if w.parity && decide (62 ≤ o % 64) then heldParity w.zrec (o / 64) d else none with
        | some p => (d, if o % 64 = 62 then p.p62 else p.p63)
        | none => fromBlk (heldAt w.zrec o d) d
      else (d, s)
    | none => (d, none')
  | .vaultWrite =>
    match areaOfRec w.zrec d with
    | some a => (d, vaultSector a (vaultPos a w k d) d)
    | none => (d, none')
  | _ =>
    if w.zrec = noRec then fromBlk (heldBlk w.ns (w.lba + k) d) d
    else if w.parity && decide (62 ≤ o % 64) then
      match heldParity w.zrec (o / 64) d with
      | some p => (d, if o % 64 = 62 then p.p62 else p.p63)
      | none => (d, none')
    else fromBlk (heldAt w.zrec o d) d

/-- A written sector has passed read-after-write (R109): VERIF of its zone follows, or the conventional block's copies
are released (R373). Sectors of a relocation or of the vault release nothing. -/
def sectorPassed (w : Work) (k : Nat) (d : Dev) : Dev :=
  match w.kind with
  | .hostWrite | .replayWrite =>
    if w.zrec = noRec then
      if d.zon.mcHeld.any (fun h => h.ns == w.ns && h.lba == w.lba + k) then d
      else
        match heldBlk w.ns (w.lba + k) d with
        | some b => releaseBlks (fun x => x == b) d
        | none => d
    else zonePassed w.zrec (ofsAt w k) d
  | .vaultWrite => vaultPassed w d
  | _ => d

end Sys2Proof.Machine
end

