-- ==== Sys2Proof/Machine/Detect.lean ====
section
/-!
DEFINITION. Machine/Detect.lean: what a channel makes of the samples of a sector with one parameter set: the layout of a set (R82),
equalisation (R76), the 16-state detector (R77) and the min-sum decoder (R79).
-/
namespace Sys2Proof.Machine

/-! ## Words of a set (R82) -/

/-- Coefficient `j` of three-coefficient words that start at word `w`: a 10-bit signed code of value code / 256. -/
def setCoef (set : List Nat) (w j : Nat) : Int := signed 10 (bits (set.getD (w + j / 3) 0) (10 * (j % 3)) 10)

/-- Taps of the equaliser, target, predictor taps and noise variance (code / 64) of reader `r` (0 LDR, 1 TRR). -/
def setTaps (set : List Nat) (r : Nat) : List Int := (List.range 24).map (setCoef set (8 * r))
def setTarget (set : List Nat) (r : Nat) : Int × Int × Int := (setCoef set (16 + r) 0, setCoef set (16 + r) 1, setCoef set (16 + r) 2)
def setPred (set : List Nat) (r cond : Nat) : Int × Int := (setCoef set 18 (4 * cond + 2 * r), setCoef set 18 (4 * cond + 2 * r + 1))
def setVar (set : List Nat) (r cond : Nat) : Nat := bits (set.getD (29 + 2 * r + cond / 4) 0) (8 * (cond % 4)) 8

/-- CTE boost and cutoff codes, initial gains, LLR scale and DSKEW (integer bits and 1/64 bit). -/
def setBoost (set : List Nat) (r : Nat) : Nat := bits (set.getD 33 0) (6 * r) 6
def setCut (set : List Nat) (r : Nat) : Nat := bits (set.getD 33 0) (12 + 6 * r) 6
def setGain (set : List Nat) (r : Nat) : Nat := bits (set.getD 34 0) (8 * r) 8
def setScale (set : List Nat) : Nat := bits (set.getD 34 0) 16 8
def setSkew (set : List Nat) : Nat × Nat := (bits (set.getD 35 0) 0 7, bits (set.getD 35 0) 7 6)

/-- The CTE cutoff in kHz (R74): f_c = f_bit · (16 + CUT) / 128. -/
def cteCutoff (fbit cut : Nat) : Nat := fbit * (16 + cut) / 128

/-! ## Samples -/

/-- Samples held before the first bit of a sector, which the longest DSKEW delays into it. -/
def leadSamples : Nat := 128

/-- Samples that R73's buffer takes for one sector of one reader, with the lead. -/
def sampleSpan : Nat := leadSamples + sectorSpan

/-- The output holds one code for `lim` samples in a row somewhere; `run` samples of code `c` have gone before. -/
def stuckRun (lim : Nat) : Int → Nat → List Int → Bool
  | _, run, [] => decide (lim ≤ run)
  | c, run, x :: xs => decide (lim ≤ run) || (if x = c then stuckRun lim c (run + 1) xs else stuckRun lim x 1 xs)

/-- The two interleaved sub-ADCs: every other sample. -/
def evens : List Int → List Int
  | [] => []
  | [x] => [x]
  | x :: _ :: xs => x :: evens xs

/-- An ADC is judged failed for a sector (R88): one code for 256 samples while the other reader's output varies, sub-ADC means more
than 8 LSB apart, or an input reported open. -/
def adcFailed (own other : List Int) (isOpen : Bool) : Bool :=
  let varies := match other with
    | [] => false
    | x :: xs => xs.any (fun y => y != x)
  let a := evens own
  let b := evens (own.drop 1)
  isOpen || (varies && stuckRun 256 (own.headD 0) 0 own)
    || decide (8 * ((a.length * b.length : Nat) : Int) < ((a.sum * b.length - b.sum * a.length).natAbs : Int))

/-! ## Equalisers (R76) -/

/-- A stream delayed by `k` bits and `f` / 64 bit, in 1/64 LSB. The spec gives no interpolation: the value at a fraction is a free value
of the fraction and the two samples around it (notes/assumptions/107). -/
def delayed (k f : Nat) (xs : List Int) : List Int :=
  let ys := List.replicate k 0 ++ xs
  if f = 0 then (ys.map (fun y => 64 * y)).take xs.length
  else (List.zipWith (Config.skewInterp f) (0 :: ys) ys).take xs.length

/-- A 24-tap FIR equaliser: tap `i` takes the sample `i` bits back (notes/assumptions/107). -/
def fir (taps : List Int) : List Int → List Int → List Int
  | _, [] => []
  | win, x :: xs =>
    let w := x :: win.take 23
    (List.zipWith (fun a b => a * b) taps w).sum :: fir taps w xs

/-- The equalised stream of reader `r`, in 1/2^14 LSB. -/
def equalised (set : List Nat) (r : Nat) (xs : List Int) : List Int :=
  let k := if r = 0 then setSkew set else (0, 0)
  fir (setTaps set r) [] (delayed k.1 k.2 xs)

/-- The part of a sector's stream that the detector looks at when the sector is tried `o` bits from its prediction: two bits before the
codeword, and the codeword. A fragment after the split is taken at its own predicted start (R68); `split` bits come before it. -/
def codeSpan (split : Nat) (o : Int) (ys : List Int) : List Int :=
  let from' := preambleBits + syncBits - 2
  let n := min (codeBits + 2) (split - from')
  (ys.drop ((leadSamples + from' : Nat) + o).toNat).take n ++ (ys.drop (leadSamples + max from' split)).take (codeBits + 2 - n)

/-! ## Detector (R77) -/

/-- The level of bit `j` of a branch: 1 is the positive level (R97). -/
def level (w j : Nat) : Int := if w.testBit j then 1 else -1

/-- The noise sample `j` bits back on branch `w` (bit 0 the newest of five): the equaliser output less its target, in 1/2^14. -/
def noise (g : Int × Int × Int) (w j : Nat) (y : Int) : Int :=
  y - 64 * (g.1 * level w j + g.2.1 * level w (j + 1) + g.2.2 * level w (j + 2))

/-- One reader's metric of a branch, times 2^44 and the common multiple `m` of the variances: the noise sample less its prediction from
the two before it, squared and divided by the variance of the condition, the three newest bits. -/
def readerMetric (set : List Nat) (m r w : Nat) (y : Int × Int × Int) : Int :=
  let c := w % 8
  let g := setTarget set r
  let p := setPred set r c
  let e := 256 * noise g w 0 y.1 - p.1 * noise g w 1 y.2.1 - p.2 * noise g w 2 y.2.2
  let v := setVar set r c
  if v = 0 then Config.zeroVariance e else 64 * e * e * (m / v : Nat)

/-- One reader's 32 branch metrics of every bit. -/
def readerBranches (set : List Nat) (m r : Nat) (ts : List (Int × Int × Int)) : List (List Int) :=
  ts.map (fun y => (List.range 32).map (fun w => readerMetric set m r w y))

/-- The branch metrics: the sum over the readers in use. -/
def branches : List (List (List Int)) → List (List Int)
  | [] => []
  | [x] => x
  | x :: xs => List.zipWith (List.zipWith (fun a b => a + b)) x (branches xs)

/-- Three samples in a row of a stream: the newest and the two before it. -/
def triples : List Int → List (Int × Int × Int)
  | a :: b :: c :: xs => (c, b, a) :: triples (b :: c :: xs)
  | _ => []

/-- The smaller of two path metrics; none: no path. -/
def pathMin : Option Int → Option Int → Option Int
  | none, x => x
  | x, none => x
  | some x, some y => some (min x y)

def pathAdd (g : Int) (x : Option Int) : Option Int := x.map (fun v => v + g)

/-- The path metrics of the 16 states (the four newest bits) after a bit, and before it. -/
def forward (g : List Int) (al : List (Option Int)) : List (Option Int) :=
  (List.range 16).map (fun s =>
    pathMin (pathAdd (g.getD s 0) (al.getD (s / 2) none)) (pathAdd (g.getD (s + 16) 0) (al.getD ((s + 16) / 2) none)))
def backward (g : List Int) (be : List (Option Int)) : List (Option Int) :=
  (List.range 16).map (fun s =>
    pathMin (pathAdd (g.getD (2 * s) 0) (be.getD (2 * s % 16) none)) (pathAdd (g.getD (2 * s + 1) 0) (be.getD ((2 * s + 1) % 16) none)))

/-- The best path through a bit of value `b`. -/
def through (g : List Int) (al be : List (Option Int)) (b : Nat) : Option Int :=
  (List.range 16).foldl (fun x s =>
    pathMin x (match al.getD s none, be.getD ((2 * s + b) % 16) none with
      | some u, some v => some (u + g.getD (2 * s + b) 0 + v)
      | _, _ => none)) none

/-- The max-log differences of a row of bits: best path with the bit 1 less best path with it 0, and the path metrics that the row
leaves before it. -/
def maxLog : List (Option Int) → List (List Int) → List Int × List (Option Int)
  | _, [] => ([], List.replicate 16 (some 0))
  | al, g :: gs =>
    let r := maxLog (forward g al) gs
    (((through g al r.2 1).getD 0 - (through g al r.2 0).getD 0) :: r.1, backward g r.2)

/-- The state before the codeword: the last four bits of the sync mark, newest in bit 0. -/
def syncState : Nat := 6

/-- The 6-bit LLRs of a codeword's bits (R77): positive for a 0. Exact arithmetic, rounded down and limited once, at the end (DESIGN
CHOICE, notes/assumptions/107). -/
def detect (set : List Nat) (rs : List Nat) (ys : List (List Int)) : List Int :=
  let m := (rs.flatMap (fun r => (List.range 8).map (setVar set r))).foldl (fun m v => if v = 0 then m else Nat.lcm m v) 1
  let gs := branches (List.zipWith (fun r y => readerBranches set m r (triples y)) rs ys)
  let al := (List.range 16).map (fun s => if s = syncState then some (0 : Int) else none)
  (maxLog al gs).1.map (fun x => max (-31) (min 31 (x * setScale set / ((m * 2 ^ 44 : Nat) : Int))))

/-! ## Decoder (R79) -/

/-- The circulants of block-row `p` (R78): block-column and shift. -/
def rowEdges (p : Nat) : List (Nat × Nat) :=
  (List.range 9).flatMap (fun g => (List.range 4).filterMap (fun k =>
    let j := 127 * g + (p + 126 * (k * (g + 1))) % 127
    if j < 1028 then some (j, (7 * (k + 1) * j + 13 * k) % 32) else none))
  ++ (if p = 0 then [(1028, 0)] else [(1027 + p, 0), (1028 + p, 0)])

/-- A block of values turned by a circulant's shift, and back. -/
def turn (s : Nat) (xs : List Int) : List Int := xs.drop s ++ xs.take s
def unturn (s : Nat) (xs : List Int) : List Int := turn (32 - s) xs

/-- Sign (negative) and magnitude of a message; two combined. -/
def signMag (x : Int) : Bool × Nat := (decide (x < 0), x.natAbs)
def checkPair (x y : Bool × Nat) : Bool × Nat := (x.1 != y.1, min x.2 y.2)

/-- What each edge's checks get from all other edges: exclusive combinations, with those of all edges that follow `pre`. -/
def others : List (Bool × Nat) → List (List (Bool × Nat)) → List (List (Bool × Nat)) × List (Bool × Nat)
  | _, [] => ([], List.replicate 32 (false, 255))
  | pre, e :: es =>
    let r := others (List.zipWith checkPair pre e) es
    (List.zipWith checkPair pre r.2 :: r.1, List.zipWith checkPair e r.2)

/-- A check's answer: normalised by (8 + ALPHA) / 16, rounded down, in 6 bits. -/
def checkAnswer (alpha : Nat) (x : Bool × Nat) : Int :=
  let m : Int := min 31 (x.2 * (8 + alpha) / 16 : Nat)
  if x.1 then -m else m

/-- One layer: the values of the blocks of a block-row less the row's old answers go in, its new answers come out. -/
def layer (alpha p : Nat) (old : List (List Int)) (vals : List (List Int)) : List (List Int) × List (List Int) :=
  let es := rowEdges p
  let q := es.zipIdx.map (fun e => List.zipWith (fun a b => a - b) (turn e.1.2 (vals.getD e.1.1 [])) (old.getD e.2 (List.replicate 32 0)))
  let new := ((others (List.replicate 32 (false, 255)) (q.map (fun l => l.map signMag))).1).map (fun l => l.map (checkAnswer alpha))
  (new, ((es.zip (List.zipWith (fun a b => List.zipWith (fun x y => x + y) a b) q new))).foldl
    (fun vs e => vs.set e.1.1 (unturn e.1.2 e.2)) vals)

/-- One iteration: a pass over the 127 layers. The answers held are by block-row. -/
def iteration (alpha : Nat) (st : List (List (List Int)) × List (List Int)) : List (List (List Int)) × List (List Int) :=
  (List.range 127).foldl (fun st p =>
    let r := layer alpha p (st.1.getD p []) st.2
    (st.1.set p r.1, r.2)) st

/-- The hard decisions of a block of values, bit t of the number being position t: 1 for a negative value. -/
def hardBlock (xs : List Int) : Nat := (xs.zipIdx.map (fun p => if p.1 < 0 then 2 ^ p.2 else 0)).sum
def hardWord (vals : List (List Int)) : List Nat := ldpcBytes ((List.range 1155).map (fun j => hardBlock (vals.getD j [])))

/-- Up to `lim` iterations, stopping at the first zero syndrome where ETERM is set: the hard decisions, whether their syndrome is zero,
and the iterations used. -/
def iterate (alpha : Nat) (eterm : Bool) : Nat → Nat → List (List (List Int)) × List (List Int) → List Nat × Bool × Nat
  | 0, used, st => let w := hardWord st.2; (w, ldpcOk w, used)
  | lim + 1, used, st =>
    let st := iteration alpha st
    if eterm && ldpcOk (hardWord st.2) then (hardWord st.2, true, used + 1) else iterate alpha eterm lim (used + 1) st

/-- Values in blocks of 32. -/
def blocks32 : Nat → List Int → List (List Int)
  | 0, _ => []
  | n + 1, xs => xs.take 32 :: blocks32 n (xs.drop 32)

/-- The decode of a codeword's LLRs (R79), clipped to `clip` first. -/
def decodeLlr (alpha clip : Nat) (eterm : Bool) (lim : Nat) (llrs : List Int) : List Nat × Bool × Nat :=
  iterate alpha eterm lim 0
    (List.replicate 127 [], blocks32 1155 (llrs.map (fun x => max (-(clip : Int)) (min clip x))))

/-- The equaliser outputs of a sector's codeword for the readers `rs` of a set. -/
def codeStreams (set : List Nat) (rs : List Nat) (split : Nat) (o : Int) (l t : List Int) : List (List Int) :=
  rs.map (fun r => codeSpan split o (equalised set r (if r = 0 then l else t)))

/-- How the mean absolute output of an equaliser compares with the sum of the absolute target coefficients (R75): positive, too large. -/
def gainError (set : List Nat) (r : Nat) (ys : List Int) : Int :=
  let g := setTarget set r
  (ys.map (fun y => (y.natAbs : Int))).sum - 64 * ((g.1.natAbs + g.2.1.natAbs + g.2.2.natAbs : Nat) : Int) * ys.length

end Sys2Proof.Machine
end

