-- ==== Sys2Proof/Machine/ChanSel.lean ====
section
/-!
DEFINITION. Machine/ChanSel.lean: which channel of an arm serves its sectors, which readers are in use, which
parameter set the channels select, and what the front ends and the write path take from the slot in use (R57, R72, R74, R75, R81, R84, R88,
R99).
-/
namespace Sys2Proof.Machine

/-- The LDR and the TRR are in use (R57, R88). -/
def ldrUse (n : Nat) (d : Dev) : Bool := isSet (RCH_AFECTL_LDREN n) d && !(arm n d).ldrBad
def trrUse (n : Nat) (d : Dev) : Bool := isSet (RCH_AFECTL_TRREN n) d && !(arm n d).trrBad

/-- Modes of R84. -/
def chOff : Nat := 0
def chLive : Nat := 1
def chShadow : Nat := 2
def chAdapt : Nat := 3
def chSelftest : Nat := 4
def chFailed : Nat := 5

/-- Mode of channel `c` of arm `n`: 0 channel A, 1 the joker. -/
def chMode (n c : Nat) (d : Dev) : Nat := rd (RCH_MODE_MODE n c) d
def setMode (n c m : Nat) (d : Dev) : Dev := wr (RCH_MODE_MODE n c) m d

/-- The channel that is live, if any; the one that sectors in flight belong to: the live one, or with none the one taking over at
the next boundary (R85, R86). -/
def liveCh (n : Nat) (d : Dev) : Option Nat := (List.range 2).find? (fun c => chMode n c d == chLive)
def serveCh (n : Nat) (d : Dev) : Option Nat :=
  match liveCh n d with
  | some c => some c
  | none => (arm n d).takeover

/-- The page whose counters and events describe the arm's reads: of the serving channel, or of the one live last (R86). -/
def servePage (n : Nat) (d : Dev) : Nat := (serveCh n d).getD (arm n d).liveLast

/-- The readers that the channels detect on since the last sector boundary (R88): RCH_MODE.RDR. -/
def rdrs (n : Nat) (d : Dev) : List Nat :=
  match rd (RCH_MODE_RDR n 0) d with
  | 0 => [0, 1] | 1 => [0] | 2 => [1] | _ => []

/-- The sets of channel `c`: word `w` of set (variant, slot) is at 64·(64·variant + slot) + w (R81). -/
def setMem (n c : Nat) (d : Dev) : Store Nat := if c = 0 then (arm n d).sets else (arm n d).setsJ
def setKey (variant slot : Nat) : Nat := 64 * (64 * variant + slot)

/-- The 64 words of a set of channel `c`. -/
def setWords (n c variant slot : Nat) (d : Dev) : List Nat := Store.gets (fun _ => 0) (setKey variant slot) 64 (setMem n c d)

/-- The set that the serving channel has selected, and the variant that decodes outside the ladder use (R81, R88). -/
def selWords (n : Nat) (d : Dev) : List Nat :=
  let c := servePage n d
  setWords n c (rd (RCH_MODE_VARIANT n c) d) (rd (RCH_MODE_SLOT n c) d) d
def plainVariant (n : Nat) (d : Dev) : Nat := if (rdrs n d).length = 2 then 0 else 2

/-- The front ends follow the selected set of the live channel and f_bit (R72, R74). -/
def feFollow (n : Nat) (d : Dev) : Dev :=
  let s := selWords n d
  let f := rd (ARM_LSFREQ_FBIT n) d
  onArm n (fun a => { a with fe :=
    { boost := (setBoost s 0, setBoost s 1), cut := (setCut s 0, setCut s 1),
      fc := (cteCutoff f (setCut s 0), cteCutoff f (setCut s 1)) } }) d

/-- A set is selected: both gains are loaded from it (R75), and the front ends follow it. -/
def loadGain (n : Nat) (d : Dev) : Dev :=
  let s := selWords n d
  feFollow n (onArm n (fun a => { a with gainNext := none })
    (wrs [(RCH_AFESTAT_GAINL n, setGain s 0), (RCH_AFESTAT_GAINT n, setGain s 1)] d))

/-- The slot of a head and track (R81), and that of the selected head and present track. -/
def slotAt (n h t : Nat) (d : Dev) : Nat := 8 * h + ((bandOf n h t d).map (fun b => b.idx / 8)).getD 0
def slotOf (n : Nat) (d : Dev) : Nat := slotAt n (selHead n d) (rd (SRV_TRACK_TRACK n) d) d

/-- The variant in use (R81): B for an attempt of rung 6, C for one of rung 7 or in single-reader detection, else A. -/
def variantNow (n : Nat) (d : Dev) : Nat :=
  match (arm n d).ladder with
  | s :: _ => if s.rung = 6 then 1 else if s.rung = 7 then 2 else plainVariant n d
  | [] => plainVariant n d

/-- Precompensation codes and TRRLAG of the slot in use come into force (R99). -/
def latchWp (n : Nat) (d : Dev) : Dev :=
  let s := slotOf n d
  onArm n (fun a => { a with
    pc := (rd (WRP_WPA_PC1 n s) d, rd (WRP_WPA_PC2 n s) d, rd (WRP_WPA_PC3 n s) d), lag := rd (WRP_WPB_TRRLAG n s) d }) d

/-- The channels select slot and variant (R81); `always` where a head has been selected. -/
def selectSet (n : Nat) (always : Bool) (d : Dev) : Dev :=
  let s := slotOf n d
  let v := variantNow n d
  if !always && rd (RCH_MODE_SLOT n 0) d == s && rd (RCH_MODE_VARIANT n 0) d == v then d
  else latchWp n (loadGain n (wrs [(RCH_MODE_SLOT n 0, s), (RCH_MODE_SLOT n 1, s), (RCH_MODE_VARIANT n 0, v),
    (RCH_MODE_VARIANT n 1, v)] d))

/-! ## Forced failures (R390, R391) -/

/-- A sector begins its on-the-fly or read-after-write decode on the live channel: while TST_FRCCNTn.LEFT is not 0, the
last of every EVERY + 1 sectors is selected (R391), but none while trump class 1 work runs on the arm (R392). -/
def forceSelect (n : Nat) (x : Nat × Nat) (d : Dev) : Dev :=
  let left := rd (TST_FRCCNT_LEFT n) d
  let p := Store.get 0 n d.tst.passed
  if left = 0 ∨ (hand n d).any (fun w => w.started && w.trump == 1) = true then d
  else if p < rd (TST_FRC_EVERY n) d then
    { d with tst := { d.tst with passed := Store.put 0 n (p + 1) d.tst.passed } }
  else
    let d := { d with tst := { d.tst with
      passed := Store.put 0 n 0 d.tst.passed,
      forced := Store.put [] n (((Store.get [] n d.tst.forced).filter (fun y => (work n y.1 d).isSome)) ++ [x]) d.tst.forced } }
    let d := bumpEv pgTst (TST_FRCCNT_FORCED n) 6 1 (wr (TST_FRCCNT_LEFT n) (left - 1) d)
    when' (left == 1) (raise pgTst 5) d

/-- The sector has been selected for forcing. -/
def isForced (n : Nat) (x : Nat × Nat) (d : Dev) : Bool := (Store.get [] n d.tst.forced).contains x

/-- Attempts of the sector at rung `r` are forced to fail. -/
def forcedAt (n r : Nat) (x : Nat × Nat) (d : Dev) : Bool := isForced n x d && (rd (TST_FRC_RUNGMASK n) d).testBit r

end Sys2Proof.Machine
end

