-- ==== Sys2Proof/Machine/Fix.lean ====
section
/-!
DEFINITION. Machine/Fix.lean: fixed-point arithmetic of the servo and power engines (R128): a quotient whose rounding
the spec leaves open, Q2.30 products, saturation.
-/
namespace Sys2Proof.Machine

/-- A quotient; where it is not exact, whether it is rounded down or up is open (notes/assumptions/16). -/
def rdiv (a b : Int) : Int :=
  if b = 0 then Config.divZero a else a / b + (if a % b = 0 then 0 else ((Config.roundUp a b % 2 : Nat) : Int))

/-- 1.0 in Q2.30 (R128). -/
def q1 : Int := 2 ^ 30

/-- A value held in the Q2.30 range (R128). -/
def qSat (x : Int) : Int := clampInt (-(2 ^ 31)) (2 ^ 31 - 1) x

/-- A sum of products of Q2.30 numbers, in Q2.30, saturated. -/
def qScale (x : Int) : Int := qSat (rdiv x q1)

/-- Product of two Q2.30 numbers. -/
def qMul (a b : Int) : Int := qScale (a * b)

end Sys2Proof.Machine
end

