-- ==== Sys2Proof/Machine/Profile.lean ====
section
/-!
DEFINITION. Machine/Profile.lean: the arithmetic behind the trajectory loop and the injected signals: integer square roots,
jerk-limited profiles (R140, R141) and sine values (R150).

Time is counted in burst-timer LSBs, 96·10^6 to a millisecond. A profile state holds, in exact integers, the position times
6·M³·2^30, the velocity times 2·M²·2^30 and the acceleration times M·2^30, where M = 96·10^6 and the units are tracks and
milliseconds; a jerk is in tracks/ms³.
-/
namespace Sys2Proof.Machine

/-- Burst-timer LSBs in a millisecond (R60). -/
def lsbPerMs : Nat := 96000000

/-- Integer square root, rounded down: bit `k` and the bits below it are found, `r` holding those above. -/
def isqrtFrom (n : Nat) : Nat → Nat → Nat
  | 0, r => r
  | k + 1, r => if (r + 2 ^ k) * (r + 2 ^ k) ≤ n then isqrtFrom n k (r + 2 ^ k) else isqrtFrom n k r

/-- Integer square root, rounded down. -/
def isqrt (n : Nat) : Nat := isqrtFrom n (n.log2 / 2 + 1) 0

/-- A position in 2^-30 track as a profile at rest. -/
def Kin.rest (x : Int) : Kin := ⟨6 * lsbPerMs ^ 3 * x, 0, 0⟩

/-- The position of a profile point in 2^-30 track. -/
def Kin.pos (k : Kin) : Int := k.p / (6 * lsbPerMs ^ 3)

/-- A profile point after `t` LSBs at jerk `j`. -/
def Kin.after (k : Kin) (j : Int) (t : Nat) : Kin :=
  let j := j * 2 ^ 30
  ⟨k.p + 3 * k.v * t + 3 * k.a * t ^ 2 + j * t ^ 3, k.v + 2 * k.a * t + j * t ^ 2, k.a + j * t⟩

/-- A profile point at the end of a list of phases (jerk, duration). -/
def Kin.run (k : Kin) (l : List (Int × Nat)) : Kin := l.foldl (fun k s => k.after s.1 s.2) k

/-- The first `t` LSBs of a list of phases are over: the point reached and the phases that remain. -/
def Kin.walk (k : Kin) (t : Nat) : List (Int × Nat) → Kin × List (Int × Nat)
  | [] => (k, [])
  | s :: l => if s.2 ≤ t then Kin.walk (k.after s.1 s.2) (t - s.2) l else (k.after s.1 t, (s.1, s.2 - t) :: l)

/-- The phases that take velocity and acceleration (v, a) to velocity `v1` with acceleration 0, under the limits `am` and `jm`
(R141): jerk to the peak acceleration, hold it, jerk back. Velocities and accelerations are scaled as in `Kin`. -/
def velPhases (v a v1 : Int) (am jm : Nat) : List (Int × Nat) :=
  let j : Int := jm * 2 ^ 30
  -- what the velocity would be were the acceleration taken to 0 at once
  let ve := v + (if 0 ≤ a then 1 else -1) * (a * a / j)
  let s : Int := if ve ≤ v1 then 1 else -1
  let a := s * a
  let dv := s * (v1 - v)
  -- peak squared: (j·dv + a²) / 2, in the scales of v and a
  let free : Int := isqrt (((j * dv + a * a) / 2).toNat)
  let top : Int := am * 2 ^ 30 * lsbPerMs
  let peak := min free top
  let t1 := ((peak - a).natAbs / j.natAbs)
  let t3 := peak.toNat / j.natAbs
  let hold := if free ≤ top then 0 else ((j * dv + a * a - 2 * peak * peak) / (2 * j * max 1 peak)).toNat
  [((if a ≤ peak then s else -s) * jm, t1), (0, hold), (-s * jm, t3)]

/-- The phases of a movement over `dist` (scaled position, from the point) that ends at rest, through velocity `v1`, and how
far they fall short. -/
def movePhases (k : Kin) (v1 : Int) (am jm : Nat) : List (Int × Nat) × List (Int × Nat) :=
  (velPhases k.v k.a v1 am jm, velPhases v1 0 0 am jm)

/-- Position that a movement through velocity `v1` ends at without any time at that velocity. -/
def moveEnd (k : Kin) (v1 : Int) (am jm : Nat) : Int :=
  let m := movePhases k v1 am jm
  (Kin.run { Kin.run k m.1 with v := v1, a := 0 } m.2).p

/-- The largest velocity whose movement does not pass the target, `unit` at a time: bit `b` and the bits below it are found. -/
def velSearch (k : Kin) (goal : Int) (s : Int) (unit vm : Nat) (am jm : Nat) : Nat → Nat → Nat
  | 0, r => r
  | b + 1, r =>
    let c := r + 2 ^ b
    if c * unit ≤ vm ∧ s * moveEnd k (s * (c * unit : Nat)) am jm ≤ s * goal then velSearch k goal s unit vm am jm b c
    else velSearch k goal s unit vm am jm b r

/-- The movement to `goal` (scaled) at rest, where the point does not move away from it and can stop before it: as fast as the
limits allow, with time at the top velocity where the way is long enough. -/
def goPhases (k : Kin) (goal : Int) (vm am jm : Nat) : List (Int × Nat) :=
  let s : Int := if k.p ≤ goal then 1 else -1
  let unit := 2 ^ 31 * lsbPerMs ^ 2 / 65536
  let v1 := velSearch k goal s unit (vm * 2 ^ 31 * lsbPerMs ^ 2) am jm 32 0 * unit
  let m := movePhases k (s * v1) am jm
  let rest := (s * (goal - moveEnd k (s * v1) am jm)).toNat
  m.1 ++ [(0, rest / max 1 (3 * v1))] ++ m.2

/-- The phases from a profile point to rest at `goal` (2^-30 track) under VMAX, AMAX and JMAX (R140, R141). Where the
velocity points away from the goal, or the goal cannot be reached without passing it, the profile stops first and then moves
back from rest: the excursion is the stopping distance. -/
def planTo (k : Kin) (goal : Int) (vm am jm : Nat) : List (Int × Nat) :=
  let g := 6 * lsbPerMs ^ 3 * goal
  let stop := velPhases k.v k.a 0 am jm
  let z := Kin.run k stop
  let away := (0 < k.v && decide (g < z.p)) || (k.v < 0 && decide (z.p < g))
  if away then stop ++ goPhases { z with v := 0, a := 0 } g vm am jm else goPhases k g vm am jm

/-! ## Sine values -/

/-- sin(2π·num/den) for a quarter turn or less, in 2^-60: the Taylor series to the 21st power. -/
def sinQuarter (num den : Nat) : Int :=
  let one : Int := 2 ^ 60
  let x : Int := 7244019458077122842 * num / den   -- 2π·2^60 times the turn
  let x2 := x * x / one
  let term := fun (acc : Int × Int) (k : Nat) =>
    let t := -acc.2 * x2 / one / ((2 * k) * (2 * k + 1) : Nat)
    (acc.1 + t, t)
  (((List.range 10).map (· + 1)).foldl term (x, x)).1

/-- sin(2π·num/den) in 2^-60. -/
def sinTurn (num den : Nat) : Int :=
  let n := num % den
  if 4 * n ≤ den then sinQuarter n den
  else if 2 * n ≤ den then sinQuarter (den - 2 * n) (2 * den)
  else if 4 * n ≤ 3 * den then -sinQuarter (2 * n - den) (2 * den)
  else -sinQuarter (den - n) den

/-- F0·(F1/F0)^(t/T), rounded down, for t/T in sixteen binary places (R150: the frequency of a swept sine rises
logarithmically): repeated square roots of the ratio in 2^-60. -/
def sweepFreq (f0 f1 t len : Nat) : Nat :=
  let x := t % max 1 len * 65536 / max 1 len
  let step := fun (acc : Nat × Nat) (k : Nat) =>
    let r := isqrt (acc.2 * 2 ^ 60)
    (if x.testBit (15 - k) then acc.1 * r / 2 ^ 60 else acc.1, r)
  ((List.range 16).foldl step (f0 * 2 ^ 60, f1 * 2 ^ 60 / max 1 f0)).1 / 2 ^ 60

end Sys2Proof.Machine
end

