-- ==== Sys2Proof/Machine/Servo.lean ====
section
/-!
DEFINITION. Machine/Servo.lean: what a servo field brings to an arm die: the clock lane and the lane synthesiser (R56 to
R62), the position sample (R63, R64, R124, R125), missing feedback (R146), settling and supervision counts (R142, R143);
seeks and their ownership (R139 to R142); the band table (R70, R71); revolution indexes and sector boundaries belong to
the files of the units that act on them (Cal.lean, WritePath.lean).
-/
namespace Sys2Proof.Machine

/-- The Gray code of `w` bits read as a number (R59). -/
def grayNat (w v : Nat) : Nat := (List.range w).foldl (fun x k => x ^^^ (v / 2 ^ k)) 0

/-- The parity of the low `w` bits of `v`. -/
def parityOf (w v : Nat) : Bool := (List.range w).foldl (fun b k => b != v.testBit k) false

/-- A wedge index that passes its checks (R59): CHECK bit k gives even parity over index bits [8k+11:8k+4], and WEDGE is
at most 719. -/
def indexOk (i : Nat) : Bool :=
  (List.range 4).all (fun k => parityOf 8 (bits i (8 * k + 4) 8) == i.testBit k) && decide (bits i 4 10 ≤ 719)

/-- TRACK and WEDGE of a wedge index (R59). -/
def indexTrack (i : Nat) : Nat := grayNat 22 (bits i 14 22)
def indexWedge (i : Nat) : Nat := bits i 4 10

/-- Lane frequency to bit clock in kHz (R60): f_bit = BPW · f_wedge, with f_wedge = 96·10^9 / period Hz. -/
def fbitKHz (bpw16 period : Nat) : Nat := (rdiv ((bpw16 * 16 * 96000000 : Nat) : Int) (period : Int)).toNat

/-- What the synthesiser can put out: 0.8 to 6.4 GHz (R60). BPW / 4,096 has 8 binary places, so its 32-bit fraction is exact. -/
def synthOut (khz : Nat) : Nat := max 800000 (min 6400000 khz)

/-- The distance from the LDR to the TRR in burst-timer LSBs (R57): TRRLAG of the selected head's slot (R99) in bits of the
present BPW. -/
def trrLagLsb (n : Nat) (d : Dev) : Int :=
  let a := arm n d
  if a.ratio = 0 then 0 else rdiv ((a.lag * a.period : Nat) : Int) ((16 * a.ratio : Nat) : Int)

/-- A servo field as the LDR would have timed it (R57): a field read on the TRR comes later by the distance between the readers, and
the wedge period contains the change of that shift. -/
def fieldTimes (n : Nat) (trr : Bool) (w : WedgeIn) (d : Dev) : WedgeIn :=
  let lag := if trr then trrLagLsb n d else 0
  { w with resid := w.resid - lag, period := ((w.period : Int) - (lag - (arm n d).lagLsb)).toNat }

/-- A lane measurement is accepted (R61, R62). -/
def laneOk (n : Nat) (sam : Bool) (w : WedgeIn) (d : Dev) : Bool :=
  sam && decide (rd (ARM_LSCTL_QMIN n) d ≤ w.amp) && decide (w.resid.natAbs ≤ rd (ARM_LSCTL_PHRES n) d) && !w.steep

/-- The slope after an accepted lane, in LSBs a wedge: the change from the last accepted lane, spread over the wedges between
(R60). The spec does not give the filter. DESIGN CHOICE, notes/assumptions/99. -/
def laneSlope (a : Arm) (period : Nat) : Int :=
  if a.period = 0 then 0 else a.slope + rdiv ((period : Int) - (a.period + a.slope)) ((a.bridged + 1 : Nat) : Int)

/-- The wedge period and the bit clock take effect: FBIT = lane frequency times the BPW in force (R60). -/
def laneSet (n period : Nat) (slope : Int) (bridged : Nat) (d : Dev) : Dev :=
  let d := onArm n (fun a => { a with
    period := period, periods := (period :: a.periods).take 4, slope := slope, bridged := bridged }) d
  if (arm n d).ratio = 0 then d else feFollow n (wr (ARM_LSFREQ_FBIT n) (synthOut (fbitKHz (arm n d).ratio period)) d)

/-- The lane measurement of a wedge (R60 to R62): accepted, or bridged on frequency and slope. While the heads move, lanes keep
the frequency; on the track they count towards the lock, and the first accepted one takes the band's BPW. -/
def lane (n : Nat) (sam : Bool) (w : WedgeIn) (d : Dev) : Dev :=
  let ok := laneOk n sam w d
  let there := servo n d != svSeek
  let d := when' (sam && w.steep) (fun d => raise (pgArm n) 2 (wr (ARM_LSSTAT_SLOPE n) 1 d)) d
  let d := when' sam (wrInt (ARM_LSSTAT_RESID n) w.resid) d
  let a := arm n d
  if ok then
    let band := (curBand n d).map Band.bpw16
    let d := onArm n (fun a => { a with
      accRun := if there then a.accRun + 1 else 0, ratio := if there then band.getD a.ratio else a.ratio }) d
    laneSet n w.period (laneSlope a w.period) 0 (wrs [(ARM_LSSTAT_HOLD n, 0), (ARM_LSSTAT_REJ n, 0)] d)
  else
    let d := onArm n (fun a => { a with accRun := 0 }) d
    laneSet n ((a.period : Int) + a.slope).toNat a.slope (a.bridged + 1)
      (wrs [(ARM_LSSTAT_HOLD n, 1), (ARM_LSSTAT_REJ n, min 0xFF (rd (ARM_LSSTAT_REJ n) d + 1))] d)

/-- π·√3 as a fraction: the constant of R63's x = v · Δt / (2 tan 30°) with v = 2π·r·f_rev. -/
def piRoot3Num : Int := 5441398092702653
def piRoot3Den : Int := 1000000000000000

/-- The position x of a burst sum in 1/256 nm (R63): radius interpolated linearly in track number. -/
def burstX (b : Band) (track : Nat) (rawsum : Int) (period : Nat) : Int :=
  let span : Int := (b.last : Int) - b.first
  let rn : Int := b.rad0 * span + ((b.rad1 : Int) - b.rad0) * ((track : Int) - b.first)
  let rn := if span = 0 then (b.rad0 : Int) else rn
  let rdn := if span = 0 then 1 else span
  rdiv (piRoot3Num * rn * 1000 * 256 * rawsum) (piRoot3Den * rdn * 23040 * period)

/-- The track pitch of a band in 1/256 nm (R124). -/
def pitch (b : Band) : Int :=
  rdiv (1000 * 256 * (((b.rad0 : Int) - b.rad1).natAbs : Int)) ((b.last : Int) - b.first)

/-- SRV_PITCH follows the band under the head (R124). -/
def pitchSet (n : Nat) (d : Dev) : Dev :=
  match curBand n d with
  | some b => wrInt (SRV_PITCH_TP n) (pitch b) d
  | none => d

/-- A statistics counter of an SRV page (R153). -/
def bumpSrv (n : Nat) (f : Fld) (d : Dev) : Dev := bumpEv (pgSrv n) f 7 1 d

/-- The offset that SRV_CTL.OFFSET and the ladder ask for, in 2^-30 track (R140). -/
def offsetOf (n : Nat) (d : Dev) : Int := rdInt (SRV_CTL_OFFSET n) d * 2 ^ 22 + (arm n d).ladOfs

/-- Where the set-point is to end: the target track, and what the offset asks for beyond the step that was applied (R140). -/
def goalOf (n : Nat) (d : Dev) : Int := (arm n d).tgtTrack * q1 + (offsetOf n d - (arm n d).ofs)

/-- At a wedge boundary an offset change of up to 1/4 track is applied as a step; a larger one goes through L2 (R140). In hold it
waits (R149). -/
def offsetStep (n : Nat) (d : Dev) : Dev :=
  if servo n d ≠ svHold ∧ ((offsetOf n d - (arm n d).ofs).natAbs : Int) ≤ 2 ^ 28 then
    onArm n (fun a => { a with ofs := offsetOf n d }) d
  else d

/-- The position error of a measured position, saturated at ±2 tracks (R128). -/
def pesOf (n : Nat) (p : Int) (d : Dev) : Int := qSat ((arm n d).sp + (arm n d).ofs - p)

/-- Note position and error of a wedge and advance the runs that settling and supervision look at (R142, R143). In hold L1 does
not update, and its error stands (R146). -/
def notePos (n : Nat) (p : Int) (d : Dev) : Dev :=
  let e := pesOf n p d
  let inWin := fun f => decide ((e.natAbs : Int) ≤ (rd f d : Int) * 2 ^ 22)
  let st := servo n d
  if st = svHold then onArm n (fun a => { a with pos := p }) d
  else
    let d := wrInt (SRV_PES_PES n) (e / 2 ^ 18) d
    onArm n (fun a => { a with
      pos := p, pes := e,
      rdRun := if (st = svSettle ∨ st = svFollow) ∧ inWin (CTL_SETTLE_RDWIN n) = true then a.rdRun + 1 else 0,
      wrRun := if (st = svSettle ∨ st = svFollow) ∧ inWin (CTL_SETTLE_WRWIN n) = true then a.wrRun + 1 else 0,
      feRun := if st = svFollow ∧ inWin (CTL_FELIM_FELIM n) = false then a.feRun + 1 else 0 }) d

/-- A wedge whose SAM is found (R124, R125): TRACK, x, RAWSUM and the position. -/
def sample (n : Nat) (trr : Bool) (w : WedgeIn) (d : Dev) : Dev :=
  let ok := indexOk w.index
  let track := if ok then indexTrack w.index else (w.pred / q1).toNat
  let wedge := if ok then indexWedge w.index else (rd (SRV_STAT_WEDGE n) d + 1) % 720
  let run := rd (SRV_MISS_IDXRUN n) d
  let d :=
    if ok then wr (SRV_MISS_IDXRUN n) 0 d
    else raise (pgSrv n) 5 (bumpSrv n (SRV_FBCNT_IDXERR n) (wr (SRV_MISS_IDXRUN n) (min 16 (run + 1)) d))
  let same := if rdInt (SRV_RAW_RAWSUM n) d = w.rawsum ∧ rd (SRV_RAW_SAME n) d ≠ 0
    then min 16 (rd (SRV_RAW_SAME n) d + 1) else 1
  let d := wrs [(SRV_MISS_CONSEC n, 0), (SRV_STAT_WEDGE n, wedge), (SRV_TRACK_TRACK n, track),
    (SRV_TRACK_PRED n, b2n (!ok)), (SRV_RAW_RAWSUM n, toField 16 w.rawsum), (SRV_RAW_SAME n, same)] d
  let d := onArm n (fun a => { a with validRun := if ok then a.validRun + 1 else 0 }) d
  let d := pitchSet n d
  match curBand n d with
  | none => notePos n (track * q1) d
  | some b =>
    let x := burstX b track w.rawsum w.period
    let xofs := if trr then rdInt (ARM_TRRSRV_XOFS n (selHead n d)) d * 2 ^ 22 else 0
    let p := track * q1 - rdiv (x * q1) (rdInt (SRV_PITCH_TP n) d) + xofs
    notePos n p (wrInt (SRV_POS_X n) x d)

/-- A wedge whose SAM is missing (R125, R146): the position is the predicted one. -/
def missed (n : Nat) (w : WedgeIn) (d : Dev) : Dev :=
  let c := rd (SRV_MISS_CONSEC n) d
  let d := when' (c == 0) (raise (pgSrv n) 0) d
  let d := bumpSrv n (SRV_MISS_TOTAL n) (wr (SRV_MISS_CONSEC n) (min 8 (c + 1)) d)
  let d := wr (SRV_STAT_WEDGE n) ((rd (SRV_STAT_WEDGE n) d + 1) % 720) d
  notePos n w.pred (onArm n (fun a => { a with validRun := 0 }) d)

/-- The speed steps in rpm (R162). -/
def stepRpm (k : Nat) : Nat := 5400 + 600 * k

/-- The bank pair and weight of R133 from the wedge periods of the last 4 wedges: bank j and w = num / den. The speed is
32·10^9 / (sum of four periods) rpm; below bank 0 and above bank 4 one bank is used alone. -/
def bankWeight (periods : List Nat) : Nat × Nat × Nat :=
  let s := periods.sum * 4 / max 1 periods.length
  let top := 32000000000
  if s = 0 then (0, 0, 1)
  else if top ≤ stepRpm 0 * s then (0, 0, 1)
  else if stepRpm 4 * s ≤ top then (4, 0, 1)
  else
    let j := ((List.range 4).find? (fun k => decide (top < stepRpm (k + 1) * s))).getD 3
    (j, top - stepRpm j * s, 600 * s)

/-- A table that waits for an aligned wedge boundary is installed (R132). -/
def installTable (n : Nat) (d : Dev) : Dev :=
  match (arm n d).tblPend with
  | none => d
  | some (t, ws) =>
    let d := onArm n (fun a => { a with
      tblPend := none, tables := (ws.zipIdx).foldl (fun m p => Store.put 0 (t * 64 + p.2) p.1 m) a.tables }) d
    let d := wr (CTL_TBLCTL_PEND n) 0 d
    if t < 15 then setBit (CTL_TBLCTL_VALID n) t d else d

/-! ## Cost of the tables (R134) -/

/-- Number of a table in the arm's table store: 5·LOOP + BANK for L0, L1, L2; 15 + source for a feedforward table. -/
def tblNo (loop bank : Nat) : Nat := if loop = 3 then 15 + bank else 5 * loop + bank

/-- Word `j` of table `t`, and as a Q2.30 number. -/
def tblWord (a : Arm) (t j : Nat) : Nat := Store.get 0 (t * 64 + j) a.tables
def tblQ (a : Arm) (t j : Nat) : Int := signed 32 (tblWord a t j)

/-- Number of set bits among the low `w`. -/
def popCount (w v : Nat) : Nat := ((List.range w).filter (fun k => v.testBit k)).length

/-- Active sections of a loop: the largest count of its five banks (R134). -/
def maxSecs (tbl : Nat → Nat → Nat) (loop : Nat) : Nat :=
  (List.range 5).foldl (fun m b => max m (popCount 8 (tbl (tblNo loop b) 0))) 0

/-- NTAPS of the feedforward table of source `a`. -/
def nTaps (tbl : Nat → Nat → Nat) (a : Nat) : Nat := min 32 (bits (tbl (15 + a) 0) 0 6)

/-- COST of a set of tables, `shed` taps not evaluated (R134). -/
def costOf (tbl : Nat → Nat → Nat) (shed : Nat) : Nat :=
  let c0 := 100 + 30 * maxSecs tbl 0
  let taps := ((List.range 4).map (nTaps tbl)).sum - shed
  let c1 := 180 + 30 * maxSecs tbl 1 + 10 * taps
  let c2 := 240 + 30 * maxSecs tbl 2
  c0 + max c1 c2 + 40

/-- CLK_CTL cycles of one L0 period at a speed step (R22). -/
def budgetCycles (step : Nat) : Nat := 500000000 / (48 * stepRpm step)

/-- CTL_COST of an arm: COST of the installed tables and the budget at the highest enabled step (R134, R22); both read 0
before a table is installed. -/
def costNow (n : Nat) (d : Dev) : Nat := if (arm n d).tables.isEmpty then 0 else costOf (tblWord (arm n d)) 0
def budgetNow (n : Nat) (d : Dev) : Nat := if (arm n d).tables.isEmpty then 0 else budgetCycles (rd SPN_STEPLIM_MAX d)

/-- Shed taps until the cost fits: the highest-numbered tap of each source in turn (R134). -/
def shedLoop (tbl : Nat → Nat → Nat) (lim : Nat) : Nat → Nat → Store Nat → Store Nat
  | 0, _, s => s
  | fuel + 1, a, s =>
    if costOf tbl ((s.map (fun p => p.2)).sum) ≤ lim then s
    else
      let k := Store.get 0 a s
      shedLoop tbl lim fuel ((a + 1) % 4) (if k < nTaps tbl a then Store.put 0 a (k + 1) s else s)

/-- The taps shed follow the installed tables and the step the arm has been told of (R134): a start notice's target, from the
aligned wedge boundary at which the ramp starts. -/
def shedUpdate (n : Nat) (d : Dev) : Dev :=
  let a := arm n d
  let s := shedLoop (tblWord a) (budgetCycles a.stepSeen) 160 0 []
  let total := (s.map (fun p => p.2)).sum
  let old := rd (CTL_FFCTL_SHED n) d
  let d := wr (CTL_FFCTL_SHED n) total (onArm n (fun a => { a with shedTaps := s }) d)
  if old < total then raise (pgCtl n) 3 d else d

/-- An aligned wedge boundary, or at once while the heads are unloaded (R127, R133, R134, R180, R416): the bank weight follows the
measured speed; a calibrated value comes into force before a table that waits (R27); taps are shed or restored. -/
def alignedBoundary (n : Nat) (d : Dev) : Dev :=
  let b := bankWeight (arm n d).periods
  shedUpdate n (installTable n (calSrvInstall n (onArm n (fun a => { a with bank := b.1, wNum := b.2.1, wDen := b.2.2 }) d)))

/-- In a head load the first SAM is found: the counts start (R416), and the profile starts at rest from the position found
(DEDUCED, notes/assumptions/100). -/
def firstSam (n : Nat) (d : Dev) : Dev :=
  onArm n (fun a => if a.loading && !a.samSeen then
    { a with samSeen := true, prof := Kin.rest a.pos, phases := [], goal := a.pos, sp := a.pos } else a) d

/-- CLK_AUX cycles for which write gate is low over a servo field (R100): from cell 16,384 to min(LEAD · 4 ns, 40 cells) before cell
1,024. -/
def fieldLow (n : Nat) (d : Dev) : Nat :=
  let p := (arm n d).period
  let lead := min 40 (rd (WRP_ASTIM_LEAD n) d * 4 * 96 * 16384 / max 1 p)
  p * (1024 - lead) / (16384 * 768)

/-- Over a servo field write gate is low and the data pair idle; it rises again before the data area, and the write resumes with the
split pad or the next sector (R100). -/
def overField (n : Nat) (f : Dev → Dev) (d : Dev) : Dev :=
  if isSet (ALK_STAT_WG n) d then
    let d := f (gateOffAt n (d.time - fieldLow n d) d)
    when' (mayWrite n d) (fun d => onArm n (fun a => { a with pair := a.wsec.isSome }) (gateOn n d)) d
  else f d

/-- WEDGE_BOUNDARY: a servo field passes under the selected head (R57, R124, R127, R416). It is read on the LDR, unless the LDR is
out of use or its front end failed for the field before. Arms whose heads are unloaded read no servo fields. -/
def wedgeOp (n : ArmId) (w : WedgeIn) (d : Dev) : Dev :=
  let l := ldrUse n d && !(arm n d).ldrOut
  let sam := w.sam && (l || trrUse n d)
  if !servoOn n d then d
  else if unloaded n d && !sam then d
  else
    let trr := !l && trrUse n d
    let x := fieldTimes n trr w d
    let lag := if trr then trrLagLsb n d else 0
    overField n (fun d =>
      let d := onArm n (fun a => { a with ldrOut := w.ldrFail, lagLsb := lag }) (wrB (ARM_LSSTAT_TRRSRV n) trr d)
      let d := offsetStep n d
      let d := firstSam n (if sam then sample n trr x d else missed n x d)
      let d := calWedge n (lane n sam x d)
      if rd (SRV_STAT_WEDGE n) d % 4 = 0 then alignedBoundary n d else d) d

def execWedgeBoundary (n : ArmId) (w : WedgeIn) (s : State) : Out := onDev (wedgeOp n w) s

/-- SYNTH_UNLOCK: after a second consecutive rejection the synthesiser unlocks, and writing is inhibited from the next
sector boundary (R62, R103 bit 0). -/
def synthUnlock (n : ArmId) (d : Dev) : Dev :=
  if isSet (ARM_LSSTAT_LOCK n) d && decide (2 ≤ rd (ARM_LSSTAT_REJ n) d) && !unloaded n d then
    let d := onArm n (fun a => { a with unlocked := true }) (wr (ARM_LSSTAT_LOCK n) 0 d)
    raise (pgArm n) 0 (inhibitNext n 0 d)
  else d

def execSynthUnlock (n : ArmId) (s : State) : Out := onDev (synthUnlock n) s

/-- SYNTH_RELOCK: two consecutive accepted measurements lock the synthesiser (R61); after an unlock the event is raised
and the inhibit lifts at the next sector boundary (R62). After a head load, head switch or seek it locks silently. -/
def synthRelock (n : ArmId) (d : Dev) : Dev :=
  if !isSet (ARM_LSSTAT_LOCK n) d && decide (2 ≤ (arm n d).accRun) && !unloaded n d then
    let was := (arm n d).unlocked
    let d := onArm n (fun a => { a with unlocked := false }) (wr (ARM_LSSTAT_LOCK n) 1 d)
    if was then raise (pgArm n) 1 (inhibitLiftNext n 0 d) else d
  else d

def execSynthRelock (n : ArmId) (s : State) : Out := onDev (synthRelock n) s

/-- One entry of a band table (R70), its usability by its own checks (R67, R71) at step code `mx`. R71 does not check SKEW: a
byte above 63 is taken mod 64. DESIGN CHOICE, notes/assumptions/101. -/
def bandEntry (h idx mx : Nat) (bs : List Nat) : Option Band :=
  let f := fun k n => leNat ((bs.drop k).take n)
  let first := f 0 4
  let last := f 4 4
  let b16 := f 8 2
  let spt := f 10 2
  if last = 0 then none
  else
    let bpw := 16 * b16
    let ok := f 28 4 == crc32c (bs.take 28) && decide (first ≤ last) && spt != 0 && b16 != 0
      && decide (37152 * spt ≤ 720 * (bpw * 15 / 16 - 32)) && decide (bpw * 12 * stepRpm mx ≤ 6400000000)
    some ⟨h, idx, first, last, b16, spt, f 12 1 % 64, bitOf (f 13 1) 0, f 14 2, f 16 2, ok⟩

/-- Two entries of one head that overlap are both unusable (R71). -/
def bandOverlap (l : List Band) : List Band :=
  l.map (fun b =>
    if l.any (fun c => c.head == b.head && c.idx != b.idx && decide (c.first ≤ b.last) && decide (b.first ≤ c.last))
    then { b with usable := false } else b)

/-- The highest step at which every usable entry still meets R67 (R71), never below MAX. -/
def stepOk (l : List Band) (mx : Nat) : Nat :=
  (((List.range 5).filter (fun k => l.all (fun b => !b.usable || decide (b.bpw16 * 16 * 12 * stepRpm k ≤ 6400000000)))
    ).getLast?.getD mx)

/-- A band-table load runs (R71): the table is read, checked and replaced whole; accepted writes that waited for a band
go on from their hand. An entry whose bytes cannot be read is an unusable one that holds track 0. DESIGN CHOICE,
notes/assumptions/101. -/
def bandLoad (n : Nat) (d : Dev) : Dev :=
  let mx := rd SPN_STEPLIM_MAX d
  let r := (List.range 512).foldl (fun (st : Dev × List Band) k =>
    let p := memRead (rd (ARM_FMTBASE_ADDR n) d * 128 + 32 * k) 32 st.1
    (p.1, match p.2 with
      | some bs => st.2 ++ (bandEntry (k / 64) (k % 64) mx bs).toList
      | none => st.2 ++ [⟨k / 64, k % 64, 0, 0, 0, 0, 0, false, 0, 0, false⟩])) (d, [])
  let l := bandOverlap r.2
  let bad := (List.range 8).foldl (fun m h => if l.any (fun b => b.head == h && !b.usable) then m ||| 2 ^ h else m) 0
  let d := onArm n (fun a => { a with bands := l }) r.1
  let d := wrs [(ARM_FMTCTL_PEND n, 0), (ARM_FMTCTL_LOAD n, 0), (ARM_FMTCTL_VALID n, 1), (ARM_FMTCTL_BADMAP n, bad),
    (ARM_FMTCTL_STEPOK n, max mx (stepOk l mx))] d
  let d := if bad = 0 then d else raise (pgArm n) 3 d
  pitchSet n d

/-- BAND_TABLE_LOAD_REQUEST: ARM_FMTCTL.LOAD asks for a load; with the heads unloaded it runs at once (R71, R416). -/
def bandRequest (n : ArmId) (d : Dev) : Dev :=
  ifReach (pgArm n) (fun d =>
    if unloaded n d then bandLoad n d else wrs [(ARM_FMTCTL_PEND n, 1), (ARM_FMTCTL_LOAD n, 1)] d) d

def execBandTableLoadRequest (n : ArmId) (s : State) : Out := onDev (bandRequest n) s

/-! ## Retract (R149, R171, R416) -/

/-- The arm engine's half of a retract (R149, R416): the state becomes retract, the loops stop, the microactuator
command is 0, the arm publishes idle, the counts of R416 and the lock read 0, write gate drops (inhibit bit 10), the
ladder is abandoned, a firmware seek in progress has failed, and an interface that firmware gave up meanwhile returns to the
hand (R139). What waits for a wedge boundary or an index takes effect at once. -/
def armRetract (n : Nat) (d : Dev) : Dev :=
  let a := arm n d
  let st := servo n d
  let d := calAbandon n (inhibitNow n 10 (ladderAbandon n d))
  let d := when' (a.fwSeek && (st == svSeek || st == svSettle)) (wr (SRV_SEEK_REFUSED n) 1) d
  let d := wrs [(SRV_STAT_STATE n, svRetract), (SRV_STAT_RDOK n, 0), (SRV_STAT_WROK n, 0), (SRV_MISS_CONSEC n, 0),
    (SRV_MISS_IDXRUN n, 0), (SRV_RAW_SAME n, 0), (ARM_LSSTAT_LOCK n, 0), (CTL_SUPSTAT_FE n, 0)] d
  let d := when' (a.fwSeek && a.fwPend) (wr (SRV_CTL_OWNED n) 0) d
  let d := onArm n (fun a => { a with
    m := 0, loading := false, samSeen := false, fwSeek := false, fwPend := false, feRun := 0, rdRun := 0, wrRun := 0,
    validRun := 0, accRun := 0, phases := [], pubIdle := true, pub := 0, drive := 0 }) d
  when' (isSet (ARM_FMTCTL_PEND n) d) (bandLoad n) (shedUpdate n (installTable n (calSrvInstall n d)))

/-- The power die's half of a retract (R171): the bridge is driven at RETV for RETT ms, the microactuator output goes to
0 V, BUSY is set. With an open coil no retract is possible (R173). -/
def powRetract (n : Nat) (d : Dev) : Dev :=
  if d.pwr.noRetract.testBit n then d
  else
    let d := setBit BRK_RETCTL_BUSY n (wr (VCM_STAT_STATE n) 2 d)
    { d with pwr := { d.pwr with
      retFull := d.pwr.retFull ||| 2 ^ n, retAt := Store.put 0 n d.time d.pwr.retAt, drives := Store.put 0 n 0 d.pwr.drives, maCmd := Store.put 0 n 0 d.pwr.maCmd,
      miss := Store.put 0 n 0 d.pwr.miss } }

/-- A sideband message of a unit on die `x` reaches die `y` (R15): they are one die, or both dies' links are up. -/
def reaches (x y : Die) (d : Dev) : Bool := x == y || (dieUp x d && dieUp y d)

/-- A unit on die `x` orders a retract of arm `n` (R149, R171); it cannot be refused (R25). The order is sideband traffic
(R15): the arm engine and the power die carry out their halves where it reaches them. What a lost order leaves to be done is
the missing current samples' and commands' (R18). -/
def retractFrom (x : Die) (n : Nat) (d : Dev) : Dev :=
  if fitted (.arm n) d then
    when' (reaches x .power d) (powRetract n) (when' (reaches x (.arm n) d) (armRetract n) d)
  else d

/-- The hub orders a retract of arm `n`. -/
def retract (n : Nat) (d : Dev) : Dev := retractFrom .hub n d

/-- A unit on die `x` orders a retract of every fitted arm. -/
def retractAll (x : Die) (d : Dev) : Dev := each 4 (retractFrom x) d

/-- The arm can load its heads (R132, R145, R148, R159): all 15 loop tables installed, no current-loop fault latched, the
arm not lost, the bridge able to drive, and the spindle at speed or in a ramp between two steps. -/
def mayLoad (n : Nat) (d : Dev) : Bool :=
  rd (CTL_TBLCTL_VALID n) d == 0x7FFF && !isSet (CTL_SUPSTAT_CLF n) d && !(rd GLB_HEALTH_LOSTARMS d).testBit n
    && (isSet SPN_STAT_ATSPEED d || (isSet SPN_STAT_RAMP d && d.pwr.reached && decide (rd SPN_STAT_TARGET d ≤ 4)))

/-- The engine refuses the seek now (R117, R142, R145, R149): retracting, a head switch in hold or over a failed arm
link, a head load that is not allowed. -/
def seekRefused (n h : Nat) (d : Dev) : Bool :=
  let st := servo n d
  st == svRetract || (st == svParked && !mayLoad n d) || (st == svHold && h != selHead n d)
    || ((page (pgAlk n) d).fault && h != selHead n d)

/-- Clear the histories of all sections of L1 and L0: table numbers of L0 are 0, of L1 1 (R129). -/
def clearHist (n : Nat) (d : Dev) : Dev := onArm n (fun a => { a with hist := Store.cut 0 16 a.hist }) d

/-- Select head `h` (R81, R124, R129): the histories are cleared, the pitch and the channels' slot follow, the retired
heads' inhibit follows. -/
def selectHead (n h : Nat) (d : Dev) : Dev :=
  let d := stbyFrame n h (clearHist n (headsel n h 1 (wr (SRV_STAT_HEAD n) h d)))
  headInhibit n (selectSet n true (pitchSet n d))

/-- The heads leave their track (R62, R101, R140): the burst stops, the arm is not settled, and the synthesiser counts as locked
again after two accepted lanes on the new track. -/
def leaveTrack (n : Nat) (d : Dev) : Dev :=
  let d := breakBurst n d
  let d := wrs [(SRV_STAT_RDOK n, 0), (SRV_STAT_WROK n, 0), (ARM_LSSTAT_LOCK n, 0)] d
  let d := if rd (ALK_STAT_MODE n) d = 2 then headsel n (selHead n d) 1 d else d
  onArm n (fun a => { a with accRun := 0, rdRun := 0, wrRun := 0, feRun := 0, moveAt := d.time }) (setServo n svSeek d)

/-- A seek begins (R140, R141): from parked the heads are loaded first; a target within 1/4 track of the set-point on the
same head needs no profile; in hold the target waits, L2 taking it when hold ends (R146). Servo jitter on the arm ends
(R391). -/
def seekStart (n h t : Nat) (fw : Bool) (d : Dev) : Dev :=
  let a := arm n d
  let st := servo n d
  let near := st == svFollow && h == selHead n d && decide (((t : Int) * q1 - a.sp).natAbs ≤ 2 ^ 28)
  let d := countArm n (fun x => { x with seeks := add32 x.seeks 1 }) d
  let d := if (rd TST_SRVJIT_ARMS d).testBit n then raise pgTst 4 (clrBit TST_SRVJIT_ARMS n d) else d
  let d := if st = svParked then calFirstLoad n d else d
  let d := onArm n (fun a => { a with tgtHead := h, tgtTrack := t, fwSeek := fw }) d
  if near ∨ st = svHold then d
  else
    let d := if h ≠ selHead n d ∨ st = svParked then selectHead n h (breakBurst n d) else d
    onArm n (fun a => { a with
      loading := st == svParked || a.loading, samSeen := if st = svParked then false else a.samSeen }) (leaveTrack n d)

/-- SEEK_ORDER: a write of SRV_SEEK with GO (R139, R149). Without ownership the order is discarded and REFUSED is set. -/
def seekOrder (n : ArmId) (v : Nat) (d : Dev) : Dev :=
  ifReach (pgSrv n) (fun d =>
    let t := bits v 0 22
    let h := bits v 22 3
    let d := wrs [(SRV_SEEK_TARGET n, t), (SRV_SEEK_HEAD n, h)] d
    let d := calLeave n (when' (bitOf v 26) (wr (SRV_SEEK_REFUSED n) 0) d)
    if !bitOf v 25 then d
    else if !isSet (SRV_CTL_OWNED n) d || seekRefused n h d then wr (SRV_SEEK_REFUSED n) 1 d
    else seekStart n h t true d) d

def execSeekOrder (n : ArmId) (v : Nat) (s : State) : Out := onDev (seekOrder n v) s

/-- The hand of arm `n` has a media operation or a ladder attempt under way. -/
def handBusy (n : Nat) (d : Dev) : Bool := (hand n d).any (fun w => w.started)

/-- SEEK_OWNERSHIP_REQUEST: a write of SRV_CTL (R139). FWOWN set: the hand finishes its present operation and issues no
further seek; OWNED follows at the handover, at once if nothing is under way. FWOWN cleared: the interface returns once
any firmware seek has settled. OFFSET values outside ±64 are reserved and leave the field as it is (R11). -/
def seekOwn (n : ArmId) (v : Nat) (d : Dev) : Dev :=
  ifReach (pgSrv n) (fun d =>
    let o := signed 8 (bits v 8 8)
    let d := if -64 ≤ o ∧ o ≤ 64 then wr (SRV_CTL_OFFSET n) (bits v 8 8) d else d
    if bitOf v 0 then
      let d := onArm n (fun a => { a with fwPend := false }) (wr (SRV_CTL_FWOWN n) 1 d)
      if handBusy n d then d else wr (SRV_CTL_OWNED n) 1 d
    else
      let d := calLeave n (wr (SRV_CTL_FWOWN n) 0 d)
      let moving := (arm n d).fwSeek && (servo n d == svSeek || servo n d == svSettle)
      if moving then onArm n (fun a => { a with fwPend := true }) d
      else onArm n (fun a => { a with ladWait := false }) (wr (SRV_CTL_OWNED n) 0 d)) d

def execSeekOwnershipRequest (n : ArmId) (v : Nat) (s : State) : Out := onDev (seekOwn n v) s

/-- The hand's present media operation has ended, with its data transfer and read-after-write, and no ladder attempt is under way
(R139). -/
def operationOver (n : Nat) (d : Dev) : Bool :=
  let a := arm n d
  a.burst.isNone && a.raws.isEmpty && a.rewrites.isEmpty && a.flights.isEmpty && (a.ladder.isEmpty || a.ladWait)

/-- SEEK_INTERFACE_HANDOVER: the hand's present media operation, or the present ladder attempt, has ended, and firmware
that asked for the interface holds it (R139). -/
def seekHandover (n : ArmId) (d : Dev) : Dev :=
  if isSet (SRV_CTL_FWOWN n) d && !isSet (SRV_CTL_OWNED n) d && operationOver n d then
    setHand n ((hand n d).map (fun w => { w with started := false })) (wr (SRV_CTL_OWNED n) 1 d)
  else d

def execSeekInterfaceHandover (n : ArmId) (s : State) : Out := onDev (seekHandover n) s

/-- The device takes the seek interface back for the hand at once (R139): at a power-loss notice and at step 1 of
quiesce. A firmware seek in progress ends with REFUSED. -/
def seekReturn (n : Nat) (d : Dev) : Dev :=
  let moving := (arm n d).fwSeek && (servo n d == svSeek || servo n d == svSettle)
  let d := wrs [(SRV_CTL_FWOWN n, 0), (SRV_CTL_OWNED n, 0)] d
  let d := when' moving (wr (SRV_SEEK_REFUSED n) 1) d
  onArm n (fun a => { a with fwSeek := false, fwPend := false, ladWait := false }) d

/-- A firmware seek has ended: an interface that firmware gave up meanwhile returns to the hand (R139). -/
def seekEnded (n : Nat) (d : Dev) : Dev :=
  let a := arm n d
  let back := a.fwSeek && a.fwPend
  let d := when' back (wr (SRV_CTL_OWNED n) 0) d
  onArm n (fun a => { a with fwSeek := false, fwPend := if a.fwSeek then false else a.fwPend, ladWait := a.ladWait && !back }) d

/-- A seek fails (R142): a firmware seek sets REFUSED; the hand's work stays in the hand. -/
def seekFailed (n : Nat) (d : Dev) : Dev :=
  let d := when' (arm n d).fwSeek (wr (SRV_SEEK_REFUSED n) 1) d
  let d := setHand n ((hand n d).map (fun w => { w with started := false })) d
  seekEnded n d

/-- CTL_SETTLE.TMO ms have passed since the profile reached its target, or since a head load began (R142, R416). -/
def settleLate (n : Nat) (d : Dev) : Bool := decide ((arm n d).moveAt + rd (CTL_SETTLE_TMO n) d * auxPerMs ≤ d.time)

/-- HEAD_LOAD_TIMEOUT: no SAM within TMO ms of a head load: retract, CTL event bit 6, the seek has failed (R416). -/
def loadTimeout (n : ArmId) (d : Dev) : Dev :=
  if (arm n d).loading && !(arm n d).samSeen && servoOn n d && settleLate n d then
    raise (pgCtl n) 6 (retractFrom (.arm n) n (seekFailed n d))
  else d

def execHeadLoadTimeout (n : ArmId) (s : State) : Out := onDev (loadTimeout n) s

/-- The set-point has arrived where it was to end. -/
def arrived (n : Nat) (d : Dev) : Bool := (arm n d).phases.isEmpty && (arm n d).goal == goalOf n d

/-- ARM_SETTLED: read-settled after RDN wedges inside RDWIN, write-settled after WRN inside WRWIN (R142), also where
track-following has resumed after hold. Read-settled ends the seek; write-settled lifts the servo and retract inhibits (R103
bits 1 and 10, R143, R146). -/
def settled (n : ArmId) (d : Dev) : Dev :=
  let a := arm n d
  let st := servo n d
  if st ≠ svSettle ∧ st ≠ svFollow then d
  else
    let d := if rd (CTL_SETTLE_RDN n) d ≤ a.rdRun ∧ (st = svSettle ∨ (isSet (SRV_STAT_RDOK n) d = false ∧ arrived n d = true)) then
        seekEnded n (onArm n (fun a => { a with loading := false }) (wrs [(SRV_STAT_RDOK n, 1), (SRV_STAT_STATE n, svFollow)] d))
      else d
    if servo n d = svFollow ∧ rd (CTL_SETTLE_WRN n) d ≤ a.wrRun ∧ arrived n d = true then
      let d := wrs [(SRV_STAT_RDOK n, 1), (SRV_STAT_WROK n, 1), (CTL_SUPSTAT_FE n, 0)] d
      inhibitLift n 1 (inhibitLift n 10 d)
    else d

def execArmSettled (n : ArmId) (s : State) : Out := onDev (settled n) s

/-- Hold is entered (R143, R146): the set-point of L0 is frozen, m = 0, writing is inhibited at once, the entry is
counted and is one position fault. -/
def enterHold (n : Nat) (d : Dev) : Dev :=
  let d := wrs [(SRV_STAT_STATE n, svHold), (SRV_STAT_RDOK n, 0), (SRV_STAT_WROK n, 0)] d
  let d := onArm n (fun a => { a with m := 0, validRun := 0, rdRun := 0, wrRun := 0, feRun := 0, pub := 0, pubIdle := true }) d
  let d := bumpSrv n (SRV_FBCNT_HOLDS n) (inhibitNow n 1 d)
  positionFault n (raise (pgSrv n) 1 d)

/-- SETTLE_TIMEOUT: not read-settled within TMO ms: hold, CTL event bit 6, the seek has failed (R142). -/
def settleTimeout (n : ArmId) (d : Dev) : Dev :=
  if servo n d = svSettle ∧ isSet (SRV_STAT_RDOK n) d = false ∧ settleLate n d = true then
    seekFailed n (raise (pgCtl n) 6 (enterHold n d))
  else d

def execSettleTimeout (n : ArmId) (s : State) : Out := onDev (settleTimeout n) s

/-- HOLD_ENTRY: two missing SAMs or four failed indexes (R146). -/
def holdEntry (n : ArmId) (d : Dev) : Dev :=
  let st := servo n d
  if (st = svSeek ∨ st = svSettle ∨ st = svFollow) ∧ unloaded n d = false
      ∧ (2 ≤ rd (SRV_MISS_CONSEC n) d ∨ 4 ≤ rd (SRV_MISS_IDXRUN n) d) then
    enterHold n d
  else d

def execHoldEntry (n : ArmId) (s : State) : Out := onDev (holdEntry n) s

/-- HOLD_EXIT: four valid samples in a row in hold: track-following resumes with the histories kept (R146). The spec does not say
from which set-point: it is the measured position cut down to a whole track, and L2 goes on from there to the target.
DESIGN CHOICE, notes/assumptions/102. -/
def holdExit (n : ArmId) (d : Dev) : Dev :=
  if servo n d = svHold ∧ 4 ≤ (arm n d).validRun then
    let d := wrs [(SRV_STAT_STATE n, svFollow), (SRV_STAT_RDOK n, 0)] d
    raise (pgSrv n) 2 (onArm n (fun a =>
      let x := a.pos / q1 * q1
      { a with sp := x, prof := Kin.rest x, phases := [], goal := x, rdRun := 0, wrRun := 0 }) d)
  else d

def execHoldExit (n : ArmId) (s : State) : Out := onDev (holdExit n) s

/-- FEEDBACK_LOSS_RETRACT: eight missing SAMs or sixteen failed indexes (R146). -/
def feedbackLoss (n : ArmId) (d : Dev) : Dev :=
  if servoOn n d && !unloaded n d
      && (decide (8 ≤ rd (SRV_MISS_CONSEC n) d) || decide (16 ≤ rd (SRV_MISS_IDXRUN n) d)) then
    raise (pgSrv n) 3 (retractFrom (.arm n) n d)
  else d

def execFeedbackLossRetract (n : ArmId) (s : State) : Out := onDev (feedbackLoss n) s

/-- FROZEN_FEEDBACK_RETRACT: sixteen samples with equal RAWSUM (R143). -/
def frozenFeedback (n : ArmId) (d : Dev) : Dev :=
  if servoOn n d && !unloaded n d && decide (16 ≤ rd (SRV_RAW_SAME n) d) then
    positionFault n (raise (pgSrv n) 4 (retractFrom (.arm n) n d))
  else d

def execFrozenFeedbackRetract (n : ArmId) (s : State) : Out := onDev (frozenFeedback n) s

/-- FOLLOWING_ERROR_INHIBIT: |PES| above FELIM for more than FETIME wedges of track-following (R143). -/
def followingError (n : ArmId) (d : Dev) : Dev :=
  if servo n d = svFollow ∧ rd (CTL_FETIME_FETIME n) d < (arm n d).feRun ∧ isSet (CTL_SUPSTAT_FE n) d = false then
    let d := wrs [(CTL_SUPSTAT_FE n, 1), (SRV_STAT_WROK n, 0)] (inhibitNow n 1 d)
    positionFault n (raise (pgCtl n) 1 (onArm n (fun a => { a with wrRun := 0 }) d))
  else d

def execFollowingErrorInhibit (n : ArmId) (s : State) : Out := onDev (followingError n) s

end Sys2Proof.Machine
end

