-- ==== Sys2Proof/Machine/Channel.lean ====
section
/-!
DEFINITION. Machine/Channel.lean: the read channel and recovery (R68, R72 to R96): the two channels and their roles, readers, parameter
sets, sync decisions, decodes and delivery checks, and the retry ladder.
-/
namespace Sys2Proof.Machine

/-! ## Channels and readers -/

/-- The arm has a channel: one serves, and a reader is in use (R86, R88). -/
def hasChannel (n : Nat) (d : Dev) : Bool := (serveCh n d).isSome && !(rdrs n d).isEmpty

/-- A written sector can be verified: by the TRR, or by the LDR where deferred verification is allowed (R108, R111). -/
def canVerify (n : Nat) (d : Dev) : Bool :=
  hasChannel n d && ((rdrs n d).contains 1 || isSet (WRP_RAWCTL_DEFEN n) d)

/-- Deferred verification is in force (R111). -/
def deferring (n : Nat) (d : Dev) : Bool := canVerify n d && !(rdrs n d).contains 1

/-- Write inhibit bit 4 and deferred verification follow the channels and readers (R103, R111). -/
def pathUpdate (n : Nat) (d : Dev) : Dev :=
  let d :=
    if canVerify n d then (if (rd (WRP_WISTAT_SRC n) d).testBit 4 then inhibitLiftNext n 4 d else inhibitLift n 4 d)
    else inhibitNext n 4 d
  if deferring n d && !(page (pgWrp n) d).degraded then raise (pgWrp n) 3 (setDegraded (pgWrp n) true d)
  else if deferring n d then d else setDegraded (pgWrp n) false d

/-! ## Unrecoverable sectors (R93) -/

/-- The rung-11 record of a sector (R93, R333, R418). -/
def lostPayload (n : Nat) (w : Work) (k mask : Nat) (d : Dev) : List Nat :=
  let p := zoneGet w.zrec d
  let pl := (sectorPlace n w k d).2
  let nb := namedBlock w k p.2 d
  [n, selHead n d] ++ leBytes mask 2 ++ leBytes pl.1 4 ++ leBytes pl.2 2 ++ [0, 0]
    ++ leBytes (if w.zrec = noRec then 2 ^ 32 - 1 else w.zrec) 4 ++ leBytes (if w.zrec = noRec then 0xFFFF else ofsAt w k) 2
    ++ [nb.1, 0] ++ leBytes nb.2 8

/-- The sequence number that the next record queued will get (R331). -/
def nextSeq (d : Dev) : Nat := rd LOG_SEQ_NEXT d + d.recd.queue.length

/-- Rung 11 (R93): the sector is declared unrecoverable on the page of the serving channel, or of the channel live last. -/
def declareLost (n : Nat) (w : Work) (k mask rung : Nat) (d : Dev) : Dev :=
  let c := servePage n d
  let seq := nextSeq d
  let pay := lostPayload n w k mask d
  let d := bumpEv (pgRch n c) (RCH_RECCNT_TRY n c 11) 7 1 d
  let d := raiseRec (pgRch n c) 2 3 pay d
  workEnd n w.id (sectorLost n w k rung seq d)

/-- The highest rung of a mask of rungs tried. -/
def topRung (mask : Nat) : Nat := ((List.range 12).filter (fun r => mask.testBit r)).getLast?.getD 0

/-- Without a channel the arm's reads in flight and in the ladder end at rung 11 without decoding (R86). -/
def noChannel (n : Nat) (d : Dev) : Dev :=
  let a := arm n d
  let d := ladStat n (onArm n (fun a => { a with flights := [], ladder := [], ladOfs := 0 }) d)
  let all := a.flights.map (fun f => (f.work, f.sec, 0)) ++ a.ladder.map (fun s => (s.work, s.sec, s.mask))
  all.foldl (fun d x => match work n x.1 d with
    | some w => declareLost n w x.2.1 x.2.2 (topRung x.2.2) d
    | none => d) d

/-! ## Roles (R84 to R86) -/

/-- Channel `c` ceases to be live: event bit 6 (R86). -/
def unlive (n c m : Nat) (d : Dev) : Dev :=
  let was := chMode n c d == chLive
  let d := setMode n c m d
  if was then raise (pgRch n c) 6 (onArm n (fun a => { a with liveLast := c }) d) else d

/-- Channel A has a lasting fault (R86, R188): it enters FAILED, and the joker stays live. -/
def failA (n : Nat) (d : Dev) : Dev :=
  let d := raise (pgRch n 0) 1 (unlive n 0 chFailed d)
  let d := onArm n (fun a => { a with takeover := if a.takeover = some 0 then none else a.takeover }) d
  reason 0 (setBit GLB_HEALTH_JOKERARMS n d)

/-- One error of the CAL class, a failed CH run (R188). -/
def calError (n : Nat) (d : Dev) : Dev :=
  errClass (pgCal n) (fun d => raise (pgCal n) 5 (failA n d)) d

/-- The CH run is lost with the joker (R86, R187): it counts as failed. -/
def calJokerLost (n : Nat) (d : Dev) : Dev :=
  if (calRun n 0 d).isSome then
    calError n (calEnd n 0 (raiseRec (pgCal n) 2 2 [0, rd (RCH_MODE_SLOT n 1) d, 0xFF] d))
  else d

/-- Every sector in flight is decoded anew by channel `c` from the sample buffer, and its own result replaces the other's (R86). -/
def retarget (n c : Nat) (d : Dev) : Dev :=
  let set := setWords n c (plainVariant n d) (rd (RCH_MODE_SLOT n c) d) d
  onArm n (fun a => { a with flights := a.flights.map (fun f =>
    { f with ch := c, set := set, cands := f.first, best := none, ended := f.first.isEmpty }) }) d

/-- Channel `c` is to take over at the next sector boundary, if its mode allows it (R86): the joker from SHADOW or OFF,
channel A from ADAPT, whose calibration run is lost. Sectors in flight are its own from now on; the table says so of the joker, and the
model takes it of channel A as well (DEDUCED, notes/assumptions/108). Otherwise the arm has no channel. -/
def takeOver (n c : Nat) (d : Dev) : Dev :=
  let m := chMode n c d
  if m = chShadow ∨ m = chOff then retarget n c (onArm n (fun a => { a with takeover := some c }) d)
  else if m = chAdapt then pathUpdate n (calJokerLost n (retarget n c (onArm n (fun a => { a with takeover := some c }) d)))
  else pathUpdate n (noChannel n (onArm n (fun a => { a with takeover := none }) d))

/-- The lasting action of a channel's self-check class (R86, R95). -/
def channelFail (n c : Nat) (d : Dev) : Dev :=
  let serving := serveCh n d == some c
  let d := if c = 0 ∧ chMode n 0 d = chAdapt then calEnd n 0 (calAbandonKind n 0 d) else d
  let d :=
    if c = 0 then failA n d
    else setDegraded (pgRch n 1) true (raise (pgRch n 1) 1 (unlive n 1 chFailed d))
  if serving then takeOver n (1 - c) d else pathUpdate n d

/-- A self-check failure of channel `c` (R80, R86): event bit 0 and one error of its class. The channel enters SELFTEST;
the other takes over if it was live; a CH run is abandoned with A. If the class is promoted the channel has failed
instead. When the second channel fails while the first is in SELFTEST, event bit 1 is raised on the failing page. -/
def selfCheckFail (n c : Nat) (d : Dev) : Dev :=
  let d := errClass (pgRch n c) (channelFail n c) (raise (pgRch n c) 0 d)
  if chMode n c d = chFailed then d
  else
    let serving := serveCh n d == some c
    let d := if c = 0 ∧ chMode n 0 d = chAdapt then calEnd n 0 (calAbandonKind n 0 d) else d
    let other := chMode n (1 - c) d
    let d := unlive n c chSelftest d
    if serving then
      takeOver n (1 - c) (if other = chSelftest ∨ other = chFailed then raise (pgRch n c) 1 d else d)
    else pathUpdate n d

/-- A channel's mode at rest (R84): the joker shadows or is off. -/
def restMode (n : Nat) (d : Dev) : Nat := if isSet (RCH_MODE_SHADOWEN n 1) d then chShadow else chOff

/-- SELFTEST_DONE: a self-test ends (R86). A that passes is live again at the next boundary; the joker returns to rest,
or becomes live where the arm has no channel. A failed self-test is a further self-check failure of the class. -/
def selftestDone (n : ArmId) (ch : Chan) (pass : Bool) (d : Dev) : Dev :=
  let c := match ch with | .a => 0 | .joker => 1
  if chMode n c d ≠ chSelftest then d
  else if pass then
    if c = 0 then onArm n (fun a => { a with takeover := some 0 }) d
    else if (serveCh n d).isNone then onArm n (fun a => { a with takeover := some 1 }) d
    else setMode n 1 (restMode n d) d
  else errClass (pgRch n c) (channelFail n c) (raise (pgRch n c) 0 d)

def execSelftestDone (n : ArmId) (ch : Chan) (pass : Bool) (s : State) : Out := onDev (selftestDone n ch pass) s

/-! ## Parameter sets -/

/-- Firmware commits a set of channel `c`: a CH run discards its results for that slot of channel A (R187). -/
def calSkip (n c : Nat) (d : Dev) : Dev :=
  if c = 0 then onCalRun n 0 (fun r => { r with skip := rd (RCH_SETSEL_SLOT n 0) d :: r.skip }) d else d

def putSetMem (n c : Nat) (m : Store Nat) (d : Dev) : Dev :=
  onArm n (fun a => if c = 0 then { a with sets := m } else { a with setsJ := m }) d

/-- Install the 64 words of a set. -/
def installSet (n c key : Nat) (ws : List Nat) (d : Dev) : Dev :=
  putSetMem n c (Store.puts (fun _ => 0) key ws (setMem n c d)) d

def chanNo (ch : Chan) : Nat := match ch with | .a => 0 | .joker => 1

def putStage (n c : Nat) (ws : List Nat) (d : Dev) : Dev :=
  onArm n (fun a => if c = 0 then { a with stageA := ws } else { a with stageJ := ws }) d
def stageOf (n c : Nat) (d : Dev) : List Nat := if c = 0 then (arm n d).stageA else (arm n d).stageJ

/-- SET_SELECT: a write to RCH_SETSEL loads the set into the staging buffer (R83). A reserved variant leaves the
selection as it is. -/
def setSelect (n : ArmId) (ch : Chan) (v : Nat) (d : Dev) : Dev :=
  let c := chanNo ch
  ifReach (pgRch n c) (fun d =>
    let d := wr (RCH_SETSEL_SLOT n c) (bits v 0 6) d
    let d := if (RCH_SETSEL_VARIANT n c).allows (bits v 6 2) then wr (RCH_SETSEL_VARIANT n c) (bits v 6 2) d else d
    let key := setKey (rd (RCH_SETSEL_VARIANT n c) d) (rd (RCH_SETSEL_SLOT n c) d)
    wr (RCH_SETCTL_PTR n c) 0 (putStage n c (Store.gets (fun _ => 0) key 64 (setMem n c d)) d)) d

def execSetSelect (n : ArmId) (ch : Chan) (v : Nat) (s : State) : Out := onDev (setSelect n ch v) s

/-- SET_DATA_ACCESS: a read or a write of RCH_SETDATA (R83). -/
def setData (n : ArmId) (ch : Chan) (w : Option Nat) (d : Dev) : Dev :=
  let c := chanNo ch
  if reach (pgRch n c) d then
    let p := rd (RCH_SETCTL_PTR n c) d
    let d := match w with
      | some v => putStage n c ((stageOf n c d).set p (v % 2 ^ 32)) d
      | none => { d with rdata := (stageOf n c d).getD p 0 }
    wr (RCH_SETCTL_PTR n c) ((p + 1) % 64) d
  else match w with
    | some _ => d
    | none => { d with rdata := absent (pgRch n c) d }

def execSetDataAccess (n : ArmId) (ch : Chan) (w : Option Nat) (s : State) : Out := onDev (setData n ch w) s

/-- The set is in use by the channel: its slot and variant are selected while it decodes with its own sets (R183). -/
def setInUse (n c key : Nat) (d : Dev) : Bool :=
  let m := chMode n c d
  (m == chLive || m == chShadow) && servoOn n d
    && key == setKey (rd (RCH_MODE_VARIANT n c) d) (rd (RCH_MODE_SLOT n c) d)

/-- SET_COMMIT: RCH_SETCTL.COMMIT (R83). -/
def setCommit (n : ArmId) (ch : Chan) (d : Dev) : Dev :=
  let c := chanNo ch
  ifReach (pgRch n c) (fun d =>
    let ws := stageOf n c d
    let key := setKey (rd (RCH_SETSEL_VARIANT n c) d) (rd (RCH_SETSEL_SLOT n c) d)
    if crc32c (wordBytes (ws.take 63)) ≠ ws.getD 63 0 then raise (pgRch n c) 3 (wr (RCH_SETCTL_BAD n c) 1 d)
    else if setInUse n c key d then
      calSkip n c <| wr (RCH_SETCTL_PEND n c) 1 (onArm n (fun a =>
        if c = 0 then { a with pendA := some (key, ws) } else { a with pendJ := some (key, ws) }) d)
    else calSkip n c (installSet n c key ws d)) d

def execSetCommit (n : ArmId) (ch : Chan) (s : State) : Out := onDev (setCommit n ch) s

/-- Install the set that waits on channel `c` (R83). -/
def installPending (n c : Nat) (d : Dev) : Dev :=
  match (if c = 0 then (arm n d).pendA else (arm n d).pendJ) with
  | none => d
  | some (key, ws) =>
    let d := onArm n (fun a => if c = 0 then { a with pendA := none } else { a with pendJ := none }) d
    wr (RCH_SETCTL_PEND n c) 0 (installSet n c key ws d)

/-- SET_COPY: RCH_SETCTL.COPYA in the joker's page (R87): the sets of A as they stand now go to the joker. Discarded
while the joker is LIVE. -/
def setCopy (n : ArmId) (d : Dev) : Dev :=
  ifReach (pgRch n 1) (fun d =>
    if chMode n 1 d = chLive then d
    else wr (RCH_SETCTL_COPYBUSY n 1) 1 (onArm n (fun a => { a with copySrc := some a.sets }) d)) d

def execSetCopy (n : ArmId) (s : State) : Out := onDev (setCopy n) s

/-- SET_COPY_DONE: the copy ends (R87). -/
def setCopyDone (n : ArmId) (d : Dev) : Dev :=
  match (arm n d).copySrc with
  | none => d
  | some m => wr (RCH_SETCTL_COPYBUSY n 1) 0 (putSetMem n 1 m (onArm n (fun a => { a with copySrc := none }) d))

def execSetCopyDone (n : ArmId) (s : State) : Out := onDev (setCopyDone n) s

/-! ## Readers -/

/-- Channel A adapts on a sector that the live channel decodes (R183): the slot in use counts it, for variant A a two-reader sector,
for variant C (`varC`) a read-after-write sector. -/
def calCount (n : Nat) (varC : Bool) (d : Dev) : Dev :=
  let s := rd (RCH_MODE_SLOT n 0) d + 64 * b2n varC
  if chMode n 0 d = chAdapt then
    onCalRun n 0 (fun r => if r.phase = 1 then { r with counts := Store.put 0 s (Store.get 0 s r.counts + 1) r.counts } else r) d
  else d

/-- One error of a reader's class (R88, R95): reader 0 LDR, 1 TRR. Promotion clears the reader's enable and raises event
bit 1 on channel A's page. -/
def readerError (n k : Nat) (d : Dev) : Dev :=
  let e := if k = 0 then (arm n d).ldrErr else (arm n d).trrErr
  let r := e.count (rd (RCH_RDRERRWIN_WINDOW n) d) (rd (RCH_RDRERRWIN_THRESH n) d) (nowMs d)
  let d := onArm n (fun a => if k = 0 then { a with ldrErr := r.1 } else { a with trrErr := r.1 }) d
  if r.2 then raise (pgRch n 0) 1 (wr (if k = 0 then RCH_AFECTL_LDREN n else RCH_AFECTL_TRREN n) 0 d) else d

/-- Judge reader `k` for the sectors from this boundary on (R88). -/
def judgeReader (n k : Nat) (bad : Bool) (d : Dev) : Dev :=
  let d := onArm n (fun a => if k = 0 then { a with ldrBad := bad } else { a with trrBad := bad }) d
  if bad && isSet (if k = 0 then RCH_AFECTL_LDREN n else RCH_AFECTL_TRREN n) d then readerError n k d else d

/-- The judgements of the sectors since the last boundary, and of the inputs that the preamplifier reports open (R88, R120). -/
def judgeNow (n : Nat) (d : Dev) : Dev :=
  let a := arm n d
  let o := fun k => a.openIn.testBit k
  match a.judge with
  | some j =>
    let d := onArm n (fun a => { a with judge := none }) d
    judgeReader n 1 (j.2 || o 1) (judgeReader n 0 (j.1 || o 0) d)
  | none => when' (o 1) (judgeReader n 1 true) (when' (o 0) (judgeReader n 0 true) d)

/-- At a sector boundary the channels take the readers in use (R88): RCH_MODE.RDR, event bit 4 where single-reader detection is entered,
and PG_STAT.DEGRADED of channel A's page, which abandons a CH run (R187). A reader that firmware has disabled counts no error. -/
def readersNow (n : Nat) (d : Dev) : Dev :=
  let old := rdrs n d
  let v := match ldrUse n d, trrUse n d with
    | true, true => 0 | true, false => 1 | false, true => 2 | false, false => 3
  let d := wrs [(RCH_MODE_RDR n 0, v), (RCH_MODE_RDR n 1, v)] d
  let new := rdrs n d
  let d := if new.length = 1 ∧ old ≠ new then raise (pgRch n 0) 4 d else d
  let d := if new.length = 2 then d else calAbandonKind n 0 d
  let d := setDegraded (pgRch n 0) (decide (new.length ≠ 2)) d
  pathUpdate n (when' new.isEmpty (noChannel n) (selectSet n false d))

/-! ## Decodes (R68, R79, R80) -/

/-- Where a sector is decoded (R68): the positions, whether only early detections fell in the window of half-width `win`, and
whether the predicted position is tried where late ones fail. With the synthesiser unlocked no predicted position is. -/
def positions (n win : Nat) (syncs : List Int) (d : Dev) : List Int × Bool × Bool :=
  let locked := isSet (ARM_LSSTAT_LOCK n) d
  let ds := syncs.filter (fun s => decide (s.natAbs ≤ win))
  let early := ds.filter (fun s => decide (s < -2))
  let late := ds.any (fun s => decide (2 < s))
  let zero := if locked then [(0 : Int)] else []
  let cs := if ds.isEmpty then zero else if early.isEmpty || ds.contains 0 then ds else ds ++ zero
  (cs, !ds.isEmpty && decide (early.length = ds.length), late && locked && !cs.contains 0)

/-- The decoder of channel `c` on the samples of a sector (R76 to R79): hard decisions as bytes, zero syndrome, iterations used. -/
def channelDecode (n c : Nat) (set : List Nat) (rs : List Nat) (split : Nat) (o : Int) (l t : List Int) (lim : Nat) (d : Dev) :
    List Nat × Bool × Nat :=
  decodeLlr (rd (RCH_LDPCCTL_ALPHA n c) d) (16 + rd (RCH_LDPCCTL_LLRCLIP n c) d) (isSet (RCH_LDPCCTL_ETERM n c) d) lim
    (detect set rs (codeStreams set rs split o l t))

/-- Hard decisions with the bits `fs` inverted. -/
def flipBits (word : List Nat) (fs : List Nat) : List Nat :=
  fs.foldl (fun w b => w.set (b / 8) (w.getD (b / 8) 0 ^^^ 2 ^ (7 - b % 8))) word

/-- A decode of channel `c` meets R80: a zero syndrome, the checker's zero syndrome on the delivered hard decisions, and the reference
tag; the page's counters and a self-check failure follow. -/
def decodeOk (n c : Nat) (w : Work) (k : Nat) (r : List Nat × Bool × Nat) (fault : Bool) (flips : List Nat) (d : Dev) :
    Dev × Option (List Nat) :=
  let d := bumpEv (pgRch n c) (RCH_SECCNT_SECTORS n c) 7 1 d
  let d := bumpEv (pgRch n c) (RCH_ITERSUM_ITER n c) 7 r.2.2 d
  let word := flipBits r.1 flips
  if fault then (selfCheckFail n c d, none)
  else if !r.2.1 then (d, none)
  else if !ldpcOk word then (selfCheckFail n c d, none)
  else if tagFits w k (tagOf ((word.drop 4096).take 16)) then (d, some word)
  else (bumpEv (pgRch n c) (RCH_CHKCNT_PIFAIL n c) 7 1 d, none)

/-- The channel other than `c`, if it shadows it (R84). -/
def shadowOf (n c : Nat) (d : Dev) : Option Nat := if chMode n (1 - c) d = chShadow then some (1 - c) else none

/-- Change the channel counters of the channel that decodes, and of one that shadows it (R84). -/
def bumpBoth (n c : Nat) (f : Nat → Fld) (d : Dev) : Dev :=
  let one := fun (c : Nat) (d : Dev) => bumpEv (pgRch n c) (f c) 7 1 d
  match shadowOf n c d with
  | some s => one s (one c d)
  | none => one c d

/-- A gain after one step of the gain loop: 0.25 dB toward agreement (R75). -/
def gainStep (g : Nat) (e : Int) : Nat := if 0 < e then g - 1 else if e < 0 then min 255 (g + 1) else g

/-- The gain loop after a delivered sector (R75): the new gains wait for the next sector boundary. -/
def gainLoop (n : Nat) (set : List Nat) (rs : List Nat) (split : Nat) (o : Int) (l t : List Int) (d : Dev) : Dev :=
  if isSet (RCH_AFECTL_GAINHOLD n) d then d
  else
    let g := (arm n d).gainNext.getD (rd (RCH_AFESTAT_GAINL n) d, rd (RCH_AFESTAT_GAINT n) d)
    let e := fun (r : Nat) (x : List Int) => if rs.contains r then gainError set r (codeSpan split o (equalised set r x)) else 0
    onArm n (fun a => { a with gainNext := some (gainStep g.1 (e 0 l), gainStep g.2 (e 1 t)) }) d

/-- Gains that wait take effect at a sector boundary (R75). -/
def gainsNow (n : Nat) (d : Dev) : Dev :=
  match (arm n d).gainNext with
  | some g => onArm n (fun a => { a with gainNext := none }) (wrs [(RCH_AFESTAT_GAINL n, g.1), (RCH_AFESTAT_GAINT n, g.2)] d)
  | none => d

/-! ## Retry ladder -/

/-- One revolution in CLK_AUX cycles, from the lane synthesiser's wedge period (R91). -/
def revAux (n : Nat) (d : Dev) : Nat := (arm n d).period * 720 / 768

/-- The readers that rung 7 tries, in order (R89, R90). -/
def rung7Readers (n : Nat) (d : Dev) : List Nat := (rdrs n d).filter (fun k => (rd (RCH_RUNG_PARAM n 7) d).testBit k)

/-- Tracks that the 64 positions of a stripe span (R210). -/
def stripeTracks (w : Work) (k : Nat) (d : Dev) : Nat :=
  let p := zoneGet w.zrec d
  let l := slipList w.zrec p.2.slips p.1
  let s := ofsAt w k / 64
  let ts := (List.range 64).map (fun j => (placeOf p.2 (slipPos l.2 (64 * s + j)) d).1)
  (ts.foldl (fun (u : List Nat) t => if u.contains t then u else t :: u) []).length

/-- What one attempt of a rung costs (R91), in CLK_AUX cycles; rung 10 in a stripe that is not complete costs nothing (R210). -/
def rungCost (n r : Nat) (s : LadSec) (d : Dev) : Nat :=
  let rev := revAux n d
  if r = 8 then 2 * rev
  else if r = 9 then rd (RCH_RUNG_PARAM n 9) d * rev
  else if r = 10 then
    match work n s.work d with
    | some w =>
      let g := zoneGet w.zrec d
      if stripeComplete w.zrec g.2 (ofsAt w s.sec / 64) d then (1 + stripeTracks w s.sec d) * rev else 0
    | none => rev
  else rev

/-- The rung is skipped (R89). R89 does not say what rung 7 does where PARAM names no reader in use: the model skips it. DESIGN CHOICE,
notes/assumptions/110. -/
def rungSkipped (n r : Nat) (s : LadSec) (d : Dev) : Bool :=
  !isSet (RCH_RUNG_EN n r) d || (r == 3 && !isSet (ARM_LSSTAT_LOCK n) d)
    || (r == 10 && !((work n s.work d).any (fun w => w.parity)))
    || (r == 7 && (rung7Readers n d).isEmpty)

/-- The deadline of a work item allows an attempt of cost `c` to start now (R91). -/
def inDeadline (n : Nat) (s : LadSec) (c : Nat) (d : Dev) : Bool :=
  match work n s.work d with
  | some w => w.deadline == 0 || decide (d.time + c ≤ w.deadline)
  | none => true

/-- The rung's budget allows an attempt of cost `c` (R91). -/
def inBudget (n r : Nat) (s : LadSec) (c : Nat) (d : Dev) : Bool :=
  let b := rd (RCH_RUNG_BUDGET n r) d
  b == 0 || decide (d.time - s.rungAt + c ≤ b * 1250)

/-- The rung at which the sector's next attempt or pass is made, from rung `r` on, or 11 (R89, R91): a rung that has had its tries or
whose budget is too small gives up before the deadline is looked at. -/
def ladSeek (n : Nat) : List Nat → LadSec → Dev → LadSec
  | [], s, _ => { s with rung := 11 }
  | r :: rs, s, d =>
    let s' := if s.rung = r then s else { s with rung := r, tries := 0, rungAt := d.time, pass := false }
    if rungSkipped n r s' d then ladSeek n rs { s' with rung := r, tries := 0, pass := false } d
    else
      let c := rungCost n r s' d
      if rd (RCH_RUNG_TRIES n r) d ≤ s'.tries || !inBudget n r s' c d then ladSeek n rs s' d
      else if !inDeadline n s' c d then { s' with rung := 11 }
      else s'

/-- Replace the first sector of the ladder, or take it out. -/
def ladHead (n : Nat) (s : Option LadSec) (d : Dev) : Dev :=
  onArm n (fun a => { a with ladder := s.toList ++ a.ladder.drop 1 }) d

/-- Replace sector `i` of the ladder, or take it out. -/
def ladPut (n i : Nat) (s : Option LadSec) (d : Dev) : Dev :=
  onArm n (fun a => { a with ladder := a.ladder.take i ++ s.toList ++ a.ladder.drop (i + 1) }) d

/-- The heater code of rung 8 (R90, R118): the read heater is raised by PARAM steps while the ladder stands at the rung, and returns to
what it was. A step is one code toward the disk. DESIGN CHOICE, notes/assumptions/109. -/
def heaterStep (n want : Nat) (d : Dev) : Dev :=
  let a := arm n d
  let h := selHead n d
  if a.heatR = want then d
  else
    queueFrame n (0x5000 + 0x100 * h) (min 255 (Store.get 0 h a.heatBase + want)) false (onArm n (fun a => { a with heatR := want }) d)

/-- What the ladder's next attempt asks of the arm (R81, R90): the position offset of rungs 4 and 5 in 2^-30 track, toward the outer
diameter, where track numbers are lower, or toward the inner; the heater step of rung 8; the variant of rungs 6 and 7. -/
def ladOffset (n : Nat) (d : Dev) : Dev :=
  let r := ((arm n d).ladder.head?.map LadSec.rung).getD 0
  let o : Int :=
    if r = 4 then -((rd (RCH_RUNG_PARAM n 4) d : Int) * 2 ^ 24)
    else if r = 5 then (rd (RCH_RUNG_PARAM n 5) d : Int) * 2 ^ 24 else 0
  let d := heaterStep n (if r = 8 then rd (RCH_RUNG_PARAM n 8) d else 0) d
  selectSet n false (ladStat n (onArm n (fun a => { a with ladOfs := o }) d))

/-- Settle sector `i` of the ladder and those after it: one at rung 11, or on an arm without a channel, is declared unrecoverable; one
whose command has gone is dropped without a record (R92). Sectors behind the first that no attempt has met, and one that the zone engine works on, stay as they are. -/
def ladGo (n : Nat) : Nat → Nat → Dev → Dev
  | 0, _, d => d
  | fuel + 1, i, d =>
    match (arm n d).ladder[i]? with
    | none => d
    | some s =>
      if (0 < i ∧ s.mask = 0) ∨ (s.rung = 10 ∧ s.pass = true) then ladGo n fuel (i + 1) d
      else
        match work n s.work d with
        | none => ladGo n fuel i (ladPut n i none d)
        | some w =>
          if w.kind = .hostRead ∧ (w.ctx.any (fun i => (ctx i d).isSome)) = false ∧ w.ahead = 0 then
            ladGo n fuel i (workEnd n w.id (ladPut n i none d))
          else
            let s' := if hasChannel n d then ladSeek n ((List.range 11).filter (fun r => decide (max 1 s.rung ≤ r))) s d
              else { s with rung := 11 }
            if s'.rung = 11 then ladGo n fuel i (declareLost n w s.sec s.mask (topRung s.mask) (ladPut n i none d))
            else ladGo n fuel (i + 1) (ladPut n i (some s') d)

def ladRun (n : Nat) (d : Dev) : Dev := ladOffset n (ladGo n (2 * (arm n d).ladder.length + 1) 0 d)

/-- A sector enters the ladder at a rung (R89); without a channel it goes straight to rung 11 (R86). Where firmware has asked for the
seek interface, its attempts wait (R139). -/
def ladEnter (n : Nat) (w : Work) (k r : Nat) (d : Dev) : Dev :=
  let d := countArm n (fun x => { x with ladder := add32 x.ladder 1 }) d
  if hasChannel n d then
    let p := sectorPlace n w k d
    let s : LadSec := ⟨w.id, k, r, 0, d.time, 0, d.time, false, p.1, p.2.1⟩
    let first := (arm n d).ladder.isEmpty
    let d := onArm n (fun a => { a with
      ladder := a.ladder ++ [s], ladWait := a.ladWait || (first && isSet (SRV_CTL_FWOWN n) d) }) d
    if first then ladRun n d else ladStat n d
  else declareLost n w k 0 0 d

/-- The first sector's attempt is under way (R92, R139): the arm is read-settled on its track with the synthesiser locked, no trump work
runs, and the seek interface is the hand's. -/
def ladActive (n : Nat) (d : Dev) : Bool :=
  match (arm n d).ladder with
  | [] => false
  | s :: _ =>
    isSet (SRV_STAT_RDOK n) d && isSet (ARM_LSSTAT_LOCK n) d && !(arm n d).ladWait && !isSet (SRV_CTL_OWNED n) d
      && selHead n d == s.head && (arm n d).tgtTrack == s.track
      && !(hand n d).any (fun w => w.started && w.trump != 0)

/-- The sectors that share the first one's attempt (R89): on one track, at the same rung and pass. -/
def ladShares (s x : LadSec) : Bool := x.head == s.head && x.track == s.track && x.rung == s.rung && x.pass == s.pass

/-- The mean of rows of samples, bit by bit (R90 rung 9). -/
def meanRows (rows : List (List Int)) : List Int :=
  match rows with
  | [] => []
  | x :: xs => (xs.foldl (List.zipWith (fun a b => a + b)) x).map (fun v => rdiv v rows.length)

/-- The samples of an attempt (R90): rung 9 averages those of PARAM revolutions. -/
def attemptSamples (n r : Nat) (x : AttemptIn) (d : Dev) : List Int × List Int :=
  if r = 9 then
    let ys := ((x.io.l, x.io.t) :: x.more).take (rd (RCH_RUNG_PARAM n 9) d)
    (meanRows (ys.map (fun y => y.1)), meanRows (ys.map (fun y => y.2)))
  else (x.io.l, x.io.t)

/-- The decodes of one sector at its positions (R68): the converging one nearest the prediction; a fault strikes the first. -/
def decodeAll (n c : Nat) (w : Work) (k lim : Nat) (set rs : List Nat) (split : Nat) (l t : List Int) (forced fault : Bool)
    (flips : List Nat) (cs : List Int) (d : Dev) : Dev × Option (Int × List Nat) :=
  (cs.zipIdx).foldl (fun st p =>
    let r := channelDecode n c set rs split p.1 l t lim st.1
    let q := decodeOk n c w k (if forced then (r.1, false, r.2.2) else r) (fault && p.2 == 0) flips st.1
    (q.1, match q.2, st.2 with
      | some x, some b => if p.1.natAbs < b.1.natAbs then some (p.1, x) else some b
      | some x, none => some (p.1, x)
      | none, b => b)) (d, none)

/-- What an attempt at rung `r` decodes with (R81, R90): the iteration limit and the set of channel `c`; the readers, of rung 7 one
after the other. -/
def attemptLimit (n r : Nat) (d : Dev) : Nat := rd (RCH_RUNG_PARAM n (if r = 1 then 1 else 2)) d
def attemptSet (n c r : Nat) (d : Dev) : List Nat :=
  setWords n c (if r = 6 then 1 else if r = 7 then 2 else plainVariant n d) (rd (RCH_MODE_SLOT n c) d) d
def attemptReaders (n : Nat) (s : LadSec) (d : Dev) : List Nat :=
  if s.rung = 7 then ((rung7Readers n d).drop (b2n s.pass)).take 1 else rdrs n d

/-- The half-width of the sync window of an attempt: 2 bits at rung 3. -/
def attemptWindow (n r : Nat) (d : Dev) : Nat := if r = 3 then 2 else rd (RCH_SYNCWIN_WIN n) d

/-- The bits of a sector before its split (R66). -/
def splitAt (n : Nat) (w : Work) (k : Nat) (d : Dev) : Nat := splitOf (placeFrags n (sectorPlace n w k d) d)

/-- One sector's part of an attempt, or of a reader pass of rung 7 (R89 to R91): delivered, or one try more. `x` is what comes round;
nothing where the sector was not read. -/
def attemptOne (n : Nat) (s : LadSec) (x : Option AttemptIn) (d : Dev) : Dev :=
  let isS := fun (y : LadSec) => y.work == s.work && y.sec == s.sec
  match work n s.work d with
  | none => onArm n (fun a => { a with ladder := a.ladder.filter (fun y => !isS y) }) d
  | some w =>
    let c := servePage n d
    let d := if s.pass then d else bumpEv (pgRch n c) (RCH_RECCNT_TRY n c s.rung) 7 1 d
    let rs := attemptReaders n s d
    let set := attemptSet n c s.rung d
    let split := splitAt n w s.sec d
    let r := match x with
      | some y =>
        let q := attemptSamples n s.rung y d
        let ps := positions n (attemptWindow n s.rung d) y.io.syncs d
        let run := decodeAll n c w s.sec (attemptLimit n s.rung d) set rs split q.1 q.2 (forcedAt n s.rung (w.id, s.sec) d)
        let r1 := run y.fault y.flips ps.1 d
        let r2 := if r1.2.isNone && ps.2.2 then run false y.flips [0] r1.1 else r1
        (r2.1, r2.2.map (fun b => (q, b)))
      | none => (d, none)
    let d := r.1
    match r.2 with
    | some b =>
      let d := onArm n (fun a => { a with ladder := a.ladder.filter (fun y => !isS y) }) d
      let d := bumpEv (pgRch n c) (RCH_RECCNT_OK n c s.rung) 7 1 (gainLoop n set rs split b.2.1 b.1.1 b.1.2 d)
      workEnd n w.id (when' (decide (rs.length = 2)) (calCount n false) (deliverSector n w s.sec s.rung b.2.2 d))
    | none =>
      let more := s.rung == 7 && !s.pass && decide (2 ≤ (rung7Readers n d).length)
      onArm n (fun a => { a with ladder := a.ladder.map (fun y =>
        if isS y then
          { y with mask := y.mask ||| 2 ^ s.rung, tries := if more then y.tries else y.tries + 1, pass := more }
        else y) }) d

/-- LADDER_ATTEMPT_DONE: an attempt, or a reader pass of rung 7, of the ladder ends (R90, R91): `xs` are the sectors that share it, in
ladder order, as they came round. A pending request of firmware for the seek interface makes the further attempts wait (R139). -/
def ladderAttempt (n : ArmId) (xs : List AttemptIn) (d : Dev) : Dev :=
  match (arm n d).ladder with
  | [] => d
  | s :: _ =>
    if s.rung = 0 ∨ 10 ≤ s.rung ∨ ladActive n d = false then d
    else
      let d := (((arm n d).ladder.filter (ladShares s)).zipIdx).foldl (fun d p => attemptOne n p.1 xs[p.2]? d) d
      ladRun n (when' (isSet (SRV_CTL_FWOWN n) d) (onArm n (fun a => { a with ladWait := !a.ladder.isEmpty })) d)

def execLadderAttemptDone (n : ArmId) (xs : List AttemptIn) (s : State) : Out := onDev (ladderAttempt n xs) s

/-! ## On-the-fly reads -/

/-- Work kinds whose sectors are read. -/
def WorkKind.reads : WorkKind → Bool
  | .hostRead | .relocRead | .scanRead | .parityRead => true
  | .hostWrite | .relocWrite | .vaultWrite | .replayWrite => false

/-- The work item being read: started, with sectors still to come under the head. -/
def readingWork (n : Nat) (d : Dev) : Option Work :=
  (hand n d).find? (fun w => goesOn n w d && w.kind.reads && (decide (w.done < w.len + w.ahead) || !w.redo.isEmpty))

/-- The place in the item that comes under the head next: one to be read once more (R92), or the next in order. -/
def nextSec (w : Work) : Nat := w.redo.headD w.done
def secTaken (w : Work) : Work := if w.redo.isEmpty then { w with done := w.done + 1 } else { w with redo := w.redo.drop 1 }

/-- The sectors whose on-the-fly decodes have ended leave the sample buffer in sector order (R85): delivered, or into the ladder at rung
1, or at rung 3 with only early detections (R68). -/
def settleFlights (n : Nat) : Nat → Dev → Dev
  | 0, d => d
  | fuel + 1, d =>
    match (arm n d).flights with
    | [] => d
    | f :: fs =>
      let out := onArm n (fun a => { a with flights := fs }) d
      match work n f.work d with
      | none => settleFlights n fuel out
      | some w =>
        if !f.ended then d
        else
          match f.best with
          | some b =>
            let d := bumpEv (pgRch n f.ch) (RCH_RECCNT_OK n f.ch 0) 7 1 (gainLoop n f.set f.rdrs f.split b.1 f.l f.t out)
            settleFlights n fuel (workEnd n w.id
              (when' (decide (f.rdrs.length = 2)) (calCount n false) (deliverSector n w f.sec 0 b.2 d)))
          | none => settleFlights n fuel (ladEnter n w f.sec (if f.early then 3 else 1) out)

/-- A fifth sector's samples push the oldest sector out of the buffer (R73, R80): its decode has not ended, so it enters the ladder at
rung 1 and counts as an overrun. -/
def pushOut (n : Nat) (d : Dev) : Dev :=
  match (arm n d).flights with
  | f :: fs =>
    if fs.length < 3 then d
    else
      let d := bumpEv (pgRch n f.ch) (RCH_CHKCNT_OVERRUN n f.ch) 7 1 (onArm n (fun a => { a with flights := fs }) d)
      match work n f.work d with
      | some w => settleFlights n 4 (ladEnter n w f.sec 1 d)
      | none => settleFlights n 4 d
  | [] => d

/-- SECTOR_READ: the samples of a sector are taken into the sample buffer, its ADCs are judged (R88), and the sync window decides the
positions to decode (R68). -/
def sectorRead (n : ArmId) (io : SectorIn) (d : Dev) : Dev :=
  match readingWork n d with
  | none => d
  | some w =>
    if isSet (SRV_STAT_RDOK n) d = false then d
    else
      let k := nextSec w
      let bad := (adcFailed io.l io.t io.openL, adcFailed io.t io.l io.openT)
      let d := wrs [(RCH_AFESTAT_FAILL n, b2n bad.1), (RCH_AFESTAT_FAILT n, b2n bad.2)] d
      let d := onWork n w.id secTaken (onArm n (fun a => { a with judge := some bad }) d)
      if !hasChannel n d then declareLost n w k 0 0 d
      else
        let c := servePage n d
        let d := forceSelect n (w.id, k) (bumpBoth n c (fun c => RCH_RECCNT_TRY n c 0) (pushOut n d))
        let win := rd (RCH_SYNCWIN_WIN n) d
        let syncs := if isForced n (w.id, k) d && isSet (TST_FRC_SYNC n) d then [] else io.syncs
        let ds := syncs.filter (fun s => decide (s.natAbs ≤ win))
        let d := when' (ds.any (fun s => decide (s < -2))) (bumpBoth n c (fun c => RCH_SYNCEL_EARLY n c)) d
        let d := when' (ds.any (fun s => decide (2 < s))) (bumpBoth n c (fun c => RCH_SYNCEL_LATE n c)) d
        let d := when' ds.isEmpty (bumpBoth n c (fun c => RCH_SYNCMISS_SYNC_MISS n c)) d
        let ps := positions n win syncs d
        let set := setWords n c (plainVariant n d) (rd (RCH_MODE_SLOT n c) d) d
        let f : Flight := ⟨w.id, k, c, set, rdrs n d, splitAt n w k d, io.l, io.t, ps.1, ps.1,
          ps.2.1, ps.2.2, none, ps.1.isEmpty⟩
        settleFlights n 4 (onArm n (fun a => { a with flights := a.flights ++ [f] }) d)

def execSectorRead (n : ArmId) (io : SectorIn) (s : State) : Out := onDev (sectorRead n io) s

/-- The flight after a decode at `o` has ended with `x` (R68): with two converging positions the nearer to the prediction is kept, and
of two equally near the one whose decode ended first (DESIGN CHOICE, notes/assumptions/111); when none has converged, a late detection
leaves the predicted position to try. -/
def Flight.after (f : Flight) (o : Int) (x : Option (List Nat)) : Flight :=
  let best := match x, f.best with
    | some w, some b => if o.natAbs < b.1.natAbs then some (o, w) else some b
    | some w, none => some (o, w)
    | none, b => b
  let rest := f.cands.filter (fun c => c != o)
  if rest.isEmpty && best.isNone && f.alt then { f with cands := [0], alt := false }
  else { f with cands := rest, best := best, ended := rest.isEmpty }

/-- A channel that shadows decodes the same samples with its own set; its result is discarded and its counters are kept (R84). A fault
can strike it, or a channel that adapts on the samples, as well (R86, R187). -/
def shadowDecode (n : Nat) (w : Work) (f : Flight) (o : Int) (lim : Nat) (fault : Bool) (d : Dev) : Dev :=
  match shadowOf n f.ch d with
  | none => when' (fault && chMode n (1 - f.ch) d == chAdapt) (selfCheckFail n (1 - f.ch)) d
  | some c =>
    let set := setWords n c (plainVariant n d) (rd (RCH_MODE_SLOT n c) d) d
    (decodeOk n c w f.sec (channelDecode n c set f.rdrs f.split o f.l f.t lim d) fault [] d).1

/-- SECTOR_DECODE_DONE: an on-the-fly decode of a sector in the sample buffer at one of its positions ends (R68, R80). A sector that has
gone over to the other channel meanwhile is decoded anew. -/
def decodeDone (n : ArmId) (x : DecodeIn) (d : Dev) : Dev :=
  match (arm n d).flights[x.index]? with
  | none => d
  | some f =>
    match work n f.work d with
    | none => settleFlights n 4 (onArm n (fun a => { a with flights := a.flights.eraseIdx x.index }) d)
    | some w =>
      if f.ended || !f.cands.contains x.offset then d
      else
        let lim := rd (RCH_RUNG_PARAM n 0) d
        let r := channelDecode n f.ch f.set f.rdrs f.split x.offset f.l f.t lim d
        let d := shadowDecode n w f x.offset lim x.shadowFault d
        let q := decodeOk n f.ch w f.sec (if forcedAt n 0 (w.id, f.sec) d then (r.1, false, r.2.2) else r) x.fault x.flips d
        let d := q.1
        match (arm n d).flights[x.index]? with
        | some g =>
          if g.ch ≠ f.ch ∨ g.work ≠ f.work ∨ g.sec ≠ f.sec then d
          else settleFlights n 4 (onArm n (fun a => { a with flights := a.flights.set x.index (f.after x.offset q.2) }) d)
        | none => d

def execSectorDecodeDone (n : ArmId) (x : DecodeIn) (s : State) : Out := onDev (decodeDone n x) s

/-- A read's seek has not succeeded, or its heads are unloaded: nothing of it is under way on the arm. -/
def notReading (n : Nat) (w : Work) (d : Dev) : Bool :=
  let a := arm n d
  (!w.started || !isSet (SRV_STAT_RDOK n) d) && !a.ladder.any (fun s => s.work == w.id) && !a.flights.any (fun f => f.work == w.id)

/-- READ_DEADLINE_EXPIRY: the deadline of a read passes while its work waits (R92, R142). A sector in the ladder whose attempt is not
under way, or a read whose seek has not succeeded, ends at rung 11; one that a retract or a lost link took out of the ladder ends
with Unrecovered Read Error and no record. An attempt under way completes (R91). -/
def deadlineExpiry (n : ArmId) (d : Dev) : Dev :=
  let late := fun (w : Work) => w.kind == .hostRead && w.deadline != 0 && decide (w.deadline ≤ d.time)
  let runs := fun (s : LadSec) => (s.rung == 10 && s.pass) || (ladActive n d && (arm n d).ladder.head?.any (fun h => ladShares h s))
  let inLad := (arm n d).ladder.find? (fun s => (work n s.work d).any late && !runs s)
  match inLad with
  | some s =>
    match work n s.work d with
    | some w =>
      let head := (arm n d).ladder.head? == some s
      let d := declareLost n w s.sec s.mask (topRung s.mask) (onArm n (fun a => { a with ladder := a.ladder.erase s }) d)
      if head then ladRun n d else ladStat n d
    | none => d
  | none =>
    match (hand n d).find? (fun w => late w && notReading n w d) with
    | none => d
    | some w =>
      if w.redo.isEmpty then declareLost n w w.done 0 0 d
      else
        match w.ctx with
        | some i => endCmd i stUnrec d
        | none => d

def execReadDeadlineExpiry (n : ArmId) (s : State) : Out := onDev (deadlineExpiry n) s

end Sys2Proof.Machine
end

