-- ==== Sys2Proof/Machine/Zones.lean ====
section
/-!
DEFINITION. Machine/Zones.lean: the commands of the zone engine (R194 to R216): table load, zone actions, relocation,
reconstruction, held media-cache entries, scans.
-/
namespace Sys2Proof.Machine

/-! ## Tables -/

/-- The namespace entry that 16 bytes spell (R194). -/
def NsEntry.ofBytes (bs : List Nat) : NsEntry :=
  let f := fun k n => leNat ((bs.drop k).take n)
  ⟨f 0 4, f 4 4, bitOf (f 8 1) 0, bitOf (f 8 1) 1, f 10 2, f 12 2⟩

/-- The first `n` entries that bytes spell. -/
def nsEntries : Nat → List Nat → List NsEntry
  | 0, _ => []
  | n + 1, bs => NsEntry.ofBytes (bs.take 16) :: nsEntries n (bs.drop 16)

/-- The 256 entries of the namespace table; none where the table cannot be read (R194). -/
def nsTable (d : Dev) : Dev × Option (List NsEntry) :=
  let p := memRead (rd ZON_NSBASE_ADDR d * 128) 4096 d
  (p.1, p.2.map (nsEntries 256))

/-- The table may be loaded (R194, R217): MAR sums to at most 4,096, every record exists. -/
def nsTableOk (es : List NsEntry) (d : Dev) : Bool :=
  decide (((es.filter (fun e => e.nzones != 0 && e.zoned)).map NsEntry.mar).sum ≤ 4096)
    && es.all (fun e => e.nzones == 0 || decide (e.first + e.nzones ≤ rd ZON_NREC_NREC d))

/-- The records of active zones hold a context, and spares are counted (R196, R217). Before the replay the held blocks are not
there yet: the replay then rebuilds the running parity. -/
def recordsLoad (d : Dev) : Dev :=
  let d := wrs [(ZON_SPARE_FREE 0, 0), (ZON_SPARE_FREE 1, 0), (ZON_SPARE_FREE 2, 0), (ZON_SPARE_FREE 3, 0)] d
  each (rd ZON_NREC_NREC d) (fun r d =>
    let g := zoneGet r d
    let z := g.2
    let d := if z.spare then wr (ZON_SPARE_FREE z.arm) (rd (ZON_SPARE_FREE z.arm) g.1 + 1) g.1 else g.1
    if z.active && !z.spare && !z.vault && !d.zon.ctx.contains r then
      (if d.zon.jnext.isSome then parityRebuild r z (takeCtx r d) else takeCtx r d)
    else d) d

/-- ZONE_TABLE_LOAD: ZON_CTL.LOAD (R194, R195, R217): discarded with BAD while the dealer is enabled (CSTS.RDY). -/
def tableLoad (d : Dev) : Dev :=
  let bad := fun d => raise pgZon 13 (wr ZON_CTL_BAD 1 d)
  if isSet NVME_CSTS_RDY d then bad d
  else
    let p := nsTable d
    match p.2 with
    | none => bad p.1
    | some es =>
      if nsTableOk es p.1 then
        let d := { p.1 with zon := { p.1.zon with ns := es.zipIdx.foldl (fun m e => Store.put NsEntry.off e.2 e.1 m) [] } }
        each 4 spareCheck (recordsLoad (wr ZON_CTL_VALID 1 d))
      else bad p.1

def execZoneTableLoad (s : State) : Out := onDev tableLoad s

/-! ## Zone actions (R196, R199). The answer, an NVMe status, is what the command returns. -/

/-- Answer a zone action. -/
def answer (st : Nat) (d : Dev) : Dev := { d with rdata := st }

/-- A zone action finds a zone of a zoned namespace. -/
def zoneAct (zi : Nat) (f : Zone → Dev → Dev) (d : Dev) : Dev :=
  let g := zoneGet zi d
  let z := g.2
  if z.spare || z.vault || z.conv || !nsValid z.ns || z.state = 0 then answer stZoneState g.1
  else if z.state = zReadOnly ∨ z.state = zOffline then answer stZoneState g.1
  else f z g.1

/-- The action waits for the end of the relocation, or a reset for verification (R199, R216). -/
def zoneWait (zi code : Nat) (d : Dev) : Dev :=
  zoneSettle zi { d with zon := { d.zon with waits := d.zon.waits ++ [(zi, code)] } }

/-- ZONE_RESET. An Empty zone stays as it is. -/
def zoneReset (zi : Nat) (d : Dev) : Dev :=
  zoneAct zi (fun z d => answer stOk (if z.state = zEmpty then d else zoneWait zi 4 d)) d

def execZoneReset (zi : Nat) (s : State) : Out := onDev (zoneReset zi) s

/-- ZONE_FINISH. A Full zone stays as it is. -/
def zoneFinish (zi : Nat) (d : Dev) : Dev :=
  zoneAct zi (fun z d => answer stOk (if z.state = zFull then d else zoneWait zi 2 d)) d

def execZoneFinish (zi : Nat) (s : State) : Out := onDev (zoneFinish zi) s

/-- ZONE_OPEN: an Empty or Closed zone becomes Explicitly Open if limits and contexts allow it (R196, R200). -/
def zoneOpen (zi : Nat) (d : Dev) : Dev :=
  zoneAct zi (fun z d =>
    if z.state = zFull then answer stZoneState d
    else
      let c := openStatus zi z d
      if c.2 ≠ 0 then answer c.2 c.1
      else if z.state = zExplicit then answer stOk c.1
      else
        let z := if z.state = zEmpty then { z with par := nsPar z.ns d } else z
        answer stOk (zonePut zi { z with state := zExplicit } 0 (takeCtx zi c.1))) d

def execZoneOpen (zi : Nat) (s : State) : Out := onDev (zoneOpen zi) s

/-- ZONE_CLOSE: an open zone becomes Closed and keeps its context (R199). -/
def zoneClose (zi : Nat) (d : Dev) : Dev :=
  zoneAct zi (fun z d =>
    if z.state = zClosed then answer stOk d
    else if z.isOpen then answer stOk (zonePut zi { z with state := zClosed } 0 d)
    else answer stZoneState d) d

def execZoneClose (zi : Nat) (s : State) : Out := onDev (zoneClose zi) s

/-- ZONE_FINISH_BY_DEVICE: the slip list has reached SLIPFIN (R203): ZFC, event bit 1, a report. -/
def finishByDevice (zi : Nat) (d : Dev) : Dev :=
  let g := zoneGet zi d
  let z := g.2
  if z.active && decide (rd ZON_CTL_SLIPFIN d ≤ z.slips) then
    raise pgZon 1 (report zi 0 0x04 0 0 (zoneFinishNow zi z true g.1))
  else g.1

def execZoneFinishByDevice (zi : Nat) (s : State) : Out := onDev (finishByDevice zi) s

/-! ## Relocation (R204, R205) -/

/-- RELOCATION_ORDER: a write of ZON_RELOC. -/
def relocOrder (v : Nat) (d : Dev) : Dev :=
  let d := wr ZON_RELOC_REC (bits v 0 20) d
  let d := when' (bitOf v 22) (wr ZON_RELOC_REFUSED 0) d
  if !bitOf v 20 || isSet ZON_RELOC_BUSY d then d
  else
    let zi := rd ZON_RELOC_REC d
    let g := zoneGet zi d
    if decide (zi < rd ZON_NREC_NREC d) && (g.2.active || g.2.state == zFull) then relocQueue zi g.1
    else raise pgZon 13 (wr ZON_RELOC_REFUSED 1 g.1)

def execRelocationOrder (v : Nat) (s : State) : Out := onDev (relocOrder v) s

/-- The lowest spare record whose head is not retired, on arm `n` or on any (R204). -/
def findSpare (n : Option Nat) (d : Dev) : Dev × Option (Nat × Zone) :=
  (List.range (rd ZON_NREC_NREC d)).foldl (fun st r =>
    match st.2 with
    | some _ => st
    | none =>
      let g := zoneGet r st.1
      let z := g.2
      if z.spare && (match n with | some k => z.arm == k | none => fitted (.arm z.arm) d && isSet (GLB_FLXSTAT_UP z.arm) d)
          && !(arm z.arm d).retired.testBit z.head then (g.1, some (r, z))
      else (g.1, none)) (d, none)

/-- BUSY while a relocation runs or waits (R204). -/
def relocBusy (d : Dev) : Dev := wrB ZON_RELOC_BUSY (d.zon.cur.isSome || !d.zon.queue.isEmpty) d

/-- Store the RELOC flag of a record, which is not journaled (R198). -/
def putReloc (zi : Nat) (z : Zone) (b : Bool) (d : Dev) : Dev :=
  let d := memWrite (recAddr zi d) { z with reloc := b }.bytes none d
  { d with zon := { d.zon with jwait := d.zon.jwait.map (fun w =>
    if w.zi = zi then { w with zone := { w.zone with reloc := b } } else w) } }

/-- RELOCATION_START: the next relocation takes a spare and copies (R204), or ends without one (R205). The zone's media
work that has not been verified leaves the hand: the copy takes its blocks from the held copies. A zone that has been reset or
has gone Offline while it waited is no longer relocated. -/
def relocStart (d : Dev) : Dev :=
  match d.zon.cur, d.zon.queue with
  | none, zi :: rest =>
    let d := { d with zon := { d.zon with queue := rest } }
    let g := zoneGet zi d
    let z := g.2
    let top := offsWritten zi z g.1
    let s1 := findSpare (some z.arm) g.1
    let s2 := match s1.2 with | some x => (s1.1, some x) | none => findSpare none s1.1
    if !(z.active || z.state == zFull || z.state == zReadOnly) then relocBusy g.1
    else match s2.2 with
    | none =>
      let d := raise pgZon 4 (report zi 0 0x07 0 0 s2.1)
      relocBusy { d with vault := { d.vault with want := d.vault.want ++ [.noSpare zi] } }
    | some (r, sp) =>
      let d := scanStop zi (putReloc zi z true s2.1)
      let d := wr (ZON_SPARE_FREE sp.arm) (rd (ZON_SPARE_FREE sp.arm) d - 1) d
      let d := spareCheck sp.arm { d with zon := { d.zon with cur := some ⟨zi, r, top, [], []⟩ } }
      let d := setHand z.arm ((hand z.arm d).filter (fun w =>
        !((w.kind == .hostWrite || w.kind == .replayWrite) && w.zrec == zi && decide (w.zofs < top)))) d
      let d := pushZone z.arm .relocRead zi z 0 z.verif d
      let d := pushZone sp.arm .relocWrite zi { z with head := sp.head, track := sp.track } 0 top d
      raise pgZon 2 (relocBusy d)
  | _, _ => d

def execRelocationStart (s : State) : Out := onDev relocStart s

/-- A relocation rebuilds the running parity of the incomplete stripe from the copied offsets, and from the held copies of what has
been accepted since (R209). -/
def relocParity (c : Reloc) (z : Zone) (d : Dev) : Dev :=
  if !z.par || !z.active || z.wp % 62 = 0 then d
  else
    let s := z.wp / 62
    (List.range (z.wp % 62)).foldl (fun d j =>
      let o := 64 * s + j
      let got := Store.get [] o c.buf
      if got.isEmpty then
        match heldAt c.zi o d with
        | some b => let r := readBlk b d; paritySum c.zi o (r.2.getD (List.replicate 4096 0) ++ b.md) r.1
        | none => d
      else paritySum c.zi o got d) (putParity c.zi (some (Parity.start s)) d)

/-- RELOCATION_COMMIT: everything is copied and has passed read-after-write (R204 steps 4 and 5). -/
def relocCommit (d : Dev) : Dev :=
  match d.zon.cur with
  | none => d
  | some c =>
    let open' := (List.range 4).any (fun n => (hand n d).any (fun w =>
      (w.kind == .relocRead || w.kind == .relocWrite) && w.zrec == c.zi))
    if open' then d
    else
      let g := zoneGet c.zi d
      let h := zoneGet c.spare g.1
      let z := g.2
      let sp := h.2
      let d := relocParity c z h.1
      let d := c.slips.zipIdx.foldl (fun d e => memWrite (slipAddr c.zi e.2 d) (leBytes e.1 8) none d) d
      let z' := { z with
        arm := sp.arm, head := sp.head, track := sp.track, slips := min 64 c.slips.length, reloc := false,
        verif := max z.verif c.top }
      let d := zonePut c.zi z' 0 d
      let d := zonePut c.spare { sp with
        spare := false, state := zOffline, ns := 0xFF, arm := z.arm, head := z.head, track := z.track } 0 d
      let d := setNextOfs c.zi z'.verif { d with zon := { d.zon with
        cur := none, passed := Store.put [] c.zi [] d.zon.passed,
        parHeld := d.zon.parHeld.filter (fun p => !(p.zi == c.zi && decide (64 * p.stripe + 64 ≤ z'.verif))) } }
      let mine := (hand z.arm d).filter (fun w => w.zrec == c.zi)
      let d := setHand z.arm ((hand z.arm d).filter (fun w => w.zrec != c.zi)) d
      let d := setHand sp.arm (hand sp.arm d ++ mine) d
      let d := releaseBlks (fun b => b.zone.any (fun q => q.1 == c.zi && decide (q.2 < z'.verif))) d
      let d := raise pgZon 3 (report c.zi 0 0x05 0 0 (bumpEv pgZon ZON_CNT0_RELOC 14 1 d))
      relocBusy (zoneSettle c.zi d)

def execRelocationCommit (s : State) : Out := onDev relocCommit s

/-! ## Reconstruction (R210) -/

/-- ZONE_RECONSTRUCT: the first sector of the ladder has reached rung 10, and the zone engine is asked. -/
def reconstruct (n : ArmId) (d : Dev) : Dev :=
  match (arm n d).ladder with
  | [] => d
  | s :: _ =>
    if s.rung ≠ 10 ∨ s.pass = true then d
    else
      let c := servePage n d
      bumpEv (pgRch n c) (RCH_RECCNT_TRY n c 10) 7 1
        (ladHead n (some { s with pass := true, mask := s.mask ||| 2 ^ 10 }) d)

def execZoneReconstruct (n : ArmId) (s : State) : Out := onDev (reconstruct n) s

/-- The 4,112 bytes of a stripe position from held data (R210): a held block, or a held parity sector. -/
def heldPos (zi st j : Nat) (d : Dev) : Dev × Option (List Nat) :=
  match heldAt zi (64 * st + j) d with
  | some b => let r := readBlk b d; (r.1, r.2.map (fun x => x ++ b.md))
  | none => (d, if 62 ≤ j then (heldParity zi st d).map (fun p => if j = 62 then p.p62 else p.p63) else none)

/-- The sector at position `x` of a stripe from the positions delivered, with at most one further erasure (R210). -/
def erased (x : Nat) (got : List (Nat × List Nat)) : Option (List Nat) :=
  let missing := (List.range 64).filter (fun j => j != x && !got.any (fun g => g.1 == j))
  let t0 := got.foldl (fun a g => xorList a (symbols g.2)) (List.replicate 2056 0)
  match missing with
  | [] => some (symBytes t0)
  | [y] =>
    let t1 := got.foldl (fun a g => xorList a ((symbols g.2).map (gf16Mul (gf16Pow g.1)))) (List.replicate 2056 0)
    let inv := gf16Inv (gf16Pow x ^^^ gf16Pow y)
    some (symBytes ((xorList t1 (t0.map (gf16Mul (gf16Pow y)))).map (gf16Mul inv)))
  | _ => none

/-- ZONE_RECONSTRUCT_DONE: `read` are the positions that on-the-fly decoding delivered; held copies go first. -/
def reconstructDone (n : ArmId) (read : List StripeRead) (d : Dev) : Dev :=
  match (arm n d).ladder with
  | [] => d
  | s :: _ =>
    match work n s.work d with
    | none => ladRun n (ladHead n none d)
    | some w =>
      if s.rung ≠ 10 ∨ s.pass = false then d
      else
        let o := ofsAt w s.sec
        let x := o % 64
        let st := o / 64
        let g := zoneGet w.zrec d
        let got := (List.range 64).foldl (fun (a : Dev × List (Nat × List Nat)) j =>
          if j = x then a
          else
            let h := heldPos w.zrec st j a.1
            match h.2 with
            | some bs => (h.1, a.2 ++ [(j, bs)])
            | none =>
              match read.find? (fun r => r.pos.val == j) with
              | some r => (h.1, a.2 ++ [(j, r.bytes)])
              | none => (h.1, a.2)) (g.1, [])
        let d := got.1
        let e := if stripeComplete w.zrec g.2 st d && !forcedAt n 10 (w.id, s.sec) d then erased x got.2 else none
        let fail := fun d =>
          ladRun n (ladHead n (some { s with rung := 11 }) (raise pgZon 7 (bumpEv pgZon ZON_CNT1_RECFAIL 14 1 d)))
        match e with
        | none => fail d
        | some bs =>
          if tagFits w s.sec (tagOf (bs.drop 4096)) then
            let c := servePage n d
            let d := bumpEv (pgRch n c) (RCH_RECCNT_OK n c 10) 7 1 d
            let d := raise pgZon 6 (report w.zrec o 0x02 10 0 (bumpEv pgZon ZON_CNT1_RECOK 14 1 d))
            ladRun n (workEnd n w.id (deliverSector n w s.sec 10 bs (ladHead n none d)))
          else fail d

def execZoneReconstructDone (n : ArmId) (read : List StripeRead) (s : State) : Out := onDev (reconstructDone n read) s

/-! ## Media cache and scans -/

/-- MEDIA_CACHE_ENTRY_COMPLETE: firmware has freed an entry of the bucket for which the first held rewrite waits (R213):
the entry is completed, and the block's copies are released once its rewrite has passed. -/
def mcComplete (d : Dev) : Dev :=
  match d.zon.mcHeld with
  | [] => d
  | h :: rest =>
    match mcEnter h d with
    | none => d
    | some d =>
      let d := { d with zon := { d.zon with mcHeld := rest } }
      let busy := (List.range 4).any (fun n => (hand n d).any (fun w =>
        w.zrec == noRec && w.ns == h.ns && w.lba == h.lba && w.kind == .hostWrite))
      if busy then d
      else
        match heldBlk h.ns h.lba d with
        | some b => releaseBlks (fun x => x == b) d
        | none => d

def execMediaCacheEntryComplete (s : State) : Out := onDev mcComplete s

/-- SCAN_START: a write of ZON_SCANn (R214): the positions are read in physical order. GO is discarded while BUSY; a record that the arm does not own gives a scan
without positions. -/
def scanStart (n : ArmId) (v : Nat) (d : Dev) : Dev :=
  let d := wr (ZON_SCAN_REC n) (bits v 0 20) d
  let d := if (ZON_SCAN_RUNGTHR n).allows (bits v 22 4) then wr (ZON_SCAN_RUNGTHR n) (bits v 22 4) d else d
  if !bitOf v 20 || isSet (ZON_SCAN_BUSY n) d then d
  else
    let zi := rd (ZON_SCAN_REC n) d
    let g := zoneGet zi d
    let d := wr (ZON_SCAN_BUSY n) 1 g.1
    if g.2.arm = n then
      let l := slipList zi g.2.slips d
      (posRuns l.2 g.2.verif).foldl (fun d r => pushZone n .scanRead zi g.2 r.1 (r.1 + r.2.1) d) l.1
    else d

def execScanStart (n : ArmId) (v : Nat) (s : State) : Out := onDev (scanStart n v) s

/-- SCAN_END: no scan work is left in the hand (R214). -/
def scanEnd (n : ArmId) (d : Dev) : Dev :=
  if isSet (ZON_SCAN_BUSY n) d && !(hand n d).any (fun w => w.kind == .scanRead) then
    raise pgZon 9 (wr (ZON_SCAN_BUSY n) 0 d)
  else d

def execScanEnd (n : ArmId) (s : State) : Out := onDev (scanEnd n) s

end Sys2Proof.Machine
end

