-- ==== Sys2Proof/Machine/HostOps.lean ====
section
/-!
DEFINITION. Machine/HostOps.lean: the host endpoint's shared operations: configuration space (R220 to R222), Advanced
Error Reporting (R232), unsupported requests, MSI-X, the windows and the controller memory buffer in force (R234, R237),
read requests (R228) and the scope of an NVMe Controller Reset (R238, R365).
-/
namespace Sys2Proof.Machine

/-! ## Configuration space -/

/-- One doubleword of configuration space: offset, value at reset, bits that are read/write, bits cleared by writing 1,
and whether it is sticky. -/
structure CfgRow where
  off : Nat
  rst : Nat
  rw : Nat
  w1c : Nat
  sticky : Bool
  deriving DecidableEq, Repr

/-- The header and the power-management, MSI-X and PCI Express capabilities (R220, R221, R222). The values are the
spec's; where each stands in its capability is the PCI Express layout. PRESUMED, notes/assumptions/45. -/
def cfgRows0 : List CfgRow :=
  [ ⟨0x000, 0x04801F3C, 0, 0, false⟩, ⟨0x004, 0x00100000, 0x0546, 0xF9000000, false⟩,
    ⟨0x008, 0x010802B1, 0, 0, false⟩, ⟨0x00C, 0, 0xFF, 0, false⟩,
    ⟨0x010, 0x4, 0xFF000000, 0, false⟩, ⟨0x014, 0, 0xFFFFFFFF, 0, false⟩,
    ⟨0x018, 0xC, 0xFC000000, 0, false⟩, ⟨0x01C, 0, 0xFFFFFFFF, 0, false⟩,
    ⟨0x034, 0x40, 0, 0, false⟩, ⟨0x03C, 0, 0xFF, 0, false⟩,
    ⟨0x040, 0x40035001, 0, 0, false⟩, ⟨0x044, 0x8, 0x103, 0x8000, false⟩,
    ⟨0x050, 0x00407011, 0xC0000000, 0, false⟩, ⟨0x054, 0x2000, 0, 0, false⟩, ⟨0x058, 0x3000, 0, 0, false⟩,
    ⟨0x070, 0x00020010, 0, 0, false⟩, ⟨0x074, 0x00008022, 0, 0, false⟩,
    ⟨0x078, 0x2810, 0x79FF, 0x000F0000, false⟩, ⟨0x07C, 0x00458845, 0, 0, false⟩,
    ⟨0x080, 0, 0x01CB, 0, false⟩, ⟨0x094, 0x0001081F, 0, 0, false⟩, ⟨0x098, 0, 0x041F, 0, false⟩,
    ⟨0x09C, 0x3E, 0, 0, false⟩, ⟨0x0A0, 0x5, 0xF, 0, false⟩ ]

/-- The extended capabilities (R221). -/
def cfgRows1 : List CfgRow :=
  [ ⟨0x100, 0x14820001, 0, 0, true⟩, ⟨0x104, 0, 0, 0x001FF010, true⟩, ⟨0x108, 0, 0x001FF010, 0, true⟩,
    ⟨0x10C, 0x00062010, 0x001FF010, 0, true⟩, ⟨0x110, 0, 0, 0x000031C1, true⟩, ⟨0x114, 0x2000, 0x000031C1, 0, true⟩,
    ⟨0x118, 0xA0, 0x140, 0, true⟩, ⟨0x11C, 0, 0, 0, true⟩, ⟨0x120, 0, 0, 0, true⟩, ⟨0x124, 0, 0, 0, true⟩,
    ⟨0x128, 0, 0, 0, true⟩,
    ⟨0x148, 0x16010019, 0, 0, false⟩, ⟨0x150, 0, 0, 0xF, true⟩,
    ⟨0x160, 0x17010025, 0, 0, false⟩, ⟨0x164, 0x80000001, 0, 0, false⟩,
    ⟨0x170, 0x19810026, 0, 0, false⟩, ⟨0x198, 0x1B010027, 0, 0, false⟩, ⟨0x1B0, 0x1D01002A, 0, 0, false⟩,
    ⟨0x1D0, 0x1E01001E, 0, 0, false⟩, ⟨0x1D4, 0x00211E15, 0, 0, false⟩, ⟨0x1D8, 0, 0xE3FF0005, 0, false⟩,
    ⟨0x1DC, 0, 0xFB, 0, false⟩, ⟨0x1E0, 0x00010018, 0, 0, false⟩, ⟨0x1E4, 0, 0x1FFF1FFF, 0, false⟩ ]

def cfgRow (off : Nat) : CfgRow := ((cfgRows0 ++ cfgRows1).find? (fun r => r.off == off)).getD ⟨off, 0, 0, 0, false⟩

/-- What a doubleword of configuration space holds, but for what is computed when it is read. -/
def cfg (off : Nat) (d : Dev) : Nat := Store.get (cfgRow off).rst off d.host.cfg
def setCfg (off v : Nat) (d : Dev) : Dev :=
  { d with host := { d.host with cfg := Store.put (cfgRow off).rst off (v % 2 ^ 32) d.host.cfg } }
def cfgOr (off m : Nat) (d : Dev) : Dev := setCfg off (cfg off d ||| m) d

/-- The function is in D3hot (R223). -/
def inD3 (d : Dev) : Bool := cfg 0x044 d % 4 == 3
/-- The function answers memory requests: memory space is enabled and the function is in D0 (R223). -/
def memOn (d : Dev) : Bool := bitOf (cfg 0x004 d) 1 && !inD3 d
/-- ASPM L1 is enabled; L1.2 is enabled for ASPM (R223). -/
def aspmL1 (d : Dev) : Bool := bitOf (cfg 0x080 d) 1
def aspmL12 (d : Dev) : Bool := bitOf (cfg 0x1D8 d) 2
/-- LTR is enabled (R222, R223). -/
def ltrOn (d : Dev) : Bool := bitOf (cfg 0x098 d) 10
/-- WAKE_N is asserted: PME_Status and PME_En (R219). -/
def wakeAsserted (d : Dev) : Bool := bitOf (cfg 0x044 d) 15 && bitOf (cfg 0x044 d) 8

def linkIsUp (d : Dev) : Bool := isSet HEP_LINKSTAT_DLUP d

/-- A TLP passes: the PCI Express link leaves L1 or L1.2, and its idle time starts anew (R223). -/
def linkL0 (d : Dev) : Dev :=
  if linkIsUp d then wr HEP_LINKSTAT_PMSTATE 0 { d with host := { d.host with lastTlp := d.time } } else d

/-- A host counter of the HEP page; event 12 when it saturates (R239). -/
def bumpHep (f : Fld) (d : Dev) : Dev := bumpEv pgHep f 12 1 d

/-- The AER message of an error, where the host has enabled it: 0 ERR_COR, 1 ERR_NONFATAL, 2 ERR_FATAL; the Device
Status bit is set in any case (R232; PCI Express). -/
def errMsg (k : Nat) (d : Dev) : Dev :=
  let d := cfgOr 0x078 (2 ^ (16 + k)) d
  if bitOf (cfg 0x078 d) k then { d with host := { d.host with errSent := d.host.errSent ++ [k] } } else d

/-- An uncorrectable AER status bit, with the header (if the error has one) logged as the first error; `adv` is an Advisory Non-Fatal error, for
which ERR_COR is signalled (R232). -/
def aerUnc (k : Nat) (adv : Bool) (hdr : List Nat) (d : Dev) : Dev :=
  let first := cfg 0x104 d == 0
  let masked := bitOf (cfg 0x108 d) k
  let d := cfgOr 0x104 (2 ^ k) d
  let d := if first && !masked then
      (hdr.take 4).zipIdx.foldl (fun d p => setCfg (0x11C + 4 * p.2) p.1 d) (setCfg 0x118 (cfg 0x118 d / 32 * 32 + k) d)
    else d
  if masked then d
  else if adv then
    let d := cfgOr 0x110 (2 ^ 13) d
    if bitOf (cfg 0x114 d) 13 then d else errMsg 0 d
  else errMsg (if bitOf (cfg 0x10C d) k then 2 else 1) d

/-- A correctable AER status bit (R232). -/
def aerCor (k : Nat) (d : Dev) : Dev :=
  let d := cfgOr 0x110 (2 ^ k) d
  if bitOf (cfg 0x114 d) k then d else errMsg 0 d

/-- An Unsupported Request (R232): a posted request is dropped, a non-posted one answered so. -/
def unsupported (posted : Bool) (hdr : List Nat) (d : Dev) : Dev :=
  let d := cfgOr 0x078 (2 ^ 19) { d with ur := true }
  if posted then raise pgHep 0 (bumpHep HEP_ERRCNT0_URPOSTED (aerUnc 20 false hdr d))
  else raise pgHep 1 (bumpHep HEP_ERRCNT0_URNP (aerUnc 20 true hdr d))

/-- A register write by a requester: one of the host is an Unsupported Request while GLB_HOSTACC.LOCK = 1 (R224). Commands that
name one register carry no header (notes/assumptions/67). -/
def byWho (who : Who) (f : Dev → Dev) (d : Dev) : Dev :=
  if who = .host ∧ isSet GLB_HOSTACC_LOCK d = true then unsupported true [] d else f d

/-- Poison received or sent (R232, R239). -/
def poisonRecd (adv : Bool) (hdr : List Nat) (d : Dev) : Dev :=
  raise pgHep 4 (bumpHep HEP_ERRCNT2_POISON (aerUnc 12 adv hdr d))

/-! ## MSI-X and the queue of posted writes -/

/-- Send what was pending for vectors that are masked no longer (R39). -/
def msixFlush (d : Dev) : Dev :=
  if !msixEnabled d.host || msixFuncMask d.host then d
  else (d.host.pba.map (fun p => p.1)).eraseDups.foldl (fun d v =>
    let e := Store.get MsixEntry.reset v d.host.msix
    if e.masked then d
    else { d with host := { d.host with
      pba := d.host.pba.filter (fun p => p.1 != v), out := d.host.out ++ [.msix e.addr e.data] } }) d

/-- Bus address of BAR0 and BAR2. -/
def barAddr (k : Nat) (d : Dev) : Nat :=
  cfg (0x010 + 8 * k) d / 16 * 16 + cfg (0x014 + 8 * k) d * 2 ^ 32

/-- The window that is the controller memory buffer in force (R237). -/
def cmbWin (d : Dev) : Option Win :=
  if d.host.act.cmbEn then some (Store.get Win.off d.host.act.cmbWin d.host.act.wins) else none

/-- The core address of `n` bytes of host address `a` that lie in the controller memory buffer (R237). -/
def cmbPlace (a n : Nat) (d : Dev) : Option Nat :=
  match cmbWin d with
  | none => none
  | some w =>
    let b := barAddr 1 d + w.base
    if b ≤ a ∧ a + n ≤ b + 2 ^ w.log2 then some (w.target + (a - b)) else none

/-- One posted write leaves: into the controller memory buffer where the host has directed it there (R237), else to the
host. -/
def landOut (t : OutTlp) (d : Dev) : Dev :=
  let put := fun (a : Nat) (bs : List Nat) =>
    match if d.host.act.cmbData then cmbPlace a bs.length d else none with
    | some c => memWrite c bs none d
    | none => d
  match t with
  | .data a bs => put a bs
  | .zeroFill a n => put a (List.replicate n 0)
  | _ => d

/-- The oldest posted write leaves the ordered queue (R226). -/
def sendOne (d : Dev) : Dev :=
  match d.host.out with
  | [] => d
  | t :: rest => landOut t (linkL0 { d with host := { d.host with out := rest, headAt := d.time } })

/-- Every posted write issued so far leaves: a read completion flushes them (R227). -/
def flushOut (d : Dev) : Dev := each d.host.out.length (fun _ d => sendOne d) d

/-! ## Device reads (R228) -/

/-- Tags the device may use (R228). -/
def tagLimit (d : Dev) : Nat := if bitOf (devCtl d) 8 then 256 else 32

/-- The lowest free tag. -/
def freeTag (d : Dev) : Option Nat :=
  (List.range (tagLimit d)).find? (fun t => !d.host.reads.any (fun r => r.tag == t))

/-- Ask for `n` bytes of host memory in requests within the limits of R228. -/
def askRead (a n : Nat) (use : Nat → ReadFor) (d : Dev) : Dev :=
  { d with host := { d.host with todo := d.host.todo ++
    (cutSpan a n (maxRead d)).map (fun p => ⟨0, p.1, p.2, [], use (p.1 - a), 0⟩) } }

/-- Completion Timeout Disable is 0: the device times its reads (R229). -/
def timesReads (d : Dev) : Bool := !bitOf (cfg 0x098 d) 4

/-- The device timeout in CLK_AUX cycles for the value the host set (R229). -/
def readTimeout (d : Dev) : Nat :=
  let us := match cfg 0x098 d % 16 with
    | 1 => 80 | 2 => 8000 | 5 => 32000 | 6 => 128000 | 9 => 512000 | 10 => 2000000 | 13 => 8000000 | 14 => 32000000
    | _ => 32000
  us * auxPerUs

/-! ## NVMe Controller Reset -/

/-- CSTS.RDY with its mirror in CMD_STAT (R241). -/
def setRdy (b : Bool) (d : Dev) : Dev := wrB CMD_STAT_RDY b (wrB NVME_CSTS_RDY b d)
def setShst (v : Nat) (d : Dev) : Dev := wr CMD_STAT_SHST v (wr NVME_CSTS_SHST v d)

/-- CSTS.RDY becomes 1 once CC.EN = 1 and firmware is ready (R241). -/
def rdyUpdate (d : Dev) : Dev := if isSet NVME_CC_EN d && fwReady d then setRdy true d else d

/-- Fetching stops (R260, R261). -/
def stopFetch (d : Dev) : Dev := wr CMD_STAT_NOFETCH 1 { d with deal := { d.deal with stop := true } }

/-- End every command without completion or media effect, but for accepted writes, whose blocks stay (R362, R365). -/
def abandonAll (d : Dev) : Dev :=
  let d := setBlks (d.deal.blks.filter (fun b => b.accepted)) d
  let d := (ctxList d).foldl (fun d p => setCtx p.1 none (dropWorkOf p.1 d)) d
  wr CMD_STAT_WBFULL 0 { d with host := { d.host with todo := [], reads := d.host.reads.map (fun r => { r with use := .dead }) } }

/-- The scope of an NVMe Controller Reset (R365). -/
def controllerReset (d : Dev) : Dev :=
  let d := abandonAll d
  let d := { d with deal := { d.deal with sqs := [], cqs := [], turn := 0, burst := 0, stop := false } }
  let d := wrs [(NVME_CSTS_CFS, 0), (CMD_CTL_FWRDY, 0), (CMD_STAT_NOFETCH, b2n d.deal.ploss)] (setShst 0 (setRdy false d))
  raise pgPws 6 d

/-- What a loss of the data link or a Hot Reset does to the endpoint (R238): non-sticky configuration space, the MSI-X
table and pending bits and the NVMe registers return to their reset values, posted writes and reads are discarded, and
the controller reset scope applies. -/
def linkReset (d : Dev) : Dev :=
  let d := { d with host := { d.host with
    cfg := d.host.cfg.filter (fun p => (cfgRow p.1).sticky), msix := [], pba := [], out := [] } }
  let d := controllerReset d
  let d := wrs [(NVME_CC_EN, 0), (NVME_CC_CSS, 0), (NVME_CC_MPS, 0), (NVME_CC_AMS, 0), (NVME_CC_SHN, 0),
    (NVME_CC_IOSQES, 0), (NVME_CC_IOCQES, 0), (NVME_AQA_ASQS, 0), (NVME_AQA_ACQS, 0), (NVME_ASQ_LO, 0),
    (NVME_ASQ_HI, 0), (NVME_ACQ_LO, 0), (NVME_ACQ_HI, 0)] d
  { d with host := { d.host with reads := [] } }

end Sys2Proof.Machine
end

