-- ==== Sys2Proof/Machine/DealerIo.lean ====
section
/-!
DEFINITION. Machine/DealerIo.lean: what the dealer reads from the host and what it does with it: submission entries
(R242 to R244), PRP lists and SGL segments, write data, the copies of a write (R23, R248), and reads that fail (R230).
The layout of entries and lists is NVM Express Base 2.0's. PRESUMED, notes/assumptions/15.
-/
namespace Sys2Proof.Machine

/-- Contexts in use in the order of fetch and admission. -/
def insSeq (p : Nat × Ctx) : List (Nat × Ctx) → List (Nat × Ctx)
  | [] => [p]
  | q :: l => if p.2.seq < q.2.seq then p :: q :: l else q :: insSeq p l
def ctxOrder (d : Dev) : List (Nat × Ctx) := (ctxList d).foldl (fun l p => insSeq p l) []

/-- Change the dealer's own record. -/
def onDeal (f : Dealer → Dealer) (d : Dev) : Dev := { d with deal := f d.deal }

/-- A number of `n` bytes at byte `k` of a submission entry. -/
def seField (bs : List Nat) (k n : Nat) : Nat := leNat ((bs.drop k).take n)

/-- The commands that the dealer carries through in hardware (R245): Flush, Write, Read, Write Zeroes, Zone Append. -/
def hwOpcode (o : Nat) : Bool := o == 0 || o == 1 || o == 2 || o == 8 || o == 0x7D
def Ctx.hardware (x : Ctx) : Bool := !x.admin && hwOpcode x.opcode
/-- Write, Write Zeroes or Zone Append. -/
def Ctx.writes (x : Ctx) : Bool := x.hardware && x.opcode != 0 && x.opcode != 2

/-- The next CSN (R374). -/
def nextCsn (d : Dev) : Nat := rd GLB_VLTCSNL_CSN d + d.deal.csnHigh * 2 ^ 32
def setCsn (v : Nat) (d : Dev) : Dev := wr GLB_VLTCSNL_CSN v (onDeal (fun x => { x with csnHigh := v / 2 ^ 32 % 2 ^ 32 }) d)

/-- End a write that is not accepted: its blocks leave the budget (R249), its completion is posted. -/
def endWrite (i st : Nat) (d : Dev) : Dev :=
  complete i st 0 (setBlks (d.deal.blks.filter (fun b => !(b.ctx == some i && !b.accepted))) d)

/-! ## Where a command's data lies -/

/-- Ask for the PRP list at `a` of command `i`, as far as its page goes. -/
def askList (i a : Nat) (x : Ctx) (d : Dev) : Dev :=
  let n := 8 * min ((x.need + 4095) / 4096) ((4096 - a % 4096) / 8)
  askRead a n (fun o => .piece i o) (setCtx i (some { x with phase := 1, pull := [], pullLen := n }) d)

/-- Ask for an SGL segment. -/
def askSegment (i a n phase : Nat) (x : Ctx) (d : Dev) : Dev :=
  askRead a n (fun o => .piece i o) (setCtx i (some { x with phase := phase, pull := [], pullLen := n }) d)

/-- The spans that PRP entries name. -/
def prpSpans : List Nat → Nat → List (Nat × Nat)
  | [], _ => []
  | p :: ps, need => if need = 0 then [] else (p, min 4096 need) :: prpSpans ps (need - 4096)

/-- A PRP list has arrived: its entries name pages, the last one the next list where more are needed. -/
def prpArrived (i : Nat) (x : Ctx) (bs : List Nat) (d : Dev) : Dev :=
  let es := (List.range (bs.length / 8)).map (fun k => seField bs (8 * k) 8)
  let more := decide (4096 * es.length < x.need)
  let use := if more then es.dropLast else es
  let x := { x with spans := x.spans ++ prpSpans use x.need, need := x.need - 4096 * use.length }
  if more then askList i (es.getLast?.getD 0) x d
  else setCtx i (some { x with phase := 0, need := 0, pull := [] }) d

/-- SGL descriptors in order: data block, bit bucket (which takes read data only), segment, last segment. -/
def sglRun (i : Nat) : List (List Nat) → Ctx → Dev → Dev
  | [], x, d =>
    if x.need = 0 then setCtx i (some { x with phase := 0, pull := [] }) d
    else complete i 0x0F 0 (setCtx i (some x) d)
  | g :: gs, x, d =>
    let a := seField g 0 8
    let n := seField g 8 4
    let t := g.getD 15 0 / 16
    if t = 0 then sglRun i gs { x with spans := x.spans ++ [(a, min n x.need)], need := x.need - n } d
    else if t = 1 then
      if x.opcode = 2 then sglRun i gs { x with spans := x.spans ++ [(bitBucket, min n x.need)], need := x.need - n } d
      else sglRun i gs x d
    else if t = 2 then askSegment i a n 2 x d
    else if t = 3 then askSegment i a n 3 x d
    else complete i 0x11 0 (setCtx i (some x) d)

/-- The descriptors that bytes spell. -/
def descriptors (bs : List Nat) : List (List Nat) := (List.range (bs.length / 16)).map (fun k => (bs.drop (16 * k)).take 16)

/-- Find out where the data of a Read, Write or Zone Append lies. -/
def findSpans (i : Nat) (se : List Nat) (d : Dev) : Dev :=
  match ctx i d with
  | none => d
  | some x =>
    if !x.hardware || x.opcode == 0 || x.opcode == 8 || decide (256 < x.blocks) then d
    else
      let total := 4096 * x.blocks
      if se.getD 1 0 / 64 = 0 then
        let p1 := seField se 24 8
        let p2 := seField se 32 8
        let l0 := min total (4096 - p1 % 4096)
        let rest := total - l0
        if rest = 0 then setCtx i (some { x with spans := [(p1, l0)] }) d
        else if rest ≤ 4096 then setCtx i (some { x with spans := [(p1, l0), (p2, rest)] }) d
        else askList i p2 { x with spans := [(p1, l0)], need := rest } d
      else sglRun i [(se.drop 24).take 16] { x with need := total } d

/-! ## Fetching (R242 to R244) -/

/-- Contexts that a namespace holds. -/
def nsCtxs (ns : Nat) (d : Dev) : Nat := ((ctxList d).filter (fun p => p.2.ns == ns)).length

/-- The namespace is at its context quota (R244). -/
def atQuota (ns : Nat) (d : Dev) : Bool :=
  nsValid ns && (tenant ns d).ctxMax != 0 && decide ((tenant ns d).ctxMax ≤ nsCtxs ns d)

/-- Namespace index of a namespace identifier: NSID 1 is index 0; 0xFF where no single namespace is named. PRESUMED,
notes/assumptions/15. -/
def nsIndex (nsid : Nat) : Nat := if nsid = 0 ∨ 0xFF < nsid then 0xFF else nsid - 1

/-- A context for a fetched entry. -/
def newCtx (q cid : Nat) (se : List Nat) (d : Dev) : Ctx :=
  let admin := q == 0
  let op := se.getD 0 0
  let ns := if admin then 0xFF else nsIndex (seField se 4 4)
  let lba := seField se 40 8
  let io := !admin && (op == 1 || op == 2 || op == 8 || op == 0x7D)
  let zoned := nsValid ns && (nsEntry ns d).zoned && (io || (!admin && op == 0x79))
  { sqid := q, cid := cid, admin := admin, opcode := op, ns := ns, cls := if nsValid ns then (tenant ns d).cls else 0,
    order := nextCsn d, stage := .fetched, admitted := d.time, lba := if io then lba else 0,
    blocks := if io then seField se 48 2 + 1 else 0, lr := io && bitOf (seField se 48 4) 31,
    fua := io && bitOf (seField se 48 4) 30, zrec := if zoned then some (recOf ns lba d) else none,
    deadline := 0, left := 0, again := false, moving := false, trump := 0, status := 0, dw0 := 0, dw1 := 0, kind := 0,
    spans := [], need := 0, phase := 0, pull := [], pullLen := 0, slot := 0, isSealed := false, seq := d.deal.orders,
    abort := false, got := [], sent := 0, units := 0 }

/-- A submission entry has arrived: it gets a context (R243), or the queue stops at the namespace's quota (R244). -/
def entryArrived (q idx : Nat) (se : List Nat) (d : Dev) : Dev :=
  let s := sq q d
  if !s.live || s.head != idx then d
  else
    let x := newCtx q (seField se 2 2) se d
    if atQuota x.ns d then setSq q { s with held := some x.ns } d
    else
      match freeCtx d with
      | none => d
      | some i =>
        let d := setSq q { s with head := (s.head + 1) % max 1 s.size, held := none } d
        let d := onDeal (fun y => { y with orders := y.orders + 1 }) d
        let d := memWrite (ctxAddr i 0 d) (se.take 64 ++ leBytes q 2 ++ leBytes x.cid 2 ++ [x.ns, x.cls, 0, 0]) none d
        findSpans i se (setCtx i (some x) d)

/-! ## The copies of a write (R23, R248) -/

/-- The first two blocks in use by command `i`, and all others, that are not accepted. -/
def openBlk (i : Nat) (b : Blk) : Bool := b.ctx == some i && !b.accepted

/-- The data of a write is complete: it is encrypted under the captured slot (R316), and both copies are written; the
second one's acknowledgement is WRITE_ACCEPT. With the DRBG in its error state the write ends (R324). -/
def holdCopies (i : Nat) (users : List (List Nat)) (d : Dev) : Dev :=
  match ctx i d with
  | none => d
  | some x =>
    if !cipherOk d then endWrite i stInternal d
    else
      let g := if x.isSealed then genGet (x.zrec.getD 0) d else (d, 0)
      let d := g.1
      let cts := encryptBlocks x.slot x.ns x.lba g.2 users d
      let at' := fun (b : Blk) => cts.getD (b.lba - x.lba) ([], [])
      let d := onDeal (fun y => { y with blks := y.blks.map (fun b => if openBlk i b then { b with md := (at' b).2 } else b) }) d
      let put := fun (c : Copy) (bs : List Nat) (d : Dev) => match c with | .at a => memWrite a bs none d | .lost => d
      let d := (d.deal.blks.filter (openBlk i)).foldl (fun d b => put b.c2 (at' b).1 (put b.c1 (at' b).1 d)) d
      onCtx i (fun x => { x with stage := .second, phase := 0, pull := [] }) d

/-- Whether a write may go to its zone now: a status of R196, R197 and of the zone's state, 0 if it may. -/
def zoneWriteStatus (x : Ctx) (zi : Nat) (z : Zone) (d : Dev) : Dev × Nat :=
  if z.state = zReadOnly then (d, stZoneRo)
  else if z.state = zOffline ∨ z.state = 0 then (d, stZoneOff)
  else if z.state = zFull then (d, stZoneFull)
  else if x.opcode ≠ 0x7D ∧ x.lba % 65536 ≠ z.wp then (d, stZoneInvalid)
  else
    let cap := if z.state = zEmpty then { z with par := nsPar z.ns d }.cap else z.cap
    if cap < z.wp + x.blocks then (d, stBoundary) else openStatus zi z d

/-- Ask for the data of a write, span by span. -/
def askData (i : Nat) (x : Ctx) (d : Dev) : Dev :=
  let d := setCtx i (some { x with phase := 4, pull := [], pullLen := 4096 * x.blocks }) d
  (x.spans.foldl (fun (st : Dev × Nat) s => (askRead s.1 s.2 (fun o => .piece i (st.2 + o)) st.1, st.2 + s.2)) (d, 0)).1

/-- It is the turn of a write whose budget check has passed: the dealer checks it against WP, gives a Zone Append its LBA
(R197), and pulls its data; Write Zeroes has none to pull. -/
def pullStart (i : Nat) (d : Dev) : Dev :=
  match ctx i d with
  | none => d
  | some x =>
    let c := match x.zrec with
      | none => (d, x, 0, false)
      | some zi =>
        let g := zoneGet zi d
        let s := zoneWriteStatus x zi g.2 g.1
        (s.1, if x.opcode = 0x7D then { x with lba := x.lba / 65536 * 65536 + g.2.wp } else x, s.2,
          if g.2.state = zEmpty then nsPar x.ns d else g.2.par)
    let d := c.1
    let x := c.2.1
    if c.2.2.1 ≠ 0 then endWrite i c.2.2.1 d
    else
      let mine := d.deal.blks.filter (openBlk i)
      let d := match x.zrec with
        | some zi =>
          let place := fun (b : Blk) =>
            let k := x.lba + (mine.findIdx (fun m => m == b))
            { b with lba := k, zone := some (zi, zoneOfs c.2.2.2 (k % 65536)) }
          onDeal (fun y => { y with blks := y.blks.map (fun b => if openBlk i b then place b else b) }) d
        | none => d
      if x.opcode = 8 then holdCopies i (List.replicate x.blocks (List.replicate 4096 0)) (setCtx i (some x) d)
      else askData i x d

/-- An earlier write to the same zone is still on its way to acceptance, or an earlier zone management command of it has not ended
(R199, R246). -/
def zoneBusy (x : Ctx) (d : Dev) : Bool :=
  x.zrec.isSome && (d.zon.waits.any (fun w => some w.1 == x.zrec) || (ctxList d).any (fun p =>
    p.2.zrec == x.zrec && decide (p.2.seq < x.seq) && (if p.2.writes then p.2.stage == .pulling || p.2.stage == .second
      else !p.2.hardware && p.2.stage != .posting)))

/-- Writes whose budget check has passed go on when it is their turn in their zone (R197: writes take effect in the order
of admission, and no unit is encrypted before its write's turn, R310). -/
def writeGo (d : Dev) : Dev :=
  (ctxOrder d).foldl (fun d p =>
    match ctx p.1 d with
    | none => d
    | some x => if x.stage == .pulling && x.phase == 5 && !zoneBusy x d then pullStart p.1 d else d) d

/-! ## Arrivals and failures -/

/-- Bytes of a command's list or data that have arrived. -/
def pulled (x : Ctx) : List Nat := x.pull.flatMap (fun p => p.2)

/-- A piece of a command's list or data has arrived; with the last one the dealer goes on. -/
def pieceArrived (i ofs : Nat) (bs : List Nat) (d : Dev) : Dev :=
  match ctx i d with
  | none => d
  | some x =>
    let x := { x with pull := Store.put [] ofs bs x.pull }
    let all := pulled x
    if all.length < x.pullLen then setCtx i (some x) d
    else if x.phase = 1 then prpArrived i x all d
    else if x.phase = 2 ∨ x.phase = 3 then sglRun i (descriptors all) x d
    else if x.phase = 4 then
      holdCopies i ((List.range x.blocks).map (fun k => (all.drop (4096 * k)).take 4096)) (setCtx i (some x) d)
    else d

/-- A device read is complete. -/
def arrive (use : ReadFor) (bs : List Nat) (d : Dev) : Dev :=
  match use with
  | .submission q idx _ => entryArrived q idx bs d
  | .piece i ofs => pieceArrived i ofs bs d
  | .dead => d

/-- A device read has failed (R230): a submission entry is fetched once more, and a second failure sets CSTS.CFS (one
error of the CMD class each time it is fetched again, R266); any other command ends with Data Transfer Error. -/
def readFailed (use : ReadFor) (a n : Nat) (d : Dev) : Dev :=
  match use with
  | .submission q idx again =>
    if again then setCfs d
    else
      let d := raise pgCmd 6 (errClass pgCmd (fun d => raise pgCmd 7 (setDegraded pgCmd true d)) d)
      askRead a n (fun _ => .submission q idx true) d
  | .piece i _ => endWrite i stTransfer d
  | .dead => d

/-- Send the requests that wait, as far as tags reach (R228) and unless DMA back-pressure holds them (R390); what lies in the controller memory buffer is read there
(R237). -/
def pump : Nat → Dev → Dev
  | 0, d => d
  | fuel + 1, d =>
    match d.host.todo with
    | [] => d
    | r :: rest =>
      let d' := { d with host := { d.host with todo := rest } }
      match cmbPlace r.addr r.len d with
      | some c =>
        let m := memRead c r.len d'
        pump fuel (match m.2 with
          | some bs => arrive r.use bs m.1
          | none => readFailed r.use r.addr r.len m.1)
      | none =>
        match if linkIsUp d && !(d.tst.dmaHeld && isSet TST_DMABP_RD d) then freeTag d else none with
        | none => d
        | some t => pump fuel (linkL0 { d' with host := { d'.host with reads := d'.host.reads ++ [{ r with tag := t, sentAt := d.time }] } })

/-- The dealer goes on: writes whose turn has come, and requests to the host. -/
def dealerGo (d : Dev) : Dev := pump 4096 (writeGo d)

end Sys2Proof.Machine
end

