-- ==== Sys2Proof/Machine/Admit.lean ====
section
/-!
DEFINITION. Machine/Admit.lean: admission of the hardware-path commands (R248 to R251, R257), what a read meets on its way
(R24, R197, R253), the budget check (R249, R280) and acceptance (R197, R248, R372 to R374).
-/
namespace Sys2Proof.Machine

/-! ## Reads -/

/-- A run of blocks that a read takes from the media: arm and head, zone record and first offset (`noRec`: a media-cache
place given by track and sector), first LBA, blocks. -/
structure MediaRun where
  arm : Nat
  head : Nat
  zrec : Nat
  zofs : Nat
  track : Nat
  sector : Nat
  lba : Nat
  len : Nat
  parity : Bool
  deriving DecidableEq, Repr

/-- Add one block to the runs of a read, joining the last run where it goes on. -/
def addRun (r : MediaRun) (l : List MediaRun) : List MediaRun :=
  match l.getLast? with
  | none => [r]
  | some p =>
    let next := p.arm == r.arm && p.head == r.head && p.zrec == r.zrec && p.lba + p.len == r.lba &&
      (if r.zrec = noRec then p.track == r.track && p.sector + p.len == r.sector else p.zofs + p.len == r.zofs)
    if next then l.dropLast ++ [{ p with len := p.len + 1 }] else l ++ [r]

/-- Further blocks to read ahead after a run (R253): those of the zone or home region that follow on the same track. -/
def aheadOf (r : MediaRun) (d : Dev) : Dev × Nat :=
  if r.zrec = noRec || !rcOn d || !isSet CMD_RCCFG_EN d || rd CMD_RCCFG_AHEAD d == 0 then (d, 0)
  else
    let g := zoneGet r.zrec d
    let z := g.2
    let s := slipList r.zrec z.slips g.1
    let last := r.zofs + r.len - 1
    let p := placeOf z (slipPos s.2 last) s.1
    let spt := ((zoneBand z s.1).map Band.spt).getD 0
    let top := if z.conv then 65536 else z.verif
    let top := if r.parity then min top (last / 64 * 64 + 62) else top
    (s.1, min (rd CMD_RCCFG_AHEAD d) (min (spt - 1 - p.2) (top - 1 - last)))

/-- Put a run of a read into the hand of its arm (R254), with the deadline of R251. -/
def pushRead (i : Nat) (x : Ctx) (r : MediaRun) (d : Dev) : Dev :=
  let a := aheadOf r d
  handPush r.arm ⟨0, .hostRead, 0, some i, x.ns, r.zrec, r.zofs, r.len, r.head, r.track, r.lba % 2 ^ 32, r.lba, r.parity,
    x.admitted, classDue x.admitted x.cls d, x.deadline, 0, false, a.2, r.sector, []⟩ a.1

/-- Count a block that needed no media (R262). -/
def countCached (ns : Nat) (d : Dev) : Dev :=
  if (page pgTen d).freeze then d else onNsStat ns (fun s => { s with cached := s.cached + 1 }) d

/-- Where block `lba` of a read comes from (R24, R197, R209, R253, R382): the held copy, zeros at or above WP or above what was written
of a zone finished early, the read cache, or
the media, whose runs are collected. A status ends the read. -/
def readBlock (i lba : Nat) (st : Dev × List MediaRun) : Dev × List MediaRun :=
  match ctx i st.1 with
  | none => st
  | some x =>
    let d := st.1
    let e := nsEntry x.ns d
    match heldBlk x.ns lba d with
    | some b =>
      let r := readBlk b d
      match r.2 with
      | some bs => (countCached x.ns (giveBlock i lba bs b.md 3 r.1), st.2)
      | none => (endCmd i stUnrec r.1, [])
    | none =>
      if d.deal.blks.any (fun b => b.heldEntry && b.ns == x.ns && b.lba == lba) then (endCmd i stUnrec d, [])
      else
        let g := zoneGet (recOf x.ns lba d) d
        let d := g.1
        let z := g.2
        let o := lba % 65536
        if e.zoned && z.state == zOffline then (endCmd i stZoneOff d, [])
        else if e.zoned && decide (blocksWritten (recOf x.ns lba d) z d ≤ o) then (giveZeros i lba d, st.2)
        else
          let c := rcLookup x.ns lba d
          match c.2 with
          | some (bs, md) => (countCached x.ns (giveBlock i lba bs md 2 c.1), st.2)
          | none =>
            let home : MediaRun := ⟨z.arm, z.head, recOf x.ns lba d, zoneOfs (z.par && !z.conv) o, z.track, 0, lba, 1,
              z.par && !z.conv⟩
            if e.zoned then (c.1, addRun home st.2)
            else
              let m := mcFind x.ns lba c.1
              match m.2 with
              | some f =>
                (bumpEv pgZon ZON_MCCNT_HIT 14 1 m.1,
                  addRun ⟨f.arm, f.head, noRec, 0, f.track, f.sector + (o % 16 - f.first), lba, 1, false⟩ st.2)
              | none => (m.1, addRun home st.2)

/-- The first command that a power state below PS1 holds back raises PWS event bit 2 (R358). -/
def psWait (i : Nat) (d : Dev) : Dev :=
  if psHolds d && !(ctxList d).any (fun p => p.1 != i && (p.2.stage == .budget || p.2.stage == .reading)) then
    raise pgPws 2 d
  else d

/-- A read is admitted: cache lookups, then hand dispatch (R248). -/
def readStart (i : Nat) (d : Dev) : Dev :=
  match ctx i d with
  | none => d
  | some x =>
    let lim := if x.lr && Store.get 0 x.ns d.deal.tler != 0 then Store.get 0 x.ns d.deal.tler else rd CMD_RECOV_MAXREC d
    let sp := readSpan x
    let x := { x with
      stage := .reading, deadline := x.admitted + lim * 100 * auxPerMs, left := sp.2 - sp.1, sent := sp.1, units := 0 }
    let d := setCtx i (some x) d
    let r := (List.range (sp.2 - sp.1)).foldl (fun st k => readBlock i (sp.1 + k) st) (d, [])
    if (ctx i r.1).isNone || r.2.isEmpty then r.1
    else psWait i (r.2.foldl (fun d run => pushRead i x run d) r.1)

/-! ## The budget check (R249, R280) -/

/-- The buffer die that takes the second copy of a block (R23): none on codes without a buffer die, and none while its
link is down (R18). -/
def secondDie (ns lba : Nat) (d : Dev) : Dev × Option Nat :=
  let g := zoneGet (recOf ns lba d) d
  let b := if d.part.bufs = 2 then g.2.arm / 2 else 0
  (g.1, if d.part.bufs ≠ 0 ∧ dieUp (.buf b) d = true then some b else none)

/-- The buffer die that R23 names for the second copy of a block, up or not. -/
def homeBuf (ns lba : Nat) (d : Dev) : Dev × Nat :=
  let g := zoneGet (recOf ns lba d) d
  (g.1, if d.part.bufs = 2 then g.2.arm / 2 else 0)

/-- SDRAM address of the second copy of the block whose first copy stands at `a` (R295). -/
def sdSecond (a : Nat) (d : Dev) : Nat :=
  let x := a - (wdRegion d).1
  (sdMirRegion d).1 + (if rd DRC_MAP_ILV d = 0 then x else x ^^^ 2 ^ rd DRC_MAP_ILV d)

/-- A 4 KiB place in SDRAM lies in no fenced rank region (R301). -/
def rankFree (a : Nat) (d : Dev) : Bool := !(rd DRC_FENCE_FENCED d).testBit (rankRegion a d)

/-- A copy that is gone, or lies where no copy may stay: in a fenced rank region (R301, R375). -/
def copyGone (c : Copy) (d : Dev) : Bool :=
  match c with
  | .lost => true
  | .at a => memKind a d == some .sdram && !rankFree a d

/-- A place is used by a copy. -/
def placeUsed (a : Nat) (d : Dev) : Bool := d.deal.blks.any (fun b => b.c1 == .at a || b.c2 == .at a)

/-- Places in the write-data region that may ever take a block whose second copy goes to `b`. -/
def sdRoom (d : Dev) : Nat :=
  if rd DRC_FENCE_FENCED d = 0 then 65536
  else ((List.range 65536).filter (fun k =>
    let a := (wdRegion d).1 + 4096 * k
    rankFree a d && rankFree (sdSecond a d) d)).length
def mirRoom (b : Nat) (d : Dev) : Nat := rd (BUF_MIR_SIZE b) d * 256 - rd (BUF_MIRSTAT_FENCED b) d

/-- The second-copy dies of a write's blocks. -/
def secondDies (x : Ctx) (d : Dev) : Dev × List (Option Nat) :=
  (List.range x.blocks).foldl (fun st k =>
    let s := secondDie x.ns (x.lba + k) st.1
    (s.1, st.2 ++ [s.2])) (d, [])

/-- Blocks of a write whose second copy goes to `b`. -/
def countDie (b : Option Nat) (l : List (Option Nat)) : Nat := (l.filter (fun y => y == b)).length

/-- The write can never be admitted: it needs more than the largest room that can open for it (R249). -/
def neverFits (l : List (Option Nat)) (d : Dev) : Bool :=
  (List.range 2).any (fun b => decide (mirRoom b d < countDie (some b) l)) || decide (sdRoom d < countDie none l)

/-- There is budget (R249); there is mirror room (R280). -/
def budgetOk (x : Ctx) (d : Dev) : Bool := decide (usedBlocks d + x.blocks ≤ budget d)
def roomOk (l : List (Option Nat)) (d : Dev) : Bool :=
  (List.range 2).all (fun b => countDie (some b) l == 0
    || decide (rd (BUF_MIRSTAT_USED b) d + countDie (some b) l ≤ mirRoom b d))

/-- The places given to a write's blocks are free, aligned, in their regions and outside fences. -/
def placesOk (l : List (Option Nat)) (ps : List (Nat × Nat)) (d : Dev) : Bool :=
  ps.length == l.length && (ps.map Prod.fst).Nodup && (ps.map Prod.snd).Nodup &&
  (ps.zip l).all (fun p =>
    let a := p.1.1
    let c := p.1.2
    let wd := wdRegion d
    a % 4096 == wd.1 % 4096 && inSpan a wd && rankFree a d && !placeUsed a d && !placeUsed c d &&
    (match p.2 with
      | none => c == sdSecond a d && rankFree c d
      | some b => c % 4096 == 0 && inSpan c (bufMirRegion b d)
          && !d.cache.fenced.contains (b * 64 + (c - bufBase b) / 0x100000)))

/-- Writes that wait at the budget check, in order of admission. -/
def budgetQueue (d : Dev) : List (Nat × Ctx) := (ctxOrder d).filter (fun p => p.2.stage == .budget)

/-- A write is admitted and comes to the budget check: it waits when others wait or it does not fit (R249). -/
def writeStart (i : Nat) (d : Dev) : Dev :=
  match ctx i d with
  | none => d
  | some x =>
    let others := !(budgetQueue d).isEmpty
    let l := secondDies x d
    let d := psWait i (setCtx i (some { x with stage := .budget }) l.1)
    let fits := budgetOk x d && !psHolds d
    let room := roomOk l.2 d
    let d := if others || !fits || !room then
        raise pgCmd 1 (wr CMD_STAT_WBFULL 1 (bumpEv pgCmd CMD_CNT0_BUDGETWAIT 8 1 d))
      else d
    if room then d else raise pgBuf 1 d

/-- CMD_STAT.WBFULL: a write waits for the budget. -/
def wbFull (d : Dev) : Dev := if (budgetQueue d).isEmpty then wr CMD_STAT_WBFULL 0 d else d

/-- BUDGET_CHECK_PASS: the first write that waits passes its budget check (R249, R280): its blocks take their room at the
places given. A write too large for any room ends with Internal Error and DNR. -/
def budgetPass (places : List (Nat × Nat)) (d : Dev) : Dev :=
  match budgetQueue d with
  | [] => d
  | (i, x) :: _ =>
    if psHolds d then d
    else
      let l := secondDies x d
      let d := l.1
      if neverFits l.2 d then dealerGo (wbFull (raise pgCmd 1 (complete i stInternalDnr 0 d)))
      else if budgetOk x d && roomOk l.2 d && placesOk l.2 places d then
        let bs := places.zipIdx.map (fun p =>
          (⟨some i, 0, x.ns, x.lba + p.2, none, .at p.1.1, .at p.1.2, [], false, false, false, x.slot⟩ : Blk))
        let d := setBlks (d.deal.blks ++ bs) d
        dealerGo (wbFull (setCtx i (some { x with stage := .pulling, phase := 5 }) d))
      else d

/-! ## Admission (R248, R257) -/

/-- The bucket levels let a command in (R257). -/
def bucketOk (ns : Nat) (d : Dev) : Bool :=
  let t := tenant ns d
  !t.en || (decide (0 ≤ t.ilev) && decide (0 ≤ t.blev))

/-- The charge of one command with its blocks (R257). -/
def charge (ns blocks : Nat) (d : Dev) : Dev :=
  let t := tenant ns d
  if t.en then setTenant ns { t with ilev := t.ilev - 1000, blev := t.blev - 1000 * (blocks : Int) } d else d

/-- A zone of a sealed namespace takes no more writes (R311): the write ends, the zone becomes Read Only. -/
def genExhausted (i : Nat) (x : Ctx) (zi : Nat) (d : Dev) : Dev :=
  let g := zoneGet zi d
  let d := if g.2.state = zReadOnly ∨ g.2.state = zOffline then g.1
    else raise pgZon 5 (dropCtx zi (zonePut zi { g.2 with state := zReadOnly } 0 g.1))
  let d := raiseRec pgCry 1 3 ([x.ns, 0, 0, 0] ++ leBytes zi 4) (bumpEv pgCry CRY_CNT0_GENEXH 6 1 d)
  complete i 0x1C1 0 d

/-- A Flush is admitted (R250). -/
def flushStart (i : Nat) (d : Dev) : Dev :=
  if isSet CMD_CTL_VWC d then settleWaits (onCtx i (fun x => { x with stage := .verifying }) d)
  else complete i stOk 0 d

/-- The charge succeeds: admission (R248 step 2, R316), and the command goes to its next step. -/
def takeIn (i : Nat) (d : Dev) : Dev :=
  match ctx i d with
  | none => d
  | some x =>
    let v := nsValid x.ns
    let d := if v then charge x.ns (if x.opcode = 0 then 0 else x.blocks) d else d
    let x := { x with
      admitted := d.time, seq := d.deal.orders, slot := rd (CRY_NSBIND_SLOT x.ns) d, isSealed := nsSealed x.ns d }
    let d := onDeal (fun y => { y with orders := y.orders + 1 }) d
    let d := memWrite (ctxAddr i 0x48 d) (leBytes x.admitted 8) none (setCtx i (some x) d)
    if x.opcode = 0 then flushStart i d
    else if x.opcode = 2 then readStart i d
    else
      let zi := x.zrec.getD 0
      let g := if x.isSealed && x.zrec.isSome then genGet zi d else (d, 0)
      if g.2 = 0xFFFFFFFF then genExhausted i x zi g.1
      else
        let d := if x.opcode = 0x7D then g.1 else each x.blocks (fun k d => rcDrop x.ns (x.lba + k) d) g.1
        writeStart i d

/-- A command waits for tokens, or is admitted (R257). -/
def tokens (i : Nat) (x : Ctx) (d : Dev) : Dev :=
  let behind := (ctxList d).any (fun p => p.2.stage == .tokens && p.2.ns == x.ns && p.1 != i)
  if nsValid x.ns && (behind || !bucketOk x.ns d) then onCtx i (fun x => { x with stage := .tokens }) d else takeIn i d

/-- The status that ends a command before it is admitted, 0 if none does (R249, R307, R315; NVMe's own checks). -/
def cmdStatus (x : Ctx) (d : Dev) : Nat :=
  let e := nsEntry x.ns d
  if x.opcode = 0 ∧ x.ns = 0xFF then 0
  else if nsValid x.ns = false ∨ e.nzones = 0 then 0x0B
  else if isSet (CRY_NSBIND_VALID x.ns) d = false then 0x82
  else if x.opcode = 0 then 0
  else if 256 < x.blocks then stInvalidField
  else if e.nzones * 65536 < x.lba + x.blocks then stRange
  else if x.opcode = 2 then 0
  else if x.opcode = 0x7D ∧ e.zoned = false then stInvalidOpcode
  else if x.opcode = 0x7D ∧ x.lba % 65536 ≠ 0 then stInvalidField
  else if nsSealed x.ns d = true ∧ (x.lba % 8 ≠ 0 ∨ x.blocks % 8 ≠ 0) then stInvalidField
  else if e.zoned = true ∧ 65536 < x.lba % 65536 + x.blocks then stBoundary
  else 0

/-- An earlier hardware-path command of the namespace is fetched and has not come to its token charge: commands of a
namespace are charged in the order of fetch. DEDUCED, notes/assumptions/46. -/
def earlier (x : Ctx) (d : Dev) : Bool :=
  (ctxList d).any (fun p => p.2.hardware && p.2.stage == .fetched && p.2.ns == x.ns && decide (p.2.seq < x.seq))

/-- A hardware-path command with one of the opcodes `ops` leaves its fetched state (R248). -/
def cmdRun (ops : List Nat) (i : Nat) (d : Dev) : Dev :=
  match ctx i d with
  | none => d
  | some x =>
    if !x.hardware || !ops.contains x.opcode || x.stage != .fetched || x.phase != 0 || earlier x d then d
    else
      let st := cmdStatus x d
      dealerGo (if st ≠ 0 then complete i st 0 d else tokens i x d)

/-! ## Acceptance (R197, R248) -/

/-- Blocks `lo` to below `hi` of a zone go to the media: a work item for each piece of a stripe's data, and each block into
the running parity (R208). -/
def zoneHand (x : Ctx) (zi : Nat) (z : Zone) : Nat → Nat → Nat → Dev → Dev
  | 0, _, _, d => d
  | fuel + 1, lo, hi, d =>
    if hi ≤ lo then d
    else
      let e := if z.par then min hi (lo / 62 * 62 + 62) else hi
      let lba := x.lba / 65536 * 65536 + lo
      let d := handPush z.arm ⟨0, .hostWrite, 0, none, x.ns, zi, zoneOfs z.par lo, e - lo, z.head, z.track, lba % 2 ^ 32,
        lba, z.par, x.admitted, classDue x.admitted x.cls d, 0, 0, false, 0, 0, []⟩ d
      let d := if z.par then
          (List.range (e - lo)).foldl (fun d k =>
            match heldAt zi (zoneOfs true (lo + k)) d with
            | some b => let r := readBlk b d; paritySum zi (zoneOfs true (lo + k)) ((r.2.getD (List.replicate 4096 0)) ++ b.md) r.1
            | none => d) d
        else d
      zoneHand x zi z fuel e hi d

/-- WP moves over an accepted write (R197): the zone leaves Empty with a context and its namespace's parity (R196, R200),
becomes open, and Full at its capacity. -/
def wpAdvance (x : Ctx) (zi : Nat) (z : Zone) (d : Dev) : Dev :=
  let z := if z.state = zEmpty then { z with par := nsPar z.ns d } else z
  let d := takeCtx zi d
  let lo := z.wp
  let z := { z with wp := z.wp + x.blocks, state := if z.state = zExplicit then zExplicit else zImplicit }
  let z := if z.wp = z.cap then { z with state := zFull } else z
  let d := setShort zi 0 d
  let d := zoneHand x zi z (x.blocks + 1) lo z.wp (zonePut zi z 0 d)
  if z.state = zFull then dropCtx zi d else d

/-- The write is accepted (R248 step 6): its CSN (R374), WP, the completion as R250 has it. -/
def acceptNow (i : Nat) (x : Ctx) (d : Dev) : Dev :=
  let csn := nextCsn d
  let d := each x.blocks (fun k d => rcDrop x.ns (x.lba + k) d) (setCsn (csn + 1) d)
  let d := onDeal (fun y => { y with blks := y.blks.map (fun b =>
    if openBlk i b then { b with accepted := true, csn := csn } else b) }) d
  let d := match x.zrec with
    | some zi => let g := zoneGet zi d; wpAdvance x zi g.2 g.1
    | none => d
  let dw0 := if x.opcode = 0x7D then x.lba % 2 ^ 32 else 0
  let d := onCtx i (fun x => { x with dw0 := dw0, dw1 := if x.opcode = 0x7D then x.lba / 2 ^ 32 else 0 }) d
  if x.fua then settleWaits (onCtx i (fun x => { x with stage := .verifying }) d) else complete i stOk dw0 d

/-- The first copies of a write can all be read. -/
def firstCopies (i : Nat) (d : Dev) : Dev × Bool :=
  (d.deal.blks.filter (openBlk i)).foldl (fun st b => let r := readCopy b.c1 st.1; (r.1, st.2 && r.2.isSome)) (d, true)

/-- A second copy is lost and the first is not: the dealer makes a new one (R18). -/
def rebuildDue (b : Blk) : Bool := b.accepted && !b.heldEntry && b.c2 == .lost && b.c1 != .lost

/-- A write whose second copies would go to a buffer die waits until those that the die has lost are rebuilt (R18), also when
the die's link is up again meanwhile. -/
def rebuildWait (i : Nat) (d : Dev) : Dev × Bool :=
  let dies := fun (p : Blk → Bool) (d : Dev) => (d.deal.blks.filter p).foldl (fun (st : Dev × List Nat) b =>
    let h := homeBuf b.ns b.lba st.1
    (h.1, if h.1.part.bufs == 0 then st.2 else h.2 :: st.2)) (d, [])
  let x := dies rebuildDue d
  if x.2.isEmpty then (d, false)
  else
    let y := dies (openBlk i) x.1
    (y.1, y.2.any (fun b => x.2.contains b))

/-- WRITE_ACCEPT: the second copy is acknowledged by its memory, and the first is complete (R248). While the journal takes
no record, acceptance of a zoned write waits (R378); while a lost buffer die's copies are rebuilt, a write that would mirror
to it waits (R18); a copy lost meanwhile is written again first (R261); an unreadable
first copy has the data pulled again once, then ends the write (R261). -/
def writeAccept (i : Nat) (d : Dev) : Dev :=
  match ctx i d with
  | none => d
  | some x =>
    let lost := d.deal.blks.any (fun b => openBlk i b && (copyGone b.c2 d || (match b.c2 with | .at a => !memUp a d | .lost => true)))
    let r := rebuildWait i d
    if x.stage ≠ .second ∨ lost = true ∨ r.2 = true ∨ (x.zrec.isSome = true ∧ (jnlReady d && d.zon.jwait.isEmpty) = false) then d
    else
      let c := firstCopies i r.1
      let d := c.1
      if c.2 = false then
        dealerGo (if x.again then endWrite i stTransfer d
          else if x.opcode = 8 then
            holdCopies i (List.replicate x.blocks (List.replicate 4096 0)) (setCtx i (some { x with again := true }) d)
          else askData i { x with again := true, stage := .pulling } d)
      else
        let s := match x.zrec with
          | some zi => let g := zoneGet zi d; zoneWriteStatus { x with opcode := 1 } zi g.2 g.1
          | none => (d, 0)
        dealerGo (if s.2 ≠ 0 then endWrite i s.2 s.1 else acceptNow i x s.1)

end Sys2Proof.Machine
end

