-- ==== Sys2Proof/Machine/Dealer.lean ====
section
/-!
DEFINITION. Machine/Dealer.lean: the commands of the dealer (R240 to R267): controller registers and doorbells, fetching,
the hardware path, Abort and the firmware path, token buckets, acceptance, shutdown, statistics and billing, and the
values for the pace governor.
-/
namespace Sys2Proof.Machine

/-! ## Controller registers and doorbells -/

/-- The admin queues as AQA, ASQ and ACQ give them (NVMe). -/
def adminQueues (d : Dev) : Dev :=
  let asq := rd NVME_ASQ_LO d * 4096 + rd NVME_ASQ_HI d * 2 ^ 32
  let acq := rd NVME_ACQ_LO d * 4096 + rd NVME_ACQ_HI d * 2 ^ 32
  setCq 0 ⟨true, acq, rd NVME_AQA_ACQS d + 1, 0, 0, true, true, 0⟩
    (setSq 0 ⟨true, asq, rd NVME_AQA_ASQS d + 1, 0, 0, 0, none⟩ d)

/-- CC.SHN = 0b01 or 0b10 (R260): fetching stops, SHST becomes 0b01. -/
def shutdownStart (d : Dev) : Dev := if rd NVME_CSTS_SHST d = 0 then setShst 1 (stopFetch d) else d

/-- A write of CC (R241, R260, R365). -/
def ccWrite (v : Nat) (d : Dev) : Dev :=
  let was := isSet NVME_CC_EN d
  let d := wrs [(NVME_CC_EN, bits v 0 1), (NVME_CC_CSS, bits v 4 3), (NVME_CC_MPS, bits v 7 4), (NVME_CC_AMS, bits v 11 3),
    (NVME_CC_SHN, bits v 14 2), (NVME_CC_IOSQES, bits v 16 4), (NVME_CC_IOCQES, bits v 20 4)] d
  let d := if !was && bitOf v 0 then rdyUpdate (adminQueues d) else d
  let d := if was && !bitOf v 0 then controllerReset d else d
  if bits v 14 2 = 1 ∨ bits v 14 2 = 2 then shutdownStart d else d

/-- The CC word as it stands. -/
def ccWord (d : Dev) : Nat :=
  wordOf [NVME_CC_EN, NVME_CC_CSS, NVME_CC_MPS, NVME_CC_AMS, NVME_CC_SHN, NVME_CC_IOSQES, NVME_CC_IOCQES] d

/-- CC_ENABLE: the host writes CC with EN = 1. -/
def execCcEnable (v : Nat) (s : State) : Out := onDev (ccWrite (v ||| 1)) s
/-- CC_DISABLE: the host writes CC with EN = 0. -/
def execCcDisable (s : State) : Out := onDev (fun d => ccWrite (ccWord d / 2 * 2) d) s
/-- CC_SHUTDOWN: the host writes CC.SHN, 0b01 or 0b10. -/
def execCcShutdown (abrupt : Bool) (s : State) : Out :=
  onDev (fun d => ccWrite (ccWord d - bits (ccWord d) 14 2 * 2 ^ 14 + (if abrupt then 2 else 1) * 2 ^ 14) d) s

/-- An accepted block has been written to the vault (R260). -/
def inVault (b : Blk) (d : Dev) : Bool :=
  let has := fun (l : List VEntry) => l.any (fun e => e.desc.any (fun p => p.csn == b.csn && p.lba == b.lba && p.ns == b.ns))
  has d.vault.area0 || has d.vault.area1

/-- SHUTDOWN_COMPLETE: nothing fetched is open, every accepted write is verified or in the vault, and every zone record
is journaled (R260). -/
def shutdownDone (d : Dev) : Dev :=
  if rd NVME_CSTS_SHST d = 1 && d.deal.ctxs.isEmpty && d.deal.blks.all (fun b => b.heldEntry || inVault b d)
      && d.zon.jwait.isEmpty then
    raise pgCmd 4 (setShst 2 d)
  else d

def execShutdownComplete (s : State) : Out := onDev shutdownDone s

/-- Completions that wait for room in a completion queue go on, in the order of their commands (R261). -/
def postWaiting (d : Dev) : Dev :=
  (ctxOrder d).foldl (fun d p => if p.2.stage = .posting then postCqe p.1 d else d) d

/-- DOORBELL_WRITE: doorbell `k` of R224's region (submission tail 2q, completion head 2q + 1): discarded while CC.EN = 0
(R241), and for a queue that does not exist or a value outside it. In PS4 a command that a doorbell announces waits
(R356, R358). -/
def doorbell (k v : Nat) (d : Dev) : Dev :=
  let q := k / 2
  if !isSet NVME_CC_EN d then d
  else if k % 2 = 0 then
    let s := sq q d
    if s.live && decide (v < s.size) then
      let d := setSq q { s with tail := v } d
      if rd PWS_PSSTAT_STATE d = 4 ∧ v ≠ s.head then raise pgPws 2 d else d
    else d
  else
    let c := cq q d
    if c.live && decide (v < c.size) then postWaiting (setCq q { c with head := v } d) else d

def execDoorbellWrite (k : Fin 258) (v : Nat) (s : State) : Out := onDev (doorbell k v) s

/-! ## Fetching -/

/-- The queue has entries, and its quota does not hold it back (R242, R244). -/
def sqReady (q : Nat) (d : Dev) : Bool :=
  let s := sq q d
  s.live && s.head != s.tail && !(s.held.any (fun ns => atQuota ns d))

/-- The Arbitration Burst in force: 2^AB, 7 meaning no limit (NVMe). -/
def arbBurst (d : Dev) : Nat := let ab := Store.get 0 1 d.deal.feats % 8; if ab = 7 then 65536 else 2 ^ ab

/-- The next queue in the round (R242): the admin queue first, the queue being served while its burst lasts, then the
next one that has entries. -/
def nextSq (d : Dev) : Option Nat :=
  if sqReady 0 d then some 0
  else if d.deal.burst ≠ 0 ∧ d.deal.turn ≠ 0 ∧ sqReady d.deal.turn d = true then some d.deal.turn
  else ((List.range 128).map (fun k => (d.deal.turn + k) % 128 + 1)).find? (fun q => sqReady q d)

/-- A submission entry is on its way. -/
def fetching (d : Dev) : Bool :=
  (d.host.reads ++ d.host.todo).any (fun r => match r.use with | .submission _ _ _ => true | _ => false)

/-- SUBMISSION_FETCH: the dealer fetches the next submission entry (R242). Without a free context fetching stops (R243). -/
def submissionFetch (d : Dev) : Dev :=
  if !isSet NVME_CSTS_RDY d || d.deal.stop || d.deal.ploss || fetching d || decide (rd PWS_PSSTAT_STATE d = 4) then d
  else
    match nextSq d with
    | none => d
    | some q =>
      if (freeCtx d).isNone then
        if isSet CMD_STAT_NOFETCH d then d
        else raise pgCmd 0 (bumpEv pgCmd CMD_CNT0_CTXWAIT 8 1 (wr CMD_STAT_NOFETCH 1 d))
      else
        let s := sq q d
        let d := if q = 0 then d
          else if q = d.deal.turn && d.deal.burst != 0 then onDeal (fun y => { y with burst := y.burst - 1 }) d
          else onDeal (fun y => { y with turn := q, burst := arbBurst d - 1 }) d
        dealerGo (askRead (s.base + 64 * s.head) 64 (fun _ => .submission q s.head false) d)

def execSubmissionFetch (s : State) : Out := onDev submissionFetch s

/-! ## The hardware path -/

/-- NVM_READ of context `i`. -/
def execNvmRead (i : Nat) (s : State) : Out := onDev (cmdRun [2] i) s
/-- NVM_WRITE of context `i`. -/
def execNvmWrite (i : Nat) (s : State) : Out := onDev (cmdRun [1] i) s
/-- WRITE_ZEROES of context `i`. -/
def execWriteZeroes (i : Nat) (s : State) : Out := onDev (cmdRun [8] i) s
/-- ZONE_APPEND of context `i`. -/
def execZoneAppend (i : Nat) (s : State) : Out := onDev (cmdRun [0x7D] i) s
/-- FLUSH of context `i`. -/
def execFlush (i : Nat) (s : State) : Out := onDev (cmdRun [0] i) s
/-- BUDGET_CHECK_PASS: the places that the dealer takes for the copies, first and second, block by block. -/
def execBudgetCheckPass (places : List (Nat × Nat)) (s : State) : Out := onDev (budgetPass places) s
/-- WRITE_ACCEPT of context `i`. -/
def execWriteAccept (i : Nat) (s : State) : Out := onDev (writeAccept i) s

/-- The bucket level after a millisecond (R257, R258). -/
def levelUp (lev : Int) (rate depth : Nat) : Int := min (lev + rate) (1000 * depth)

/-- One millisecond of a tenant (R257, R258): the values written to TEN_NSCFG1 to TEN_NSCFG3 are in force, the levels
rise. -/
def tenantTick (ns : Nat) (d : Dev) : Dev :=
  let t := tenant ns d
  let ib := rd (TEN_NSCFG3_IBURST ns) d
  let bb := rd (TEN_NSCFG3_BBURST ns) d
  let ir := rd (TEN_NSCFG1_IRATE ns) d
  let br := rd (TEN_NSCFG2_BRATE ns) d
  let t := { t with irate := ir, brate := br, iburst := ib, bburst := bb }
  setTenant ns (if t.en then { t with ilev := levelUp t.ilev ir ib, blev := levelUp t.blev br bb } else t) d

/-- TOKEN_BUCKET_TICK: the levels rise and waiting commands are admitted, each namespace's in order (R257). -/
def bucketTick (d : Dev) : Dev :=
  let d := each 255 tenantTick d
  dealerGo ((ctxOrder d).foldl (fun d p =>
    match ctx p.1 d with
    | none => d
    | some x =>
      let first := !(ctxList d).any (fun q => q.2.stage == .tokens && q.2.ns == x.ns && decide (q.2.seq < x.seq))
      if x.stage == .tokens && first && bucketOk x.ns d then takeIn p.1 d else d) d)

def execTokenBucketTick (s : State) : Out := onDev bucketTick s

/-! ## Firmware path -/

/-- Entries of the firmware queue (R245). -/
def fwqSize (d : Dev) : Nat := 2 ^ rd CMD_FWQCTL_LOG2 d

/-- Append context `i` to the firmware queue with a kind (R245); while it is full the command waits (R267). -/
def fwqPush (i kind : Nat) (d : Dev) : Dev :=
  let n := fwqSize d
  let h := rd CMD_FWQHEAD_HEAD d % n
  if (h + 1) % n = rd CMD_FWQTAIL_TAIL d % n then
    raise pgCmd 3 (onCtx i (fun x => { x with stage := .fwqWait, kind := kind }) d)
  else
    let d := memWrite (rd CMD_FWQBASE_ADDR d * 128 + 4 * h) (leBytes (i + kind * 2 ^ 14) 4) none d
    raise pgCmd 2 (wr CMD_FWQHEAD_HEAD ((h + 1) % n) (onCtx i (fun x => { x with stage := .firmware, kind := kind }) d))

/-- Commands that wait for the firmware queue go on (R267), oldest first, while it has room. -/
def fwqDrain (d : Dev) : Dev :=
  (ctxOrder d).foldl (fun d p =>
    let n := fwqSize d
    let full := (rd CMD_FWQHEAD_HEAD d % n + 1) % n == rd CMD_FWQTAIL_TAIL d % n
    if p.2.stage == .fwqWait && !full then fwqPush p.1 p.2.kind d else d) d

/-- A write of CMD_FWQTAIL. -/
def fwqTail (v : Nat) (d : Dev) : Dev := fwqDrain (wr CMD_FWQTAIL_TAIL v d)

/-- An earlier command to the same zone is neither complete nor, for a write, accepted (R246). -/
def zoneEarlier (i : Nat) (x : Ctx) (d : Dev) : Bool :=
  x.zrec.isSome && (ctxList d).any (fun p => p.1 != i && p.2.zrec == x.zrec && decide (p.2.seq < x.seq)
    && !(p.2.writes && (p.2.stage == .verifying || p.2.stage == .posting)))

/-- FIRMWARE_PATH_COMMAND of context `i` (R245, R246). -/
def firmwarePath (i : Nat) (d : Dev) : Dev :=
  match ctx i d with
  | none => d
  | some x =>
    if x.hardware || (x.admin && x.opcode == 8) then d
    else if x.stage = .fetched ∨ x.stage = .zoneWait then
      if zoneEarlier i x d then onCtx i (fun x => { x with stage := .zoneWait }) d
      else fwqPush i (if x.admin then 0 else 1) d
    else if x.stage = .fwqWait then fwqDrain d
    else d

def execFirmwarePathCommand (i : Nat) (s : State) : Out := onDev (firmwarePath i) s

/-- What an Abort does to its target (R247); the answer says whether the target is not aborted. A sealed read that is
inside a unit ends after the unit's check (R313). -/
def abortTarget (t : Nat) (y : Ctx) (d : Dev) : Dev × Bool :=
  if !y.hardware then (d, true)
  else if y.stage = .posting ∨ y.stage = .verifying then (d, true)
  else if y.writes ∨ y.opcode = 0 then (endWrite t stAborted d, false)
  else if y.moving then
    if y.isSealed then (onCtx t (fun y => { y with abort := true }) d, false) else (d, true)
  else (endCmd t stAborted d, false)

/-- ABORT of context `i` (R247): applied to its target, then handed to firmware as kind 2. -/
def abortCmd (i : Nat) (d : Dev) : Dev :=
  match ctx i d with
  | none => d
  | some x =>
    if !(x.admin && x.opcode == 8) || x.stage != .fetched then d
    else
      let g := memNat (ctxAddr i 40 d) 4 d
      if g.2.isNone then dealerGo (complete i stInternal 0 g.1) else
      let v := g.2.getD 0
      let r := match (ctxList g.1).find? (fun p => p.2.sqid == v % 65536 && p.2.cid == v / 65536) with
        | some (t, y) => if t = i then (g.1, true) else abortTarget t y g.1
        | none => (g.1, true)
      let d := memWrite (ctxAddr i 0x50 r.1) (leBytes (b2n r.2) 4) none r.1
      dealerGo (fwqPush i 2 (onCtx i (fun x => { x with dw0 := b2n r.2 }) d))

def execAbort (i : Nat) (s : State) : Out := onDev (abortCmd i) s

/-- What the dealer itself takes from an admin command that firmware completes with success (R240; NVMe): queues created
and deleted, and the features it honours. -/
def adminDone (i : Nat) (x : Ctx) (d : Dev) : Dev :=
  let g := memRead (ctxAddr i 0 d) 64 d
  match g.2 with
  | none => g.1
  | some se =>
    let d := g.1
    let q := seField se 40 2
    let n := seField se 42 2 + 1
    let w := seField se 44 4
    if x.opcode = 9 then
      let d := onDeal (fun y => { y with feats := Store.put 0 (q % 256) w y.feats }) d
      let ns := nsIndex (seField se 4 4)
      if q % 256 ≠ 5 then d
      else if nsValid ns then onDeal (fun y => { y with tler := Store.put 0 ns (w % 65536) y.tler }) d
      else each 255 (fun k d => onDeal (fun y => { y with tler := Store.put 0 k (w % 65536) y.tler }) d) d
    else if q = 0 ∨ 128 < q then d
    else if x.opcode = 0 then setSq q Sq.off d
    else if x.opcode = 4 then setCq q Cq.off d
    else if x.opcode = 1 then setSq q ⟨true, seField se 24 8, n, w / 65536, 0, 0, none⟩ d
    else if x.opcode = 5 then setCq q ⟨true, seField se 24 8, n, 0, 0, true, bitOf w 1, w / 65536⟩ d
    else d

/-- FIRMWARE_COMPLETION: a write of CMD_FWDONE (R245); discarded for a context that is not with firmware (R365). A poisoned context line ends
the command with Internal Error (R291). -/
def firmwareDone (v : Nat) (d : Dev) : Dev :=
  let i := bits v 0 14
  let st := bits v 15 15
  match ctx i d with
  | none => d
  | some x =>
    if x.stage ≠ .firmware then d
    else
      let g := memNat (ctxAddr i 0x50 d) 8 d
      if g.2.isNone then dealerGo (complete i stInternal 0 g.1) else
      let w := g.2.getD 0
      let d := onCtx i (fun x => { x with dw1 := w / 2 ^ 32 }) g.1
      let d := if x.admin && st == 0 then adminDone i x d else d
      dealerGo (complete i st (w % 2 ^ 32) d)

def execFirmwareCompletion (v : Nat) (s : State) : Out := onDev (firmwareDone v) s

/-- A write of CMD_CTL: setting FWRDY lets RDY follow CC.EN (R241), and starts the billing tick the first time (R263). -/
def cmdCtl (v : Nat) (d : Dev) : Dev :=
  let d := wrs [(CMD_CTL_FWRDY, bits v 0 1), (CMD_CTL_VWC, bits v 1 1)] d
  if bitOf v 0 then
    let d := if d.deal.tick.isNone then
        onDeal (fun y => { y with tick := some d.time, tickSec := rd TEN_TICK_SEC d }) d
      else d
    rdyUpdate d
  else d

/-- FIRMWARE_READY: firmware sets CMD_CTL.FWRDY. -/
def execFirmwareReady (s : State) : Out := onDev (fun d => cmdCtl (1 + 2 * rd CMD_CTL_VWC d) d) s

/-! ## Statistics (R262 to R265) -/

/-- State of a bank, and its register field. -/
def bankFld (b : Nat) : Fld := if b = 0 then TEN_BANKSTAT_STATE0 else TEN_BANKSTAT_STATE1

/-- The bank for a snapshot (R264), and whether it is overrun. -/
def bankPick (d : Dev) : Nat × Bool :=
  let e0 := rd TEN_BANKSTAT_STATE0 d == 0
  let e1 := rd TEN_BANKSTAT_STATE1 d == 0
  if e0 && e1 then (1 - rd TEN_BANKSTAT_LAST d, false)
  else if e0 then (0, false)
  else if e1 then (1, false)
  else (if Store.get 0 0 d.deal.bankSeq < Store.get 0 1 d.deal.bankSeq then 0 else 1, true)

/-- A billing boundary now (R263): the snapshot, the counters at 0, TEN_SEQ, the tick restarted with the tick in force. -/
def boundary (cause : Nat) (d : Dev) : Dev :=
  let p := bankPick d
  let start := d.deal.tick.getD d.time
  let seq := (rd TEN_SEQ_SEQ d + 1) % 2 ^ 32
  let sn : Snap := ⟨seq, cause, d.recd.ops + (if d.recd.counted then (d.time - d.recd.opsFrom) / (1000 * auxPerMs) else 0),
    (d.time - start) / auxPerMs, d.recd.pcc, d.deal.nsStat, d.deal.armStat, p.1, p.2⟩
  let d := onDeal (fun y => { y with
    snap := some sn, nsStat := [], armStat := [], tick := some d.time, tickSec := rd TEN_TICK_SEC d }) d
  let d := wrs [(TEN_SEQ_SEQ, seq), (bankFld p.1, 1), (TEN_LATCH_GO, 0)] d
  if p.2 then bump pgTen TEN_OVERRUN_COUNT 1 d else d

/-- A boundary is due; it is deferred while the snapshot before it is being written (R263). -/
def boundaryDue (cause : Nat) (d : Dev) : Dev :=
  if d.deal.tick.isNone then d
  else if d.deal.snap.isSome then
    let d := if cause = 1 then wr TEN_LATCH_GO 1 d else d
    if d.deal.deferred.isSome then d else onDeal (fun y => { y with deferred := some cause }) d
  else boundary cause d

/-- The tick timer has reached the SEC in force (R263). -/
def tickOver (d : Dev) : Bool := d.deal.tick.any (fun t => decide (t + d.deal.tickSec * auxPerS ≤ d.time))

/-- BILLING_TICK: the tick timer reaches TEN_TICK.SEC. -/
def execBillingTick (s : State) : Out := onDev (fun d => if tickOver d then boundaryDue 0 d else d) s
/-- BILLING_LATCH: TEN_LATCH.GO is written; discarded before the tick timer has started. -/
def execBillingLatch (s : State) : Out := onDev (boundaryDue 1) s

/-- The namespace record and the arm record of a bank (R265). Media busy time is kept in CLK_AUX cycles. -/
def nsRecord (s : NsStat) : List Nat :=
  leBytes s.reads 8 ++ leBytes s.writes 8 ++ leBytes s.rblocks 8 ++ leBytes s.wblocks 8 ++ leBytes (s.busy / auxPerUs) 8
    ++ leBytes s.breaches 4 ++ leBytes s.trumped 4 ++ leBytes s.cached 8 ++ List.replicate 8 0
    ++ (List.range 16).flatMap (fun b => leBytes (Store.get 0 b s.hist) 4)
def armRecord (s : ArmStat) : List Nat :=
  leBytes s.read 8 ++ leBytes s.written 8 ++ leBytes (s.busy / auxPerUs) 8 ++ leBytes s.seeks 4 ++ leBytes s.ladder 4
    ++ leBytes s.unrec 4 ++ leBytes s.rawFail 4 ++ leBytes s.trump 4 ++ List.replicate 20 0

/-- The bytes of a bank (R265). -/
def bankBytes (s : Snap) : List Nat :=
  let head := leBytes s.seq 4 ++ [s.cause, 0, 0, 0] ++ leBytes s.ops 5 ++ [0, 0, 0] ++ leBytes s.ms 4 ++ leBytes s.pcc 4
    ++ [0, 0, 0, 0]
  let body := (List.range 256).flatMap (fun i => nsRecord (Store.get NsStat.zero i s.ns))
    ++ (List.range 4).flatMap (fun n => armRecord (Store.get ArmStat.zero n s.arms))
  head ++ leBytes (crc32c (head ++ body)) 4 ++ List.replicate 96 0 ++ body

/-- BANK_WRITE_DONE: the snapshot is in its bank, which becomes UNREAD (R264); a deferred boundary follows (R263). -/
def bankDone (d : Dev) : Dev :=
  match d.deal.snap with
  | none => d
  | some sn =>
    let d := memWrite (rd TEN_BANKBASE_ADDR d * 128 + 0x9000 * sn.bank) (bankBytes sn) none d
    let d := onDeal (fun y => { y with snap := none, bankSeq := Store.put 0 sn.bank sn.seq y.bankSeq }) d
    let d := wrs [(bankFld sn.bank, 2), (TEN_BANKSTAT_LAST, sn.bank)] d
    let d := raise pgTen 0 d
    let d := if sn.overrun then raise pgTen 1 d else d
    match d.deal.deferred with
    | some c => boundary c (onDeal (fun y => { y with deferred := none }) d)
    | none => d

def execBankWriteDone (s : State) : Out := onDev bankDone s

/-- BANK_ACK: a write of TEN_ACK; discarded for a bank that is being written (R264). -/
def bankAck (v : Nat) (d : Dev) : Dev :=
  each 2 (fun b d => if v.testBit b && rd (bankFld b) d != 1 then wr (bankFld b) 0 d else d) d

def execBankAck (v : Nat) (s : State) : Out := onDev (bankAck v) s

/-! ## Values for the pace governor (R256) -/

/-- Estimated service time of a hand's queue at `rpm`, in CLK_AUX cycles (R256), each item's quotient rounded down
(notes/assumptions/47). -/
def handEstimate (n rpm : Nat) (d : Dev) : Nat :=
  ((hand n d).map (fun w =>
    let spt := max 1 (((bandOf n w.head w.track d).map Band.spt).getD 1)
    7500000000 * (spt + 2 * w.len) / (2 * spt * rpm))).sum

/-- The smallest latency target among the namespaces with work in a hand, in CLK_AUX cycles. -/
def handTarget (n : Nat) (d : Dev) : Option Nat :=
  ((hand n d).filter (fun w => nsValid w.ns)).foldl (fun m w =>
    let t := rd (CMD_LCTGT_TGT (tenant w.ns d).cls) d * 100 * auxPerUs
    match m with | none => some t | some u => some (min t u)) none

/-- DEALER_GOVERNOR_TICK: DEMAND and BREACH for the last 100 ms (R256). -/
def governorTick (d : Dev) : Dev :=
  let pct := fun (n : Nat) => min 100 (Store.get 0 n d.deal.busyAcc * 100 / 12500000)
  let slow := decide (d.deal.step ≠ 0) && (List.range 4).any (fun n =>
    match handTarget n d with
    | some t => decide (t < handEstimate n (stepRpm (d.deal.step - 1)) d)
    | none => false)
  let breach := d.deal.breached || slow
  let d := each 4 (fun n d => wr (CMD_HAND_BUSY n) (pct n) d) d
  let demand := (List.range 4).foldl (fun m n => max m (pct n)) 0
  wrs [(CMD_GOVOUT_DEMAND, demand), (CMD_GOVOUT_BREACH, b2n breach)]
    (onDeal (fun y => { y with busyAcc := [], breached := false }) d)

def execDealerGovernorTick (s : State) : Out := onDev governorTick s

end Sys2Proof.Machine
end

