-- ==== Sys2Proof/Machine/Endpoint.lean ====
section
/-!
DEFINITION. Machine/Endpoint.lean: the commands of the host endpoint (R218 to R239) but for requests to BAR0: the link,
configuration requests, completions and timeouts of device reads, received errors, peer windows and the host lock.
-/
namespace Sys2Proof.Machine

/-! ## Link -/

/-- A width the endpoint supports (R218). -/
def widthOk (w : Nat) : Bool := w == 1 || w == 2 || w == 4

/-- The link does not train: PERST_N is asserted or a quiesce runs (R363), the shutdown latch holds (R353), or a boundary
scan instruction has stopped the endpoint (R395). -/
def linkBarred (d : Dev) : Bool :=
  d.host.perst || d.pws.quiesce.isSome || isSet THM_STAT_LATCHED d || d.tst.stopped

/-- DL_UP: the data link comes up at 2.5 GT/s (R218, R238). -/
def dlUp (width : Nat) (rev : Bool) (d : Dev) : Dev :=
  if linkIsUp d || linkBarred d || !widthOk width then d
  else
    dealerGo (raise pgHep 6 (wrs [(HEP_LINKSTAT_DLUP, 1), (HEP_LINKSTAT_SPEED, 1), (HEP_LINKSTAT_WIDTH, width),
      (HEP_LINKSTAT_PMSTATE, 0), (HEP_LINKSTAT_REVERSED, b2n rev)] d))

def execDlUp (width : Nat) (rev : Bool) (s : State) : Out := onDev (dlUp width rev) s

/-- The status of a link that is down. -/
def linkOff (d : Dev) : Dev :=
  wrs [(HEP_LINKSTAT_DLUP, 0), (HEP_LINKSTAT_SPEED, 0), (HEP_LINKSTAT_WIDTH, 0), (HEP_LINKSTAT_PMSTATE, 3),
    (HEP_LINKSTAT_REVERSED, 0)] d

/-- The endpoint stops transmitting and the link goes down (R362 step 1, R353, R395): what it was to send and its reads
are discarded, fetching stops, and the commands that are not accepted end without completion or media effect. -/
def endpointStop (d : Dev) : Dev :=
  let d := abandonAll (linkOff { d with host := { d.host with out := [], reads := [], todo := [], held := [] } })
  stopFetch { d with host := { d.host with reads := [] } }

/-- The data link goes down (R238). -/
def dlDown (d : Dev) : Dev :=
  if linkIsUp d then raise pgHep 5 (bumpHep HEP_ERRCNT2_DLDOWN (linkReset (linkOff d))) else d

def execDlDown (s : State) : Out := onDev dlDown s

/-- HOT_RESET: event bits 8 and 5 (R238); DL_UP follows. -/
def execHotReset (s : State) : Out := onDev (fun d => if linkIsUp d then dlDown (raise pgHep 8 d) else d) s

/-- LINK_RETRAIN: the link changes speed or width (R218, R238). -/
def linkRetrain (speed width : Nat) (d : Dev) : Dev :=
  if linkIsUp d && decide (1 ≤ speed) && decide (speed ≤ 5) && widthOk width then
    let same := rd HEP_LINKSTAT_SPEED d == speed && rd HEP_LINKSTAT_WIDTH d == width
    let d := wrs [(HEP_LINKSTAT_SPEED, speed), (HEP_LINKSTAT_WIDTH, width)] (linkL0 d)
    if same then d else raise pgHep 7 d
  else d

def execLinkRetrain (speed width : Nat) (s : State) : Out := onDev (linkRetrain speed width) s

/-- Nothing has been pending in either direction for IDLE µs (R223); 0 is a reserved value. -/
def linkIdle (d : Dev) : Bool :=
  d.host.out.isEmpty && d.host.reads.isEmpty && d.host.todo.isEmpty && d.host.held.isEmpty
    && decide (d.host.lastTlp + rd HEP_ASPMCTL_IDLE d * auxPerUs ≤ d.time)

/-- ASPM_L1_ENTRY (R223). -/
def l1Entry (d : Dev) : Dev :=
  if linkIsUp d && aspmL1 d && linkIdle d then
    wr HEP_LINKSTAT_PMSTATE (if aspmL12 d then 2 else 1) d
  else d

def execAspmL1Entry (s : State) : Out := onDev l1Entry s

/-- Send an LTR message with the present value (R223). -/
def ltrSend (d : Dev) : Dev :=
  if linkIsUp d && ltrOn d then
    { linkL0 d with host := { (linkL0 d).host with ltrSent := d.host.ltrSent ++ [rd HEP_ASPMCTL_LTRVAL d] } }
  else d

/-- LTR_SEND: firmware writes HEP_ASPMCTL.LTRVAL; a change sends a message (R223). -/
def ltrWrite (v : Nat) (d : Dev) : Dev :=
  let same := rd HEP_ASPMCTL_LTRVAL d == v % 1024
  let d := wr HEP_ASPMCTL_LTRVAL v d
  if same then d else ltrSend d

def execLtrSend (v : Nat) (s : State) : Out := onDev (ltrWrite v) s

/-! ## Configuration requests -/

/-- A doubleword of configuration space as it is read: the subsystem identity is that of HEP_SSID (R220), Link Status and
Transactions Pending follow the device. -/
def cfgRead (off : Nat) (d : Dev) : Nat :=
  let v := cfg off d
  if off = 0x02C then rd HEP_SSID_SVID d + rd HEP_SSID_SSID d * 65536
  else if off = 0x078 then v + (if d.host.reads.isEmpty then 0 else 2 ^ 21)
  else if off = 0x080 then v + rd HEP_LINKSTAT_SPEED d * 2 ^ 16 + rd HEP_LINKSTAT_WIDTH d * 2 ^ 20 + 2 ^ 28
  else v

/-- Byte lanes of a byte-enable mask. -/
def laneMask (be : Nat) : Nat := (List.range 4).foldl (fun m k => if be.testBit k then m + 255 * 256 ^ k else m) 0

/-- Write a doubleword of configuration space with byte enables: read/write bits follow, bits cleared by writing 1 clear. -/
def cfgWrite (off v be : Nat) (d : Dev) : Dev :=
  let r := cfgRow off
  let m := laneMask be
  let old := cfg off d
  let rw := r.rw &&& m
  let clr := r.w1c &&& m &&& v
  let new := ((old ||| rw) - rw) ||| (v &&& rw)
  let new := (new ||| clr) - clr
  let new := if off = 0x044 ∧ (new % 4 = 1 ∨ new % 4 = 2) then new / 4 * 4 + old % 4 else new
  let ltr := ltrOn d
  let d := setCfg off new d
  let d := if off = 0x050 then msixFlush d else d
  if off = 0x098 ∧ ltr = false then ltrSend d else d

/-- CONFIG_REQUEST: a Type 0 configuration read (no value) or write of a doubleword. -/
def configRequest (off : Nat) (w : Option (Nat × Fin 16)) (d : Dev) : Dev :=
  if linkIsUp d then
    let d := { linkL0 d with ur := false }
    match w with
    | none => { flushOut d with rdata := cfgRead off (flushOut d) }
    | some (v, be) => cfgWrite off v be d
  else d

def execConfigRequest (off : Nat) (w : Option (Nat × Fin 16)) (s : State) : Out := onDev (configRequest (off / 4 * 4 % 4096) w) s

/-! ## Completions of device reads -/

/-- The outstanding read with a tag. -/
def readOf (tag : Nat) (d : Dev) : Option DevRead := d.host.reads.find? (fun r => r.tag == tag)
def dropRead (tag : Nat) (d : Dev) : Dev :=
  { d with host := { d.host with reads := d.host.reads.filter (fun r => r.tag != tag) } }

/-- COMPLETION_RECEIVED: a completion with a tag, its status (0 successful, 1 Unsupported Request, 2 Completer Abort),
whether it is poisoned, its bytes and its header (R226, R230, R231). -/
def completion (tag : Nat) (status : Fin 3) (ep : Bool) (bytes hdr : List Nat) (d : Dev) : Dev :=
  let d := linkL0 d
  match readOf tag d with
  | none => raise pgHep 3 (bumpHep HEP_ERRCNT1_UNEXP (aerUnc 16 true hdr d))
  | some r =>
    if status ≠ 0 ∨ ep = true then
      let d := dropRead tag d
      dealerGo (readFailed r.use r.addr r.len (if ep then poisonRecd true hdr d else d))
    else
      let got := r.got ++ bytes
      if got.length < r.len then
        { d with host := { d.host with reads := d.host.reads.map (fun q => if q.tag = tag then { q with got := got } else q) } }
      else dealerGo (arrive r.use (got.take r.len) (dropRead tag d))

def execCompletionReceived (tag : Nat) (status : Fin 3) (ep : Bool) (bytes hdr : List Nat) (s : State) : Out :=
  onDev (completion tag status ep bytes hdr) s

/-- COMPLETION_TIMEOUT of the read with a tag (R229, R230). -/
def completionTimeout (tag : Nat) (d : Dev) : Dev :=
  match readOf tag d with
  | none => d
  | some r =>
    if timesReads d && decide (r.sentAt + readTimeout d ≤ d.time) then
      let d := raise pgHep 2 (bumpHep HEP_ERRCNT1_CTO (aerUnc 14 true [] (dropRead tag d)))
      dealerGo (readFailed r.use r.addr r.len d)
    else d

def execCompletionTimeout (tag : Nat) (s : State) : Out := onDev (completionTimeout tag) s

/-! ## Received errors -/

/-- A correctable link error: one error of the HEP class (R232, R233). -/
def linkError (k : Nat) (d : Dev) : Dev :=
  errClass pgHep (fun d => raise pgHep 11 (setDegraded pgHep true d)) (aerCor k d)

/-- RECEIVED_TLP_ERROR (R232), with the header of the TLP. -/
def tlpError (e : TlpError) (hdr : List Nat) (d : Dev) : Dev :=
  match e with
  | .unsupported => unsupported false hdr d
  | .ignored => d
  | .poisonedWrite => poisonRecd false hdr d
  | .ecrc => if bitOf (cfg 0x118 d) 8 then aerUnc 19 false hdr d else d
  | .malformed => aerUnc 18 false hdr d
  | .flowControl => aerUnc 13 false hdr d
  | .overflow => aerUnc 17 false hdr d
  | .dataLink => aerUnc 4 false hdr d
  | .receiver => linkError 0 d
  | .badTlp => linkError 6 d
  | .badDllp => linkError 7 d
  | .replayRollover => linkError 8 d
  | .replayTimeout => linkError 12 d

def execReceivedTlpError (e : TlpError) (hdr : List Nat) (s : State) : Out := onDev (tlpError e hdr) s

/-! ## Peer windows (R234 to R236) -/

/-- The enabled window all of whose range takes in a request (R234). -/
def winOf (off len : Nat) (d : Dev) : Option Win :=
  ((List.range 16).map (fun n => Store.get Win.off n d.host.act.wins)).find? (fun w =>
    w.en && decide (w.base ≤ off) && decide (off + len ≤ w.base + 2 ^ w.log2))

/-- Carry a request to BAR2 out through a window (R234). A read that meets an uncorrectable error returns all ones with
EP = 1 (R232). What a request to a buffer die without a link gives the spec does not say: a read gets a free value, a
write has no effect (notes/assumptions/48). -/
def winDo (r : WinReq) (d : Dev) : Dev :=
  let posted := r.data.isSome
  match if memOn d then winOf r.off r.len d else none with
  | none => unsupported posted r.hdr d
  | some w =>
    let a := w.target + (r.off - w.base)
    match r.data with
    | some bs =>
      if w.ro then unsupported true r.hdr d
      else if memUp a d then memWrite a (bs.take r.len) none { d with ur := false } else d
    | none =>
      let d := flushOut { d with ur := false }
      if memUp a d then
        let m := memRead a r.len d
        match m.2 with
        | some bs => { m.1 with rdata := leNat bs }
        | none => raise pgHep 4 { m.1 with rdata := 2 ^ (8 * r.len) - 1 }
      else
        let f := draw d
        { f.1 with rdata := f.2 % 2 ^ (8 * r.len) }

/-- WINDOW_REQUEST: a request to BAR2; while a commit is in progress it waits for the new mapping (R235). -/
def windowRequest (r : WinReq) (d : Dev) : Dev :=
  if !linkIsUp d then d
  else if isSet HEP_WINCOMMIT_BUSY d then { d with host := { d.host with held := d.host.held ++ [.win r] } }
  else winDo r (linkL0 d)

def execWindowRequest (r : WinReq) (s : State) : Out := onDev (windowRequest r) s

/-- The staged window `n` (R234, R235). -/
def staged (n : Nat) (d : Dev) : Win :=
  ⟨isSet (HEP_WIN_EN n) d, isSet (HEP_WIN_RDONLY n) d, rd (HEP_WIN_LOG2SZ n) d, rd (HEP_WIN_BASE n) d * 65536,
    rd (HEP_WINT_TARGET n) d * 65536⟩

/-- The victim area of buffer die `b` (R278). -/
def victimArea (b : Nat) (d : Dev) : Nat × Nat :=
  (bufBase b + 0x4000000 - rd (BUF_CFG_VICSZ b) d * 0x100000, bufBase b + 0x4000000)

/-- The check that the staged window `n` fails, 0 if none (R236). -/
def winReason (n : Nat) (d : Dev) : Nat :=
  let w := staged n d
  let size := 2 ^ w.log2
  let span := (w.target, w.target + size)
  if !w.en then 0
  else if w.log2 < 16 ∨ 26 < w.log2 ∨ w.base % size ≠ 0 ∨ 0x4000000 < w.base + size then 1
  else if (List.range 16).any (fun m => m != n && (staged m d).en
      && meets (w.base, w.base + size) ((staged m d).base, (staged m d).base + 2 ^ (staged m d).log2)) then 2
  else if !((decide (sdramBase ≤ w.target) && decide (w.target + size ≤ sdramBase + sdramBytes d))
      || (decide (bufBase 0 ≤ w.target) && decide (w.target + size ≤ bufBase 0 + 0x4000000 * d.part.bufs))) then 3
  else if (dealerRegions d ++ ((List.range 2).filter (fun b => fitted (.buf b) d)).map (fun b => victimArea b d)).any
      (meets span) then 3
  else 0

/-- The mapping that the staged registers spell. -/
def stagedSet (d : Dev) : WinSet :=
  ⟨(List.range 16).foldl (fun m n => Store.put Win.off n (staged n d) m) [], rd HEP_CMBWIN_WIN d, isSet HEP_CMBWIN_EN d,
    isSet HEP_CMBWIN_SQS d, isSet HEP_CMBWIN_DATA d⟩

/-- First window that fails a check, and the reason (R236); the CMB rules of R237 come after the windows. -/
def commitCheck (d : Dev) : Option (Nat × Nat) :=
  match (List.range 16).find? (fun n => winReason n d != 0) with
  | some n => some (n, winReason n d)
  | none =>
    let s := stagedSet d
    let w := staged s.cmbWin d
    let a := d.host.act
    if s.cmbEn && (!w.en || w.ro) then some (s.cmbWin, 4)
    else if isSet NVME_CC_EN d &&
        (s.cmbWin != a.cmbWin || s.cmbEn != a.cmbEn || s.cmbSqs != a.cmbSqs || s.cmbData != a.cmbData) then some (s.cmbWin, 5)
    else none

/-- WINDOW_COMMIT: HEP_WINCOMMIT.GO is written (R235, R236); discarded while BUSY = 1. -/
def windowCommit (d : Dev) : Dev :=
  if isSet HEP_WINCOMMIT_BUSY d then d
  else
    match commitCheck d with
    | some (n, r) =>
      raise pgHep 10 (wrs [(HEP_WINCOMMIT_BAD, 1), (HEP_WINCOMMIT_BADWIN, n), (HEP_WINCOMMIT_REASON, r)] d)
    | none => wr HEP_WINCOMMIT_BUSY 1 { d with host := { d.host with next := some (stagedSet d) } }

def execWindowCommit (s : State) : Out := onDev windowCommit s

/-- Mask of the windows that satisfy `p`. -/
def winMask (m : WinSet) (p : Win → Bool) : Nat :=
  (List.range 16).foldl (fun v n => if p (Store.get Win.off n m.wins) then v + 2 ^ n else v) 0

/-- The new mapping is installed at once (R235). -/
def windowInstall (m : WinSet) (d : Dev) : Dev :=
  let d := { d with host := { d.host with act := m, next := none } }
  raise pgHep 9 (wrs [(HEP_WINACT_EN, winMask m Win.en), (HEP_WINACT_RDONLY, winMask m (fun w => w.en && w.ro)),
    (HEP_WINCOMMIT_BUSY, 0)] d)

/-- HOST_ACCESS_LOCK: GLB_HOSTACC.LOCK is set (R225). -/
def execHostAccessLock (s : State) : Out := onDev (wr GLB_HOSTACC_LOCK 1) s

end Sys2Proof.Machine
end

