-- ==== Sys2Proof/Machine/Cipher.lean ====
section
/-!
DEFINITION. Machine/Cipher.lean: the commands of the cipher engine and the key management unit (R305 to R327): namespace
binding, the tag check of sealed units, key operations and their lock, entropy and the DRBG.
-/
namespace Sys2Proof.Machine

def onKmu (f : Keys → Keys) (d : Dev) : Dev := { d with kmu := f d.kmu }

/-! ## Namespace binding (R315, R253) -/

/-- The namespaces bound to key slot `k`. -/
def boundTo (k : Nat) (d : Dev) : List Nat :=
  (List.range 256).filter (fun ns => isSet (CRY_NSBIND_VALID ns) d && rd (CRY_NSBIND_SLOT ns) d == k)

/-- A binding write is refused (R315). A write that binds nothing (VALID = 0) has no such case (notes/assumptions/52). -/
def bindRefused (ns v : Nat) (d : Dev) : Bool :=
  let mode := bitOf v 9
  bitOf v 10 &&
    ((match keySlot (bits v 0 9) d with | .empty => true | .xts _ _ => mode | .gcm _ => !mode)
      || (mode && !(nsEntry ns d).zoned) || (boundTo (bits v 0 9) d).any (fun m => m != ns))

/-- NAMESPACE_BIND: a write of CRY_NSBIND for the selected namespace. -/
def nsBind (v : Nat) (d : Dev) : Dev :=
  let ns := rd CRY_NSSEL_NS d
  if bindRefused ns v d then raise pgCry 5 d
  else
    let d := wrs [(CRY_NSBIND_SLOT ns, bits v 0 9), (CRY_NSBIND_MODE ns, bits v 9 1), (CRY_NSBIND_VALID ns, bits v 10 1)] d
    let n := (bindCount ns d + 1) % 256
    let d := onDeal (fun y => { y with bind := Store.put 0 ns n y.bind }) d
    if n = 0 then rcSweep ns d else d

def execNamespaceBind (v : Nat) (s : State) : Out := onDev (nsBind v) s

/-! ## Sealed reads (R312, R313) -/

/-- The blocks of unit `u` that a sealed read has taken in, in order. -/
def unitBlocks (x : Ctx) (u : Nat) : List (Nat × List Nat × List Nat × Nat) :=
  (List.range 8).filterMap (fun j => x.got.find? (fun g => g.1 == 8 * u + j))

/-- The tag check of a unit passes; a unit that was never written has none (R197). -/
def unitPasses (x : Ctx) (u : Nat) (d : Dev) : Bool :=
  let bs := unitBlocks x u
  bs.all (fun g => g.2.2.1.isEmpty) || unitOk x.slot x.ns u (bs.map (fun g => (g.2.1, g.2.2.1))) d

/-- A unit fails its tag check (R313): work not started leaves the hands, zeros go over the unit's part of the host
buffer, then the completion; the event, its record and the count; the unit's frames leave the read cache. -/
def unitFails (i : Nat) (x : Ctx) (u : Nat) (d : Dev) : Dev :=
  let d := dropWorkOf i d
  let mine := (List.range 8).filter (fun j => decide (x.lba ≤ 8 * u + j) && decide (8 * u + j < x.lba + x.blocks))
  let d := mine.foldl (fun d j =>
    (blockSpans x (8 * u + j - x.lba)).foldl (fun d s => sendZeros s.1 s.2 d) d) d
  let src := ((unitBlocks x u).map (fun g => g.2.2.2)).headD 0
  let d := complete i 0x2C0 0 d
  let d := raiseRec pgCry 0 3 ([x.ns, 0, 0, 0] ++ leBytes u 6 ++ [src]) (bumpEv pgCry CRY_CNT0_TAGFAIL 6 1 d)
  each 8 (fun j d => rcDrop x.ns (8 * u + j) d) d

/-- SEALED_UNIT_DECRYPTED: the last block of the present unit of the sealed read of context `i` is decrypted, and its tag
is checked. A read that the host has aborted ends here (R313). -/
def unitDone (i : Nat) (d : Dev) : Dev :=
  match ctx i d with
  | none => d
  | some x =>
    let u := firstUnit x + x.units
    if !x.isSealed || x.stage != .reading || x.sent != 8 * (u + 1) then d
    else if unitPasses x u d then
      let d := onCtx i (fun x => { x with units := x.units + 1 }) d
      if x.abort then endCmd i stAborted d
      else if u = lastUnit x then complete i stOk 0 d
      else sealedFlow i d
    else unitFails i x u d

def execSealedUnitDecrypted (i : Nat) (s : State) : Out := onDev (unitDone i) s

/-! ## Key operations (R316 to R320) -/

/-- Owner code of a requester (R321). -/
def ownerCode : Who → Nat
  | .core c => c.val + 1
  | .host => 9

/-- Zero the blob registers. -/
def blobZero (d : Dev) : Dev := each 18 (fun w d => wr (KMU_BLOB_DATA w) 0 d) d

/-- The first `n` blob bytes, least significant byte of each word first (R318). -/
def blobBytes (n : Nat) (d : Dev) : List Nat := ((List.range 18).flatMap (fun w => leBytes (rd (KMU_BLOB_DATA w) d) 4)).take n
def putBlob (bs : List Nat) (d : Dev) : Dev :=
  each 18 (fun w d => wr (KMU_BLOB_DATA w) (leNat ((bs.drop (4 * w)).take 4)) d) d

/-- A key slot is in use (R316): an admitted command, or a block that is held, encrypts or decrypts under it. -/
def slotInUse (k : Nat) (d : Dev) : Bool :=
  (ctxList d).any (fun p => p.2.hardware && p.2.opcode != 0 && p.2.slot == k && p.2.stage != .fetched && p.2.stage != .tokens)
    || d.deal.blks.any (fun b => b.slot == k)

/-- A slot that CLEAR and loads may not touch. -/
def slotBusy (k : Nat) (d : Dev) : Bool := slotInUse k d || !(boundTo k d).isEmpty

/-- Put a key into a slot, or empty it; CRY_STAT.SLOTS counts those not empty. -/
def putKey (k : Nat) (x : KeySlot) (d : Dev) : Dev :=
  let d := { d with keys := Store.put KeySlot.empty k x d.keys }
  wr CRY_STAT_SLOTS d.keys.length d

/-- The key that bytes spell, by MODE (R318): 64 bytes of an XTS key, or 32 of a GCM key. -/
def keyOf (gcm : Bool) (bs : List Nat) : KeySlot := if gcm then .gcm (bs.take 32) else .xts (bs.take 32) ((bs.drop 32).take 32)
/-- The two halves of an XTS key are equal (R319). -/
def halvesEqual (gcm : Bool) (bs : List Nat) : Bool := !gcm && bs.take 32 == (bs.drop 32).take 32

/-- Usage bits and contents of a Verom slot (R317). -/
def Otp.usage (o : Otp) (v : Nat) : Nat := Store.get 0 v o.verom
def Otp.veromKey (o : Otp) (v : Nat) : List Nat := Store.get (List.replicate 32 0) v o.veromKeys

/-- Start of a key operation: KMU_CMD with GO (R318); discarded while BUSY = 1; a requester without the lock is refused
with code 1 (R319). -/
def kmuStart (op : Nat) (who : Who) (v : Nat) (d : Dev) : Dev :=
  if isSet KMU_STAT_BUSY d then d
  else
    let d := wrs [(KMU_CMD_OP, op), (KMU_CMD_MODE, bits v 3 1), (KMU_CMD_SLOT, bits v 4 9), (KMU_CMD_VSLOT, bits v 13 6),
      (KMU_CMD_KEKSEL, bits v 19 6)] d
    if rd KMU_LOCK_OWNER d ≠ ownerCode who then raise pgKmu 1 (wr KMU_STAT_ERR 1 d)
    else wr KMU_STAT_BUSY 1 (setBusy pgKmu true (onKmu (fun k => { k with op := some (op, v), opAt := d.time }) d))

/-- The failure of an operation, 0 for none, and the key it loads (R318, R319); `drawn` are the bytes the DRBG gives. -/
def kmuResult (op v : Nat) (drawn : List Nat) (o : Otp) (d : Dev) : Nat × List Nat :=
  let gcm := bitOf v 3
  let slot := bits v 4 9
  let vs := bits v 13 6
  let kek := bits v 19 6
  let n := if gcm then 32 else 64
  let fin := fun (key : List Nat) => if slotBusy slot d then (4, []) else if halvesEqual gcm key then (5, []) else (0, key)
  if op = 0 then
    if o.usage kek ≠ 1 then (3, [])
    else match kwUnwrap (o.veromKey kek) (blobBytes (n + 8) d) with
      | none => (2, [])
      | some key => fin key
  else if op = 1 then
    if o.usage vs ≠ 2 ∨ (gcm = false ∧ (vs % 2 = 1 ∨ o.usage (vs + 1) ≠ 2)) then (3, [])
    else fin (if gcm then o.veromKey vs else o.veromKey vs ++ o.veromKey (vs + 1))
  else if op = 2 then
    if !cipherOk d then (6, []) else if o.usage kek ≠ 1 then (3, []) else fin (drawn.take n)
  else if op = 3 then (if !cipherOk d then 6 else if slotBusy slot d then 4 else 0, [])
  else (if o.usage vs = 0 ∨ o.usage vs = 3 then 3 else 0, [])

/-- The 100 ms by which the lasting action of the KMU class delays a LOADWRAP are not over (R325). -/
def kmuDelayed (op : Nat) (d : Dev) : Bool := op == 0 && d.kmu.slow && decide (d.time < d.kmu.opAt + 100 * auxPerMs)

/-- KMU_OP_COMPLETE: the operation in progress ends (R318, R319). REVOKE burns the usage bits of its Verom slot. -/
def kmuDone (drawn : List Nat) (s : State) : State :=
  match s.dev.kmu.op with
  | none => s
  | some (op, v) =>
    if kmuDelayed op s.dev then s else
    let d := s.dev
    let r := kmuResult op v drawn s.otp d
    let slot := bits v 4 9
    let d := wr KMU_STAT_BUSY 0 (setBusy pgKmu false (onKmu (fun k => { k with op := none }) d))
    let d := if op = 0 ∨ op = 1 then blobZero d else d
    if r.1 ≠ 0 then
      let d := wr KMU_STAT_ERR r.1 d
      let d := if r.1 = 2 then errClass pgKmu (fun d => raise pgKmu 3 (onKmu (fun k => { k with slow := true }) d)) (bumpEv pgKmu KMU_CNT_UNWRAPFAIL 4 1 d) else d
      { s with dev := raise pgKmu 1 d }
    else
      let d := if op ≤ 2 then putKey slot (keyOf (bitOf v 3) r.2) d else if op = 3 then putKey slot .empty d else d
      let d := if op = 2 then putBlob (kwWrap (s.otp.veromKey (bits v 19 6)) r.2) d else d
      let d := raise pgKmu 0 (wr KMU_STAT_DONE 1 d)
      if op = 4 then { s with dev := d, otp := { s.otp with verom := Store.put 0 (bits v 13 6) 3 s.otp.verom } }
      else { s with dev := d }

/-- KMU_LOADWRAP. -/
def execKmuLoadwrap (who : Who) (v : Nat) (s : State) : Out := onDev (byWho who (kmuStart 0 who v)) s
/-- KMU_LOADVEROM. -/
def execKmuLoadverom (who : Who) (v : Nat) (s : State) : Out := onDev (byWho who (kmuStart 1 who v)) s
/-- KMU_GENERATE. -/
def execKmuGenerate (who : Who) (v : Nat) (s : State) : Out := onDev (byWho who (kmuStart 2 who v)) s
/-- KMU_CLEAR. -/
def execKmuClear (who : Who) (v : Nat) (s : State) : Out := onDev (byWho who (kmuStart 3 who v)) s
/-- KMU_REVOKE. -/
def execKmuRevoke (who : Who) (v : Nat) (s : State) : Out := onDev (byWho who (kmuStart 4 who v)) s
/-- KMU_OP_COMPLETE, with the bytes that the DRBG gives a GENERATE. -/
def execKmuOpComplete (drawn : List Nat) (s : State) : Out := onState (kmuDone drawn) s

/-! ## The lock (R321, R322) -/

/-- A write of KMU_LOCK by a requester. -/
def lockWrite (who : Who) (v : Nat) (d : Dev) : Dev :=
  let o := rd KMU_LOCK_OWNER d
  let me := ownerCode who
  if o = 0 then if v % 16 = me then onKmu (fun k => { k with lockAt := d.time }) (wr KMU_LOCK_OWNER me d) else d
  else if o = me ∧ v % 16 = 0 then raise pgKmu 0 (blobZero (wr KMU_LOCK_OWNER 0 d))
  else d

/-- KMU_LOCK_ACQUIRE: a requester writes a nonzero value. -/
def execKmuLockAcquire (who : Who) (v : Fin 15) (s : State) : Out := onDev (byWho who (lockWrite who (v.val + 1))) s
/-- KMU_LOCK_RELEASE: a requester writes 0. -/
def execKmuLockRelease (who : Who) (s : State) : Out := onDev (byWho who (lockWrite who 0)) s

/-- KMU_LOCK_EXPIRY: the lock has been held for 10 ms; an operation in progress completes first (R322). -/
def lockExpire (d : Dev) : Dev :=
  if rd KMU_LOCK_OWNER d = 0 ∨ isSet KMU_STAT_BUSY d = true ∨ d.time < d.kmu.lockAt + 10 * auxPerMs then d
  else raise pgKmu 2 (bumpEv pgKmu KMU_CNT_EXPIRED 4 1 (wr KMU_LOCK_OWNER 0 (blobZero d)))

def execKmuLockExpiry (s : State) : Out := onDev lockExpire s

/-! ## Entropy and the DRBG (R324) -/

/-- The DRBG enters its error state. -/
def drbgError (d : Dev) : Dev := raise pgCry 3 (setFault pgCry true (wr CRY_RNGSTAT_ERR 1 d))

/-- ENTROPY_SAMPLE: a sample passes the continuous health tests or fails them. -/
def entropySample (ok : Bool) (d : Dev) : Dev :=
  let d := onKmu (fun k => { k with srcFail := !ok }) d
  if ok then d else errClass pgCry drbgError (raise pgCry 2 (bumpEv pgCry CRY_RNGSTAT_HTFAIL 6 1 d))

def execEntropySample (ok : Bool) (s : State) : Out := onDev (entropySample ok) s

/-- The DRBG takes new entropy. -/
def reseeded (d : Dev) : Dev := wr CRY_RNGCTL_RESEED 0 (onKmu (fun k => { k with late := false }) d)

/-- DRBG_RESEED: firmware sets CRY_RNGCTL.RESEED, which clears when the reseed is done: at once while the source passes
its tests. -/
def drbgReseed (d : Dev) : Dev :=
  if isSet CRY_RNGSTAT_ERR d then d else if d.kmu.srcFail then wr CRY_RNGCTL_RESEED 1 d else reseeded d

def execDrbgReseed (s : State) : Out := onDev drbgReseed s

/-- DRBG_RESEED_DUE: the reseed interval has passed: while the source fails, the DRBG goes on for a second interval, then
enters its error state. -/
def reseedDue (d : Dev) : Dev :=
  if isSet CRY_RNGSTAT_ERR d then d
  else if d.kmu.srcFail then
    if d.kmu.late then drbgError d else raise pgCry 2 (onKmu (fun k => { k with late := true }) d)
  else reseeded d

def execDrbgReseedDue (s : State) : Out := onDev reseedDue s

/-- The start-up tests end (R324): on a pass the DRBG is instantiated. -/
def startupTests (pass : Bool) (d : Dev) : Dev :=
  if pass then setFault pgCry false (wrs [(CRY_RNGSTAT_ERR, 0), (CRY_RNGSTAT_READY, 1)] (reseeded (onKmu (fun k => { k with srcFail := false }) d)))
  else drbgError d

/-- DRBG_REINIT: firmware sets CRY_RNGCTL.REINIT, and the start-up tests pass or fail. -/
def drbgReinit (pass : Bool) (d : Dev) : Dev :=
  if pass then raise pgCry 4 (startupTests true d) else startupTests false d

def execDrbgReinit (pass : Bool) (s : State) : Out := onDev (drbgReinit pass) s

end Sys2Proof.Machine
end

