-- ==== Sys2Proof/Machine/Loops.lean ====
section
/-!
DEFINITION. Machine/Loops.lean: the servo engine's loops (R126 to R138): coefficient tables and their cost (R130 to
R134), the position, current and trajectory loops, the reaction bus, the current link to the power die (R144, R145,
R172, R173), injection and capture (R150, R151).
-/
namespace Sys2Proof.Machine

/-- TABLE_SELECT: a write of CTL_TBLSEL loads the selected table into the staging buffer and sets the pointer to 0
(R132). A reserved BANK leaves the selection as it is (R11); of feedforward tables there is none for the own arm (R131). -/
def tableSelect (n : ArmId) (v : Nat) (d : Dev) : Dev :=
  ifReach (pgCtl n) (fun d =>
    let loop := bits v 0 2
    let bank := bits v 2 3
    let d := wr (CTL_TBLSEL_LOOP n) loop d
    let d := if bank ≤ (if loop = 3 then 3 else 4) ∧ ¬(loop = 3 ∧ bank = n.val) then wr (CTL_TBLSEL_BANK n) bank d else d
    let t := tblNo loop (rd (CTL_TBLSEL_BANK n) d)
    wr (CTL_TBLCTL_PTR n) 0 (onArm n (fun a => { a with stage := (List.range 64).map (tblWord a t) }) d)) d

def execTableSelect (n : ArmId) (v : Nat) (s : State) : Out := onDev (tableSelect n v) s

/-- TABLE_DATA_ACCESS: a read (none) or write of CTL_TBLDATA reaches the staging word at the pointer and advances the
pointer, which wraps from 63 to 0 (R132). -/
def tableData (n : ArmId) (w : Option Nat) (d : Dev) : Dev :=
  if reach (pgCtl n) d then
    let p := rd (CTL_TBLCTL_PTR n) d
    let d := match w with
      | some v => onArm n (fun a => { a with stage := a.stage.set p (v % 2 ^ 32) }) d
      | none => { d with rdata := (arm n d).stage.getD p 0 }
    wr (CTL_TBLCTL_PTR n) (p + 1) d
  else match w with
    | some _ => d
    | none => { d with rdata := absent (pgCtl n) d }

def execTableDataAccess (n : ArmId) (w : Option Nat) (s : State) : Out := onDev (tableData n w) s

/-- Why a staged table is rejected (R132): 0 it is not, 1 its CRC or header, 2 its cost. -/
def tableBad (n : Nat) (d : Dev) : Nat :=
  let a := arm n d
  let ws := a.stage
  let loop := rd (CTL_TBLSEL_LOOP n) d
  let bank := rd (CTL_TBLSEL_BANK n) d
  let h := ws.getD 0 0
  let own := loop == 3 && bank == n
  let crcBad := ws.getD 63 0 != crc32c (wordBytes (ws.take 63))
  let hdrBad := bits h 8 2 != loop || bits h 10 3 != bank
    || (loop != 1 && bitOf h 13) || (loop == 3 && bits h 6 2 != 0)
  let t := tblNo loop bank
  let tbl := fun k j => if k = t then ws.getD j 0 else tblWord a k j
  if crcBad || hdrBad || own then 1
  else if budgetCycles (rd SPN_STEPLIM_MAX d) < costOf tbl 0 then 2 else 0

/-- TABLE_COMMIT: CTL_TBLCTL with COMMIT checks the staged table; one that passes is installed at the next aligned wedge
boundary, at once while the heads are unloaded (R132, R416); a write of 1 clears BAD and OVER. -/
def tableCommit (n : ArmId) (v : Nat) (d : Dev) : Dev :=
  ifReach (pgCtl n) (fun d =>
    let d := when' (bitOf v 2) (wr (CTL_TBLCTL_BAD n) 0) d
    let d := when' (bitOf v 3) (wr (CTL_TBLCTL_OVER n) 0) d
    if !bitOf v 0 then d
    else if tableBad n d = 1 then raise (pgCtl n) 2 (wr (CTL_TBLCTL_BAD n) 1 d)
    else if tableBad n d = 2 then raise (pgCtl n) 2 (wr (CTL_TBLCTL_OVER n) 1 d)
    else
      let t := tblNo (rd (CTL_TBLSEL_LOOP n) d) (rd (CTL_TBLSEL_BANK n) d)
      let d := onArm n (fun a => { a with tblPend := some (t, a.stage) }) (wr (CTL_TBLCTL_PEND n) 1 d)
      if unloaded n d then installTable n d else d) d

def execTableCommit (n : ArmId) (v : Nat) (s : State) : Out := onDev (tableCommit n v) s

/-- Coefficient word `j` of a loop between the two banks (R133). -/
def coef (a : Arm) (loop j : Nat) : Int :=
  let c0 := tblQ a (tblNo loop a.bank) j
  if a.wNum = 0 then c0
  else rdiv (((a.wDen : Int) - a.wNum) * c0 + (a.wNum : Int) * tblQ a (tblNo loop (a.bank + 1)) j) a.wDen

/-- Coefficient `k` (b0, b1, b2, a1, a2) of section `s`; an inactive bank contributes b0 = 1 and zeros (R133). -/
def secCoef (a : Arm) (loop s k : Nat) : Int :=
  let one := fun b => if (tblWord a (tblNo loop b) 0).testBit s then tblQ a (tblNo loop b) (1 + 5 * s + k)
    else if k = 0 then q1 else 0
  if a.wNum = 0 then one a.bank
  else rdiv (((a.wDen : Int) - a.wNum) * one a.bank + (a.wNum : Int) * one (a.bank + 1)) a.wDen

/-- Section `s` of a loop is active in one of the banks in use (R129, R133). -/
def secOn (a : Arm) (loop s : Nat) : Bool :=
  (tblWord a (tblNo loop a.bank) 0).testBit s
    || (a.wNum != 0 && (tblWord a (tblNo loop (a.bank + 1)) 0).testBit s)

/-- One biquad section (R129): y = b0·x + b1·x₁ + b2·x₂ − a1·y₁ − a2·y₂; an inactive section passes its input. -/
def biquad (loop : Nat) (st : Arm × Int) (s : Nat) : Arm × Int :=
  let a := st.1
  let x := st.2
  if !secOn a loop s then st
  else
    let h := Store.get (0, 0, 0, 0) (loop * 8 + s) a.hist
    let y := qScale (secCoef a loop s 0 * x + secCoef a loop s 1 * h.1 + secCoef a loop s 2 * h.2.1
      - secCoef a loop s 3 * h.2.2.1 - secCoef a loop s 4 * h.2.2.2)
    ({ a with hist := Store.put (0, 0, 0, 0) (loop * 8 + s) (x, h.1, y, h.2.2.1) a.hist }, y)

/-- Run a list of sections. -/
def sections (loop : Nat) (ss : List Nat) (x : Int) (a : Arm) : Arm × Int := ss.foldl (biquad loop) (a, x)

/-- One step of the PRBS register x^15 + x^14 + 1 (R150). -/
def prbsStep (p : Nat) : Nat := (p * 2 + (if p.testBit 14 != p.testBit 13 then 1 else 0)) % 32768

/-- One turn of an injected sine: a sample period of L0 is a quarter of the wedge period in LSBs of 1/96 ns, and a frequency comes in
0.1 Hz, so that frequency times quarter periods counts the phase exactly. -/
def injTurn : Nat := 3840000000000

/-- Samples of a point's loop last this many quarter wedges (R150): L0 1, L1 4, L2 16. -/
def injQuarters (pt : Nat) : Nat := if pt = 0 then 16 else if pt < 4 then 4 else 1

/-- The frequency of the injected sine now, in 0.1 Hz: F0, or the sweep's (R150). A sweep that starts from 0 Hz has no value: a free
one. -/
def injFreq (n : Nat) (d : Dev) : Nat :=
  let f0 := rd (CTL_INJF0_F0 n) d
  if rd (CTL_INJ_TYPE n) d = 0 then f0
  else if f0 = 0 then (Config.divZero (rd (CTL_INJF1_F1 n) d)).natAbs % 2 ^ 24
  else sweepFreq f0 (rd (CTL_INJF1_F1 n) d) (arm n d).injTime (rd (CTL_INJT_INJT n) d * lsbPerMs * 4)

/-- The next value of an injected sine or swept sine (R150); phase and sweep begin at 0 (DESIGN CHOICE, notes/assumptions/103). -/
def injSine (n pt : Nat) (d : Dev) : Dev × Int :=
  let a := arm n d
  let q := injQuarters pt * a.period
  let amp := rdInt (CTL_INJAMP_AMP n) d
  (onArm n (fun a => { a with
    injPhase := (a.injPhase + injFreq n d * q) % injTurn,
    injTime := (a.injTime + q) % max 1 (rd (CTL_INJT_INJT n) d * lsbPerMs * 4) }) d,
    qSat (rdiv (amp * sinTurn a.injPhase injTurn) (2 ^ 60)))

/-- The next value of the PRBS, ±INJAMP (R150); its start is a free value. -/
def injPrbs (n : Nat) (d : Dev) : Dev × Int :=
  let d := if (arm n d).prbs = 0 then
      let f := draw d
      onArm n (fun a => { a with prbs := 1 + f.2 % 32767, prbsHold := 0 }) f.1
    else d
  let a := arm n d
  let amp := rdInt (CTL_INJAMP_AMP n) d
  let next := decide (rd (CTL_INJ_HOLD n) d ≤ a.prbsHold)
  (onArm n (fun a => { a with
    prbs := if next then prbsStep a.prbs else a.prbs, prbsHold := if next then 0 else a.prbsHold + 1 }) d,
    if a.prbs.testBit 14 then amp else -amp)

/-- The value injected at a summing point (R150); a capture that waits for it starts (R151). -/
def inject (n pt : Nat) (d : Dev) : Dev × Int :=
  if !isSet (CTL_INJ_EN n) d || rd (CTL_INJ_POINT n) d != pt then (d, 0)
  else
    let d := if isSet (CTL_CAPCTL_BUSY n) d && isSet (CTL_CAPCTL_TRIGINJ n) d then
        onArm n (fun a => { a with capOn := true }) d else d
    if rd (CTL_INJ_TYPE n) d = 2 then injPrbs n d else injSine n pt d

/-- Without injection the generators stand at their start. -/
def injRest (n : Nat) (d : Dev) : Dev :=
  if isSet (CTL_INJ_EN n) d then d else onArm n (fun a => { a with injPhase := 0, injTime := 0 }) d

/-- The sample of source `s` that L1 uses now (R138): the one tagged with the previous wedge. One that has not come is replaced by
the previous sample and counted as missing; one that has come for this wedge waits. -/
def ffTake (n s : Nat) (d : Dev) : Dev :=
  let f := Store.get FfSrc.reset s (arm n d).src
  let w := rd (SRV_STAT_WEDGE n) d
  let put := fun (x : FfSrc) (d : Dev) => onArm n (fun a => { a with src := Store.put FfSrc.reset s x a.src }) d
  let keep := f.got.filter (fun p => p.1 == w)
  match f.got.find? (fun p => p.1 == (w + 719) % 720) with
  | some p => put { f with hist := (p.2 :: f.hist).take 32, got := keep, missRun := 0, gotRun := f.gotRun + 1 } d
  | none =>
    let d := if f.dropped then d else bump (pgCtl n) (CTL_FFCTL_MISS n) 1 d
    put { f with hist := (f.hist.headD 0 :: f.hist).take 32, got := keep, missRun := f.missRun + 1, gotRun := 0 } d

/-- The sources in use: enabled, another arm, fitted (R138). -/
def ffSources (n : Nat) (d : Dev) : List Nat :=
  (List.range 4).filter (fun s => (rd (CTL_FFCTL_SRCEN n) d).testBit s && s != n && fitted (.arm s) d)

/-- FF of arm `n` for this wedge (R138), shed taps left out. -/
def ffSum (n : Nat) (d : Dev) : Int :=
  let a := arm n d
  qSat ((ffSources n d).foldl (fun acc s =>
    let f := Store.get FfSrc.reset s a.src
    if f.dropped then acc
    else
      let t := 15 + s
      let taps := nTaps (tblWord a) s - Store.get 0 s a.shedTaps
      let sum := (List.range taps).foldl (fun x k => x + tblQ a t (1 + k) * (f.hist.getD k 0 * 2 ^ 15)) 0
      acc + qMul (tblQ a t 33) (qScale sum)) 0)

/-- A command as the reaction bus carries it (R137): 16 bits, signed, in units of 1.2 A / 32,768. -/
def busWord (v : Int) : Int := clampInt (-32768) 32767 (rdiv v (2 ^ 15))

/-- L1 (R136): both outputs from the position error, the feedforward, the current set-point, and the sample published on
the reaction bus (R137); and the value injected. Where the banks in use differ in MAEN, the lower bank's decides. DESIGN CHOICE,
notes/assumptions/104. -/
def loopL1 (n : Nat) (d : Dev) : Dev × Int :=
  let d := (ffSources n d).foldl (fun d s => ffTake n s d) d
  let act := (ffSources n d).foldl (fun m s =>
    if (Store.get FfSrc.reset s (arm n d).src).dropped then m else m + 2 ^ s) 0
  let d := wr (CTL_FFCTL_ACTIVE n) act d
  let ff := ffSum n d
  let (d, i1) := inject n 1 d
  let (d, i2) := inject n 2 d
  let (d, i3) := inject n 3 d
  let a := arm n d
  let lim := fun lo hi x => clampInt (coef a 1 lo) (coef a 1 hi) x
  let mOld := if a.maFlag then 0 else a.m
  let (a, c) := sections 1 [0, 1, 2, 3] (qMul (coef a 1 41) (qSat (a.pes + i1))) a
  let maen := (tblWord a (tblNo 1 a.bank) 0).testBit 13
  let (a, m) :=
    if maen then
      let r := sections 1 [6, 7] c a
      (r.1, lim 46 47 (qSat (qMul (coef a 1 45) r.2 + i3)))
    else (a, 0)
  let (a, y) := sections 1 [4, 5] (qSat (c + qMul (coef a 1 48) mOld)) a
  let v := lim 43 44 (qMul (coef a 1 42) y)
  let iSet := lim 43 44 (qSat (v + ff + i2))
  (setArm n { a with
    m := m, v := v, ff := ff, iSet := iSet, pubWedge := rd (SRV_STAT_WEDGE n) d, pub := busWord v, pubIdle := false } d,
    i1 + i2 + i3)

/-- Captured signal by CAPSEL code (R151). -/
def capSignal (n code : Nat) (inj : Int) (d : Dev) : Nat :=
  let a := arm n d
  toField 32 (match code with
    | 0 => a.pes
    | 1 => a.sp % q1
    | 2 => a.iSet
    | 3 => a.m
    | 4 => a.ff
    | 5 => a.iMeas * 2 ^ 30 / 1200000
    | 6 => a.drive
    | 7 => a.iModel * 2 ^ 30 / 1200000
    | 8 => inj
    | 9 => rdInt (SRV_RAW_RAWSUM n) d
    | 10 => rdiv a.period 192
    | _ => 0)

/-- One instant of a capture at the rate of a loop (R151): the samples go to core memory; it stops after CAPLEN. -/
def capture (n rate : Nat) (inj : Int) (d : Dev) : Dev :=
  if !(arm n d).capOn || rd (CTL_CAPCTL_RATE n) d != rate then d
  else
    each (rd (CTL_CAPCTL_NSIG n) d + 1) (fun k d =>
      let w := rd (CTL_CAPSTAT_WRITTEN n) d
      if rd (CTL_CAPLEN_LEN n) d ≤ w then onArm n (fun a => { a with capOn := false }) d
      else
        let code := rd ([CTL_CAPSEL_SIG0 n, CTL_CAPSEL_SIG1 n, CTL_CAPSEL_SIG2 n, CTL_CAPSEL_SIG3 n].getD k
          (CTL_CAPSEL_SIG0 n)) d
        wr (CTL_CAPSTAT_WRITTEN n) (w + 1)
          (memWrite (rd (CTL_CAPBASE_ADDR n) d * 128 + 4 * w) (leBytes (capSignal n code inj d) 4) none d)) d

/-- The set-point as L2 passes it on (R126, R129): the part of the profile below one track goes through GIN, the sections, GOUT,
the injection of POINT 0 and the limiter; whole tracks, which Q2.30 does not hold, pass by. DESIGN CHOICE,
notes/assumptions/105. -/
def l2Out (n : Nat) (inj : Int) (d : Dev) : Dev :=
  let a := arm n d
  let x := a.prof.pos
  let whole := (x + 2 ^ 29) / q1 * q1
  let (a, y) := sections 2 [0, 1, 2, 3, 4, 5, 6, 7] (qMul (coef a 2 41) (qSat (x - whole))) a
  setArm n { a with sp := whole + clampInt (coef a 2 43) (coef a 2 44) (qSat (qMul (coef a 2 42) y + inj)) } d

/-- A goal that the present profile does not end at is planned from its present position, velocity and acceleration (R141); one
more than 1/4 track away starts a seek (R140). -/
def l2Plan (n : Nat) (d : Dev) : Dev :=
  let g := goalOf n d
  if g = (arm n d).goal then d
  else
    let far := decide (2 ^ 28 < (g - (arm n d).prof.pos).natAbs)
    let d := if far && (servo n d == svFollow || servo n d == svSettle) then leaveTrack n d else d
    onArm n (fun a => { a with
      goal := g, phases := planTo a.prof g (rd (CTL_PROF0_VMAX n) d) (rd (CTL_PROF0_AMAX n) d) (rd (CTL_PROF1_JMAX n) d) }) d

/-- L2 (R126, R127, R140 to R142): the profile advances by four wedge periods; where it reaches its goal a seek begins to settle. -/
def loopL2 (n : Nat) (d : Dev) : Dev × Int :=
  let d := l2Plan n d
  let d := onArm n (fun a =>
    let r := a.prof.walk (4 * a.period) a.phases
    if r.2.isEmpty then { a with prof := Kin.rest a.goal, phases := [] } else { a with prof := r.1, phases := r.2 }) d
  let (d, inj) := inject n 0 d
  let d := l2Out n inj d
  if servo n d = svSeek ∧ (arm n d).phases.isEmpty = true then
    (setServo n svSettle (onArm n (fun a => { a with moveAt := d.time, rdRun := 0, wrRun := 0 }) d), inj)
  else (d, inj)

/-- A current in µA held in the range of Q2.30 at 1.2 A per 1.0 (R128). -/
def iSat (x : Int) : Int := clampInt (-2400000) 2399999 x

/-- An SRV run collects a current sample of track-following (R185): `z` is the coil's voltage of the period that it ends, without
R · i, `y` the current that the period began with, `t` the step of the current. -/
def fitSample (n : Nat) (z y t : Int) (d : Dev) : Dev :=
  onCalRun n 1 (fun r =>
    if r.phase = 0 ∧ r.wedges < 4096 then
      { r with fit := ⟨r.fit.zz + z * z, r.fit.zy + z * y, r.fit.yy + y * y, r.fit.zt + z * t, r.fit.yt + y * t⟩ }
    else r) d

/-- L0 (R126, R143, R144): the current error drives the bridge; the model current of the next sample follows from the
coil's resistance, inductance and back-EMF. -/
def loopL0 (n : Nat) (io : LoopIn) (d : Dev) : Dev :=
  let a := arm n d
  let now := match a.meas with | some i => rdiv (i * 1200000) 32768 | none => a.iModel
  let dev := (now - a.iModel).natAbs
  let overDue := a.meas.isSome && decide (4000 * rd (CTL_L0PLAUS_LIMIT n) d < dev)
  let d := if servo n d = svFollow ∧ a.meas.isSome = true ∧ a.missCur = 0 then
      fitSample n (a.coilZ * a.period) (a.iMeas * q1 * a.period) ((now - a.iMeas) * q1 * 384000000) d
    else d
  let d := onArm n (fun a => { a with
    meas := none, iMeas := now, missCur := if a.meas.isSome then 0 else a.missCur + 1 }) d
  let d := wrs [(CTL_SUPSTAT_L0RUN n, if overDue then min 7 (rd (CTL_SUPSTAT_L0RUN n) d + 1) else 0),
    (CTL_SUPSTAT_DEV n, min 0xFF (dev / 4000))] d
  let (d, i4) := inject n 4 d
  let (d, i5) := inject n 5 d
  let a := arm n d
  let err := qSat (a.iSet - rdiv (now * q1) 1200000 + i4)
  let (a, y) := sections 0 [0, 1, 2, 3, 4, 5, 6, 7] (qMul (coef a 0 41) err) a
  let drive := clampInt (coef a 0 43) (coef a 0 44) (qSat (qMul (coef a 0 42) y + i5))
  let coilZ := drive * io.v12 * 1000000 - rd (CTL_L0KB_KB n) d * io.vEst * 1000 * q1
  let volts := rdiv (drive * io.v12 * 1000000) q1 - rd (CTL_L0MODEL_RCOIL n) d * now
    - rd (CTL_L0KB_KB n) d * io.vEst * 1000
  let model := iSat (now + rdiv (volts * a.period) (384 * rd (CTL_L0MODEL_LCOIL n) d * 1000000))
  capture n 0 (i4 + i5) (setArm n { a with drive := drive, iModel := model, coilZ := coilZ } d)

/-- L0_SAMPLE: a quarter point of the wedge (R127): L1 in the period of cell 984, L2 in that of cell 5,080 of wedges
whose number is a multiple of 4, L0 in all four. L1 comes before the L0 of its period, which uses its set-point (DESIGN CHOICE,
notes/assumptions/106). In hold the set-point of L0 is frozen, m = 0, and L1 and L2 do not update (R146). -/
def l0Op (n : ArmId) (q : Fin 4) (io : LoopIn) (d : Dev) : Dev :=
  if !servoOn n d || unloaded n d then d
  else
    let hold := servo n d == svHold
    let d := injRest n d
    let d := if q.val = 0 && !hold then let r := loopL1 n d; capture n 1 r.2 r.1 else d
    let d := if q.val = 1 && !hold && rd (SRV_STAT_WEDGE n) d % 4 == 0 then let r := loopL2 n d; capture n 2 r.2 r.1 else d
    loopL0 n io d

def execL0Sample (n : ArmId) (q : Fin 4) (io : LoopIn) (s : State) : Out := onDev (l0Op n q io) s

/-- FF_SOURCE_DROP: four consecutive samples of a source missing (R138). -/
def ffDrop (n src : ArmId) (d : Dev) : Dev :=
  let f := Store.get FfSrc.reset src.val (arm n d).src
  if !f.dropped && decide (4 ≤ f.missRun) && (ffSources n d).contains src.val then
    let d := onArm n (fun a => { a with src := Store.put FfSrc.reset src.val { f with hist := [], dropped := true } a.src }) d
    raise (pgCtl n) 4 (clrBit (CTL_FFCTL_ACTIVE n) src d)
  else d

def execFfSourceDrop (n src : ArmId) (s : State) : Out := onDev (ffDrop n src) s

/-- FF_SOURCE_RESTORE: sixteen consecutive samples from a dropped source (R138). -/
def ffRestore (n src : ArmId) (d : Dev) : Dev :=
  let f := Store.get FfSrc.reset src.val (arm n d).src
  if f.dropped && decide (16 ≤ f.gotRun) && (ffSources n d).contains src.val then
    let d := onArm n (fun a => { a with src := Store.put FfSrc.reset src.val { f with dropped := false } a.src }) d
    raise (pgCtl n) 4 (setBit (CTL_FFCTL_ACTIVE n) src d)
  else d

def execFfSourceRestore (n src : ArmId) (s : State) : Out := onDev (ffRestore n src) s

/-- REACTION_BUS_SAMPLE: the sample that arm `src` published arrives at arm `dst` with its tag (R25, R137, R138), through the hub:
both links must be up. An idle arm's sample is 0, and counts for the wedge that `dst` is in; a retracting source's is missing. -/
def busSample (src dst : ArmId) (d : Dev) : Dev :=
  if src = dst || !dieUp (.arm src) d || !dieUp (.arm dst) d || servo src d == svRetract then d
  else
    let x := if (arm src d).pubIdle then (rd (SRV_STAT_WEDGE dst) d, 0) else ((arm src d).pubWedge, (arm src d).pub)
    onArm dst (fun a =>
      let f := Store.get FfSrc.reset src.val a.src
      { a with src := Store.put FfSrc.reset src.val { f with got := (x :: f.got.filter (fun p => p.1 != x.1)).take 4 } a.src }) d

def execReactionBusSample (src dst : ArmId) (s : State) : Out := onDev (busSample src dst) s

/-- The output of microactuator `n` cannot follow a command (R173): disabled, held at 0 V, the pump out of regulation, or
the command beyond VLIM. -/
def maCannot (n : Nat) (d : Dev) : Bool :=
  let m := Store.get 0 n d.pwr.maCmd
  !isSet (VCM_MA_EN n) d || d.pwr.maHeld.testBit n || !isSet VCM_PUMP_OK d
    || decide ((rd (VCM_MA_VLIM n) d : Int) * q1 < (m.natAbs : Int) * 240)

/-- CURRENT_SAMPLE: the power die's current sample `i` (1.2 A / 32,768) reaches arm `n` (R172), with the flag that MAn
cannot follow its command (R173; `slew`: it is still slewing). -/
def currentSample (n : ArmId) (i : Int) (slew : Bool) (d : Dev) : Dev :=
  let d := wrInt (VCM_STAT_IMEAS n) i d
  if dieUp .power d && dieUp (.arm n) d then
    let f := slew || maCannot n d
    onArm n (fun a => { a with meas := some (signed 16 (toField 16 i)), maFlag := f }) d
  else d

def execCurrentSample (n : ArmId) (i : Int) (slew : Bool) (s : State) : Out := onDev (currentSample n i slew) s

/-- VCM_CURRENT_COMMAND: the arm's drive and microactuator commands reach the power die and take effect at the next PWM
period (R172, R173), unless the bridge is retracting or disabled, or the link is down. -/
def vcmCommand (n : ArmId) (d : Dev) : Dev :=
  let st := rd (VCM_STAT_STATE n) d
  if !dieUp .power d || !dieUp (.arm n) d || st == 2 || st == 4 || !isSet (VCM_CFG_EN n) d || !servoOn n d
      || isSet BRK_STAT_DISC d || d.pwr.noRetract.testBit n then d
  else
    let a := arm n d
    let d := pumpNow d
    wr (VCM_STAT_STATE n) 1 { d with pwr := { d.pwr with
      drives := Store.put 0 n a.drive d.pwr.drives,
      maCmd := Store.put 0 n (if d.pwr.maHeld.testBit n || !isSet VCM_PUMP_OK d || !isSet (VCM_MA_EN n) d then 0 else a.m) d.pwr.maCmd,
      miss := Store.put 0 n 0 d.pwr.miss } }

def execVcmCurrentCommand (n : ArmId) (s : State) : Out := onDev (vcmCommand n) s

/-- A counter of the VCM page; a saturated one raises VCM event bit 11 (R177). -/
def bumpVcm (f : Fld) (d : Dev) : Dev := bumpEv pgVcm f 11 1 d

/-- MISSED_CURRENT_COMMANDS: two consecutive commands of a driven bridge missing (R173, R18): retract of the arm; of every
arm, by the power die alone, while its link is down. -/
def missedCommands (n : ArmId) (d : Dev) : Dev :=
  if rd (VCM_STAT_STATE n) d ≠ 1 then d
  else
    let d := bumpVcm VCM_FLTCNT_MISSCMD d
    if !dieUp .power d then each 4 (fun k d => if fitted (.arm k) d then powRetract k d else d) d
    else retractFrom .power n d

def execMissedCurrentCommands (n : ArmId) (s : State) : Out := onDev (missedCommands n) s

/-- CURRENT_LOOP_FAULT: four L0 samples beyond the coil model's limit, or two current samples missing (R143, R145): writing
is inhibited at once, the bridge is turned off and the heads retracted, CLF is set. An arm whose link is down counts no
error for it (R18). -/
def currentLoopFault (n : ArmId) (d : Dev) : Dev :=
  if servoOn n d && (decide (4 ≤ rd (CTL_SUPSTAT_L0RUN n) d) || decide (2 ≤ (arm n d).missCur)) then
    let d := wr (CTL_SUPSTAT_CLF n) 1 (retractFrom (.arm n) n (inhibitNow n 1 d))
    let d := raise (pgCtl n) 0 d
    if dieUp (.arm n) d then currentFault n d else d
  else d

def execCurrentLoopFault (n : ArmId) (s : State) : Out := onDev (currentLoopFault n) s

/-- CAPTURE_START: a write of CTL_CAPCTL (R151): RATE, NSIG and TRIGINJ, DONE cleared by a 1, GO starts unless a capture
runs. A reserved RATE leaves the field as it is. -/
def captureStart (n : ArmId) (v : Nat) (d : Dev) : Dev :=
  ifReach (pgCtl n) (fun d =>
    let d := if bits v 3 2 = 3 then d else wr (CTL_CAPCTL_RATE n) (bits v 3 2) d
    let d := wrs [(CTL_CAPCTL_NSIG n, bits v 5 2), (CTL_CAPCTL_TRIGINJ n, bits v 7 1)] d
    let d := when' (bitOf v 2) (wr (CTL_CAPCTL_DONE n) 0) d
    if !bitOf v 0 || isSet (CTL_CAPCTL_BUSY n) d then d
    else
      let d := setBusy (pgCtl n) true (wrs [(CTL_CAPCTL_BUSY n, 1), (CTL_CAPSTAT_WRITTEN n, 0)] d)
      onArm n (fun a => { a with capOn := !bitOf v 7 }) d) d

def execCaptureStart (n : ArmId) (v : Nat) (s : State) : Out := onDev (captureStart n v) s

/-- CAPTURE_DONE: CAPLEN samples are written (R151). -/
def captureDone (n : ArmId) (d : Dev) : Dev :=
  if isSet (CTL_CAPCTL_BUSY n) d && decide (rd (CTL_CAPLEN_LEN n) d ≤ rd (CTL_CAPSTAT_WRITTEN n) d) then
    let d := wrs [(CTL_CAPCTL_BUSY n, 0), (CTL_CAPCTL_DONE n, 1)] (onArm n (fun a => { a with capOn := false }) d)
    raise (pgCtl n) 5 (setBusy (pgCtl n) false d)
  else d

def execCaptureDone (n : ArmId) (s : State) : Out := onDev (captureDone n) s

end Sys2Proof.Machine
end

