-- ==== Sys2Proof/Machine/Spindle.lean ====
section
/-!
DEFINITION. Machine/Spindle.lean: the spindle (R155 to R165): start-up, Hall edges and the observer, loss of
synchronism, speed steps and the pace governor, ramps and the notices sent.
-/
namespace Sys2Proof.Machine

/-- Spindle states of SPN_STAT.STATE (R176). -/
def spStopped : Nat := 0
def spSixStart : Nat := 1
def spFoc : Nat := 2
def spRamp : Nat := 3
def spRecover : Nat := 4
def spCoast : Nat := 5
def spBrake : Nat := 6
def spVault : Nat := 7
def spFailed : Nat := 8
def spSix : Nat := 9

def spState (d : Dev) : Nat := rd SPN_STAT_STATE d
def onPwr (f : Power → Power) (d : Dev) : Dev := { d with pwr := f d.pwr }

/-- A counter of the SPN page; a saturated one raises SPN event bit 8 (R176). -/
def bumpSpn (f : Fld) (d : Dev) : Dev := bumpEv pgSpn f 8 1 d

/-- Send a speed-step notice to every arm and the hub (R163). -/
def sendNotice (start : Bool) (src tgt : Nat) (d : Dev) : Dev :=
  onPwr (fun p => { p with notices := (List.range 5).foldl (fun m k =>
    Store.put [] k (Store.get [] k m ++ [⟨start, src, tgt⟩]) m) p.notices }) d

/-- A step held within MIN, MAX and CAP; CAP takes precedence over MIN (R162). -/
def limitStep (s : Nat) (d : Dev) : Nat :=
  min (rd SPN_STEPLIM_CAP d) (min (rd SPN_STEPLIM_MAX d) (max s (rd SPN_STEPLIM_MIN d)))

/-- The first step of a start (R157). -/
def firstStep (d : Dev) : Nat :=
  limitStep (if isSet SPN_CTL_AUTO d then rd SPN_STEPLIM_MIN d else rd SPN_CTL_FIXSTEP d) d

/-- The state of regulated or ramping operation: FOC, or six-step once FOC is disabled (R175). -/
def runState (ramp : Bool) (d : Dev) : Nat := if d.pwr.noFoc then spSix else if ramp then spRamp else spFoc

/-- The spindle brakes to a stop (target 5), also while its bridge is timed by the Halls after a loss of synchronism (R161). -/
def spBraking (d : Dev) : Bool := spState d == spBrake || (spState d == spRecover && rd SPN_STAT_TARGET d == 5)

/-- The spindle is regulated at a step or ramps between steps. -/
def spRunning (d : Dev) : Bool :=
  let s := spState d
  s == spFoc || s == spRamp || (s == spRecover && decide (rd SPN_STAT_TARGET d ≤ 4)) || s == spSix

/-- The first step of a start has not been reached (R157, R163): the six-step start, and the ramp that follows it. -/
def spStarting (d : Dev) : Bool := spState d == spSixStart || (spRunning d && !d.pwr.reached)

/-- A new target step (R163, R165): before the first step is reached it only changes the target; otherwise a start notice
is sent, the ramp starts from the present speed, ATSPEED drops. -/
def newTarget (t : Nat) (d : Dev) : Dev :=
  let ramp := isSet SPN_STAT_RAMP d
  let same := if ramp then rd SPN_STAT_TARGET d == t else rd SPN_STAT_STEP d == t
  if spStarting d then wr SPN_STAT_TARGET t d
  else if !spRunning d || same then d
  else
    let d := wrs [(SPN_STAT_TARGET, t), (SPN_STAT_RAMP, 1), (SPN_STAT_ATSPEED, 0),
      (SPN_STAT_STATE, if spState d = spRecover then spRecover else runState true d)] d
    raise pgSpn 5 (sendNotice true (rd SPN_STAT_STEP d) t (onPwr (fun p => { p with inBand := 0 }) d))

/-- The spindle is to stay at MIN: the device is in PS1 or below, or on its way there (R356). -/
def wantsMin (d : Dev) : Bool :=
  let s := rd PWS_PSSTAT_STATE d
  let b := isSet PWS_PSSTAT_BUSY d
  decide (2 ≤ s) || (s == 1 && !(b && d.pws.goal == 0)) || (b && decide (1 ≤ d.pws.goal))

/-- What a change of AUTO, FIXSTEP or the limits does at once (R162, R164, R165): FIXSTEP is followed, a start goes to the
first step that they give now (R157), a ramp reverses or extends toward the limits, a regulated step outside MIN and MAX is
left. In PS1 and below the step is MIN (R356). -/
def stepPolicy (d : Dev) : Dev :=
  if wantsMin d then newTarget (limitStep (rd SPN_STEPLIM_MIN d) d) d
  else if spStarting d then newTarget (firstStep d) d
  else if !isSet SPN_CTL_AUTO d then newTarget (limitStep (rd SPN_CTL_FIXSTEP d) d) d
  else if isSet SPN_STAT_RAMP d then newTarget (limitStep (rd SPN_STAT_TARGET d) d) d
  else
    let s := rd SPN_STAT_STEP d
    newTarget (min (rd SPN_STEPLIM_MAX d) (max s (min (rd SPN_STEPLIM_CAP d) (rd SPN_STEPLIM_MIN d)))) d

/-- The present speed in 0.01 rpm, and a Hall code that is valid (R155). -/
def speed (d : Dev) : Nat := rd SPN_SPEED_RPM d
def hallValid (c : Nat) : Bool := decide (1 ≤ c) && decide (c ≤ 6)

/-- The spindle turns above the handover speed HOSPD (R157, R158). -/
def aboveHandover (d : Dev) : Bool := decide (rd SPN_START_HOSPD d * 1000 < speed d)

/-- The fields of SPN_CTL beside START and STOP take a written word's values; a reserved FIXSTEP is left (R11). -/
def spnCtl (v : Nat) (d : Dev) : Dev :=
  let d := wrs [(SPN_CTL_AUTO, bits v 2 1), (SPN_CTL_PKEEP, bits v 8 1)] d
  let d := if bits v 4 3 ≤ 4 then wr SPN_CTL_FIXSTEP (bits v 4 3) d else d
  stepPolicy d

/-- SPN_CTL.START (R157, R159). `hall` is the Hall code now. From standstill the start is refused below TCOLD_STOP,
without motor constants, or with an invalid code; while the spindle coasts or brakes above HOSPD it is caught. -/
def spinStart (hall : Nat) (d : Dev) : Dev :=
  let st := spState d
  let t := firstStep d
  let d := if st = spStopped ∨ st = spFailed ∨ st = spCoast ∨ spBraking d = true then onPwr (fun p => { p with before := 0 }) d else d
  if st = spStopped ∨ (st = spFailed ∧ speed d = 0) then
    if isSet THM_STAT_COLDSTOP d || rd SPN_MOTKE_KE d == 0 || rd SPN_MOTRL_RPH d == 0 || !hallValid hall then
      raise pgSpn 1 (wr SPN_STAT_STATE spStopped d)
    else
      let d := wrs [(SPN_STAT_STATE, spSixStart), (SPN_STAT_TARGET, t), (SPN_STAT_ATSPEED, 0)] d
      onPwr (fun p => { p with
        started := d.time, reached := false, agree := 0, hall := some hall, badRun := 0, edges := 0, revSum := 0,
        inBand := 0 }) d
  else if st = spCoast ∨ st = spFailed then
    if aboveHandover d then
      onPwr (fun p => { p with started := d.time, reached := false, inBand := 0 })
        (wrs [(SPN_STAT_STATE, runState true d), (SPN_STAT_TARGET, t), (SPN_STAT_RAMP, 1), (SPN_STAT_ATSPEED, 0)] d)
    else raise pgSpn 1 d
  else if spBraking d then
    if aboveHandover d then
      let d := wrs [(SPN_STAT_STATE, runState true d), (SPN_STAT_TARGET, t), (SPN_STAT_RAMP, 1), (SPN_STAT_ATSPEED, 0)] d
      raise pgSpn 5 (sendNotice true (rd SPN_STAT_STEP d) t d)
    else raise pgSpn 1 d
  else d

/-- SPINDLE_START: a write of SPN_CTL with START set. -/
def spindleStart (v hall : Nat) (d : Dev) : Dev :=
  ifReach pgSpn (fun d => spinStart hall (spnCtl v d)) d

def execSpindleStart (v hall : Nat) (s : State) : Out := onDev (spindleStart v hall) s

/-- The bridge is commutated from the observer's angle (R160): FOC regulation and ramps, and the braking or the vault
rectification that began in them. -/
def observed (d : Dev) : Bool :=
  let st := spState d
  st == spFoc || st == spRamp || ((st == spBrake || st == spVault) && d.pwr.foc)

/-- The spindle is stopped: target 5, every arm retracted, braking, start notice (R163). -/
def spinStop (d : Dev) : Dev :=
  let st := spState d
  if spRunning d || st == spSixStart then
    let src := rd SPN_STAT_STEP d
    let d := onPwr (fun p => { p with foc := observed d, before := 0 }) d
    let d := wrs [(SPN_STAT_STATE, spBrake), (SPN_STAT_TARGET, 5), (SPN_STAT_RAMP, 0), (SPN_STAT_ATSPEED, 0)] d
    raise pgSpn 5 (sendNotice true src 5 (retractAll .power (onPwr (fun p => { p with inBand := 0 }) d)))
  else d

/-- SPINDLE_STOP: a write of SPN_CTL with STOP set. -/
def spindleStop (v : Nat) (d : Dev) : Dev := ifReach pgSpn (fun d => spinStop (spnCtl v d)) d

def execSpindleStop (v : Nat) (s : State) : Out := onDev (spindleStop v) s

/-- A start has failed (R159): the phases are off and the spindle coasts to a stop. -/
def startFailed (d : Dev) : Dev := raise pgSpn 1 (wrs [(SPN_STAT_STATE, spFailed), (SPN_STAT_RAMP, 0)] d)

/-- The next Hall code in the direction of rotation or its other neighbour: codes that differ in one bit. -/
def hallNeighbour (a b : Nat) : Bool := hallValid b && popCount 3 (a ^^^ b) == 1

/-- A whole revolution took `s` CLK_CTL cycles (R159): the true speed (3·10^10 · (1 + CLKTRIM · 10^-8) / s rpm, R189), the error
in ppm of the step, the count of revolutions in band (20 ppm; 200 ppm in six-step). -/
def revolution (s : Nat) (d : Dev) : Dev :=
  let step := stepRpm (if isSet SPN_STAT_RAMP d then min 4 (rd SPN_STAT_TARGET d) else rd SPN_STAT_STEP d)
  let num : Int := 300 * (100000000 + rdInt GLB_TRIM_CLKTRIM d)
  let d := wr SPN_SPEED_RPM (rdiv (100 * num) s).toNat d
  let errN : Int := num - step * s
  let err := clampInt (-32768) 32767 (rdiv (errN * 1000000) (step * s))
  let d := wrInt SPN_SPDERR_ERR err d
  let band : Int := if spState d = spSix ∨ spState d = spRecover then 200 else 20
  let inb := decide ((errN.natAbs : Int) * 1000000 ≤ band * (step * s))
  let ok := inb && !isSet SPN_STAT_RAMP d && spRunning d
  let d := if ok then d else wr SPN_STAT_ATSPEED 0 d
  onPwr (fun p => { p with inBand := if ok then p.inBand + 1 else 0, edges := 0, revSum := 0 }) d

/-- The plausibility of an edge (R160): two implausible edges in a row set HALLBAD, a whole revolution of plausible ones
clears it; the measurement of a revolution begins anew. -/
def hallPlausible (ok : Bool) (code : Nat) (d : Dev) : Dev :=
  let anew := onPwr (fun p => { p with edges := 0, revSum := 0 })
  if ok then
    let d := onPwr (fun p => { p with hall := some code, badRun := 0, goodRun := p.goodRun + 1 }) d
    if isSet SPN_STAT_HALLBAD d && decide (36 ≤ d.pwr.goodRun) then anew (wr SPN_STAT_HALLBAD 0 d) else d
  else
    let d := onPwr (fun p => { p with
      hall := if hallValid code then some code else p.hall, badRun := p.badRun + 1, goodRun := 0 })
      (bumpSpn SPN_SYNCCNT_HALLERR d)
    if !isSet SPN_STAT_HALLBAD d && decide (2 ≤ d.pwr.badRun) then anew (wr SPN_STAT_HALLBAD 1 d) else d

/-- HALL_EDGE: a Hall edge arrives (R157 to R160): its plausibility, the observer's agreement, the speed of the revolution (from
its 36 plausible edges; from the observer while HALLBAD = 1), handover from six-step to FOC, a broken sequence below HOSPD during a
start. -/
def hallEdge (h : HallIn) (d : Dev) : Dev :=
  let st := spState d
  let ok := hallValid h.code && (d.pwr.hall.map (fun c => hallNeighbour c h.code)).getD true
  let d := hallPlausible ok h.code d
  if !ok && st == spSixStart && decide (speed d < rd SPN_START_HOSPD d * 1000) then startFailed (raise pgSpn 4 d)
  else
    let slow := decide (500000000 * 60 < 36 * h.dt * (rd SPN_START_HOSPD d * 10))
    let d := onPwr (fun p => { p with
      agree := if ok ∧ h.ang ≤ 15 then p.agree + 1 else 0, edges := p.edges + b2n ok, revSum := p.revSum + h.dt }) d
    let d :=
      if isSet SPN_STAT_HALLBAD d then h.rev.elim d (fun p => revolution p d)
      else if 36 ≤ d.pwr.edges then revolution d.pwr.revSum d else d
    if st = spSixStart ∧ slow = false ∧ ok = true ∧ 12 ≤ d.pwr.agree then
      wrs [(SPN_STAT_STATE, runState true d), (SPN_STAT_RAMP, 1)] d
    else d

def execHallEdge (h : HallIn) (s : State) : Out := onDev (hallEdge h) s

/-- ATSPEED_REACHED: fifty consecutive revolutions in band outside a ramp (R159). -/
def atSpeed (d : Dev) : Dev :=
  if 50 ≤ d.pwr.inBand ∧ isSet SPN_STAT_RAMP d = false ∧ spRunning d = true then wr SPN_STAT_ATSPEED 1 d else d

def execAtspeedReached (s : State) : Out := onDev atSpeed s

/-- SPIN_START_TIMEOUT: no handover or no target step within TMO of START (R159). -/
def startTimeout (d : Dev) : Dev :=
  if spStarting d && decide (d.pwr.started + (rd SPN_START_TMO d * 1000 * auxPerMs : Nat) ≤ d.time) then startFailed d else d

def execSpinStartTimeout (s : State) : Out := onDev startTimeout s

/-- The phases are off and a spindle that turns coasts (target 6). -/
def phasesOff (d : Dev) : Dev :=
  if spState d = spStopped ∨ spState d = spFailed then d
  else
    wrs [(SPN_STAT_STATE, spCoast), (SPN_STAT_TARGET, 6), (SPN_STAT_RAMP, 0), (SPN_STAT_ATSPEED, 0)]
      (onPwr (fun p => { p with before := 0 }) d)

/-- The spindle coasts with its phases off (R161): every arm is retracted, a coast notice is sent, firmware is asked to
restart. -/
def coast (d : Dev) : Dev :=
  let src := rd SPN_STAT_STEP d
  raise pgSpn 4 (sendNotice true src 6 (retractAll .power (phasesOff d)))

/-- Vault mode has ended (R168): the vault arms are retracted, the end notice is sent; a flush that did not complete is
the replacement reason "a vault flush incomplete". -/
def vaultEnd (done : Bool) (d : Dev) : Dev :=
  let arms := rd BRK_VAULT_ARMS d
  let d := wr BRK_STAT_VAULT 0 d
  let d := each 4 (fun n d => if arms.testBit n then retractFrom .power n d else d) d
  let d := raise pgBrk (if done then 5 else 6) (sendNotice false (rd SPN_STAT_STEP d) 7 d)
  if done then d else flushFailed d

/-- One loss-of-synchronism declaration is one error of the SPN class (R175): its lasting action disables FOC; a spindle that
brakes goes on braking, in six-step. -/
def syncClass (d : Dev) : Dev :=
  errClass pgSpn (fun d =>
    let d := onPwr (fun p => { p with noFoc := true }) (setDegraded pgSpn true d)
    let d :=
      if spBraking d then wr SPN_STAT_STATE spBrake d
      else if spState d = spRecover ∨ spState d = spFoc ∨ spState d = spRamp then wr SPN_STAT_STATE spSix d else d
    raise pgSpn 7 d) d

/-- Loss of synchronism in vault mode with implausible Halls (R170): rectification stops, every arm retracts, the flush ends
incomplete. The end notice with target 7 is the one that is sent. -/
def vaultCoast (d : Dev) : Dev :=
  vaultEnd false (raise pgSpn 4 (retractAll .power (wrs [(SPN_STAT_STATE, spCoast), (SPN_STAT_ATSPEED, 0)] d)))

/-- LOSS_OF_SYNC: the observer breaks its angle, rate or flux limit in a state commutated from it (R160, R161). -/
def lossOfSync (ang acc flux : Nat) (d : Dev) : Dev :=
  let st := spState d
  let broken := (decide (rd SPN_OBSLIM_ANG d < ang) && !isSet SPN_STAT_HALLBAD d)
    || decide (rd SPN_OBSLIM_ACCMAX d < acc) || decide (rd SPN_OBSLIM_FLUX d < flux)
  if !broken || !observed d then d
  else
    let d := bumpSpn SPN_SYNCCNT_LOSS (onPwr (fun p => { p with agree := 0 }) d)
    if isSet SPN_STAT_HALLBAD d then (if st = spVault then vaultCoast else coast) (syncClass d)
    else
      let d := onPwr (fun p => { p with before := st, foc := false }) d
      let d := if st = spVault then d else wr SPN_STAT_STATE spRecover d
      syncClass (raise pgSpn 2 d)

def execLossOfSync (ang acc flux : Nat) (s : State) : Out := onDev (lossOfSync ang acc flux) s

/-- FOC_REACQUIRE: twelve consecutive edges agree after loss of synchronism: FOC resumes in the state it left, a ramp from
its present speed (R161). -/
def focReacquire (d : Dev) : Dev :=
  if 12 ≤ d.pwr.agree ∧ d.pwr.before ≠ 0 ∧ d.pwr.noFoc = false
      ∧ (spState d = spRecover ∨ (spState d = spVault ∧ d.pwr.before = spVault)) then
    let st := if d.pwr.before = spBrake then spBrake else if d.pwr.before = spVault then spVault
      else runState (isSet SPN_STAT_RAMP d) d
    raise pgSpn 3 (onPwr (fun p => { p with before := 0, foc := true }) (wr SPN_STAT_STATE st d))
  else d

def execFocReacquire (s : State) : Out := onDev focReacquire s

/-- Average, projection and DWELL as the governor holds them (R164). -/
def govAvg (l : List Nat) : Nat × Nat := (l.sum, max 1 l.length)
def dwellOver (d : Dev) : Bool :=
  match d.pwr.rampEnd with
  | some t => decide ((rd SPN_GOV_DWELL d * 1000 * auxPerMs : Nat) ≤ (d.time : Int) - t)
  | none => true

/-- PACE_GOVERNOR_DECISION: the dealer's DEMAND and BREACH arrive (R164); with AUTO = 1 at most one decision follows, the
first that applies. -/
def governor (d : Dev) : Dev :=
  if !dieUp .power d then d
  else
    let breach := isSet CMD_GOVOUT_BREACH d
    let d := onPwr (fun p => { p with demand := (rd CMD_GOVOUT_DEMAND d :: p.demand).take 300 }) d
    let (sum, cnt) := govAvg d.pwr.demand
    let step := rd SPN_STAT_STEP d
    let lower := stepRpm (step - 1)
    let proj := fun (k : Nat) => decide (sum * stepRpm step < k * cnt * lower)
    let d := wrs [(SPN_GOVSTAT_DEMAND, (rdiv sum cnt).toNat),
      (SPN_GOVSTAT_PROJ, if step = 0 then 0 else min 0xFF (rdiv (sum * stepRpm step) (cnt * lower)).toNat),
      (SPN_GOVSTAT_BREACH, b2n breach)] d
    if !isSet SPN_CTL_AUTO d || wantsMin d || !spRunning d || isSet SPN_STAT_RAMP d || !d.pwr.reached then d
    else if rd SPN_STEPLIM_CAP d < step then newTarget (step - 1) d
    else if rd SPN_GOV_UPTHR d * cnt < sum ∧ step < min (rd SPN_STEPLIM_MAX d) (rd SPN_STEPLIM_CAP d)
        ∧ dwellOver d = true then newTarget (step + 1) d
    else if proj (rd SPN_GOV_DNTHR d) && !breach && dwellOver d && decide (rd SPN_STEPLIM_MIN d < step) then
      newTarget (step - 1) d
    else d

def execPaceGovernorDecision (s : State) : Out := onDev governor s

/-- RAMP_END: the ramp reaches its target (R163, R165): end notice, DWELL starts; the first step of a start raises SPN
event bit 0 and names that step twice. A FIXSTEP or a limit that asks for another step is taken up then (R162, R164). -/
def rampEnd (d : Dev) : Dev :=
  if !isSet SPN_STAT_RAMP d || !spRunning d || spState d == spRecover then d
  else
    let t := rd SPN_STAT_TARGET d
    let first := !d.pwr.reached
    let src := if first then t else rd SPN_STAT_STEP d
    let d := wrs [(SPN_STAT_STEP, t), (SPN_STAT_RAMP, 0), (SPN_STAT_STATE, runState false d)] d
    let d := sendNotice false src t (onPwr (fun p => { p with reached := true, rampEnd := some d.time, inBand := 0 }) d)
    stepPolicy (raise pgSpn (if first then 0 else 6) d)

def execRampEnd (s : State) : Out := onDev rampEnd s

/-- STEPLIM_WRITE: a write of SPN_STEPLIM (R162, R165). MIN above MAX, or MAX raised above the STEPOK of a fitted arm with
a loaded band table, is discarded with SPN event bit 1; reserved codes leave a field as it is (R11). Without a thermal
cap CAP follows MAX. -/
def stepLimWrite (v : Nat) (d : Dev) : Dev :=
  ifReach pgSpn (fun d =>
    let mn := if bits v 0 3 ≤ 4 then bits v 0 3 else rd SPN_STEPLIM_MIN d
    let mx := if bits v 4 3 ≤ 4 then bits v 4 3 else rd SPN_STEPLIM_MAX d
    let bad := decide (mx < mn) || (decide (rd SPN_STEPLIM_MAX d < mx) && (List.range 4).any (fun n =>
      fitted (.arm n) d && isSet (ARM_FMTCTL_VALID n) d && decide (rd (ARM_FMTCTL_STEPOK n) d < mx)))
    if bad then raise pgSpn 1 d
    else
      let free := rd THM_STAT_STEP d == 0
      let d := wrs [(SPN_STEPLIM_MIN, mn), (SPN_STEPLIM_MAX, mx)] d
      stepPolicy (if free then wr SPN_STEPLIM_CAP mx d else d)) d

def execSteplimWrite (v : Nat) (s : State) : Out := onDev (stepLimWrite v) s

/-- The thermal cap changes (R162, R165): at the entry of throttle step 1 to the highest step strictly below the measured
speed (step 0 if none), back to MAX when no throttle step is in force; a ramp above it reverses. -/
def capSet (on : Bool) (d : Dev) : Dev :=
  let below := (((List.range 5).filter (fun k => decide (stepRpm k * 100 < speed d))).getLast?).getD 0
  stepPolicy (wr SPN_STEPLIM_CAP (if on then below else rd SPN_STEPLIM_MAX d) d)

/-- SPINDLE_STANDSTILL: a stop or a coast reaches standstill (R163), with an end notice of its target (that of vault mode has been
sent); a failed start that has coasted out stays failed. -/
def standstill (d : Dev) : Dev :=
  let st := spState d
  let t := rd SPN_STAT_TARGET d
  if spBraking d || st == spCoast then
    let d := if t = 5 ∨ t = 6 then sendNotice false (rd SPN_STAT_STEP d) t d else d
    onPwr (fun p => { p with reached := false, before := 0 })
      (wrs [(SPN_STAT_STATE, spStopped), (SPN_SPEED_RPM, 0), (SPN_STAT_RAMP, 0)] d)
  else if st = spFailed then wr SPN_SPEED_RPM 0 d
  else d

def execSpindleStandstill (s : State) : Out := onDev standstill s

end Sys2Proof.Machine
end

