-- ==== Sys2Proof/Machine/Braking.lean ====
section
/-!
DEFINITION. Machine/Braking.lean: supply protection (R166), power loss and vault mode on the power die (R167 to R170),
the retract's phases (R171), the VCM and microactuator drivers' faults (R172, R173, R175), the core regulator and the
rail monitors (R174).
-/
namespace Sys2Proof.Machine

/-- A counter of the BRK page; a saturated one raises BRK event bit 8 (R178). -/
def bumpBrk (f : Fld) (d : Dev) : Dev := bumpEv pgBrk f 8 1 d

/-- The voltage gain 1 + VGAIN · 10^-6 of the power die's measurements, in ppm (R189). -/
def gainPpm (d : Dev) : Int := 1000000 + rdInt GLB_TRIM_VGAIN d

/-- A measured voltage as VGAIN corrects it (R189), in the unit of the measurement, for a register; and whether it is above or
below a limit. -/
def volts (v : Nat) (d : Dev) : Nat := (rdiv (v * gainPpm d) 1000000).toNat
def vAbove (v thr : Nat) (d : Dev) : Bool := decide ((thr : Int) * 1000000 < v * gainPpm d)
def vBelow (v thr : Nat) (d : Dev) : Bool := decide ((v : Int) * gainPpm d < thr * 1000000)

/-- VHOLD as measured, in 20 mV units. -/
def setVhold (v : Nat) (d : Dev) : Dev := wr BRK_STAT_VHOLD (volts v d) d

/-- The spindle decelerates or coasts: braking, coasting (also after a failed start), rectifying, or ramping to a step below its
speed. -/
def decelerating (d : Dev) : Bool :=
  let st := spState d
  spBraking d || st == spCoast || st == spVault || (st == spFailed && speed d != 0)
    || (isSet SPN_STAT_RAMP d && decide (stepRpm (rd SPN_STAT_TARGET d) * 100 < speed d))

/-- CHOPPER_ON: VHOLD above ON while decelerating or coasting (R166). A chopper that is not held off is tried again after a
fault. -/
def chopOn (v : Nat) (d : Dev) : Dev :=
  let d := setVhold v d
  if vAbove v (rd BRK_THR0_ON d) d && decelerating d && !d.pwr.chopOff && !isSet BRK_STAT_CHOP d then
    bumpBrk BRK_CHOPCNT_ON (wr BRK_STAT_CHOP 1 d)
  else d

def execChopperOn (v : Nat) (s : State) : Out := onDev (chopOn v) s

/-- CHOPPER_OFF: VHOLD below OFF (R166). -/
def chopOff (v : Nat) (d : Dev) : Dev :=
  let d := setVhold v d
  if vBelow v (rd BRK_THR0_OFF d) d then wr BRK_STAT_CHOP 0 d else d

def execChopperOff (v : Nat) (s : State) : Out := onDev (chopOff v) s

/-- CHOPPER_FAULT: no current for 20 µs while BRK_SW is on, or current while it is off (R166): BRK_SW off, in the second case
held off (DESIGN CHOICE until power cycle, notes/assumptions/114); BRK event bit 0, one error of the BRK class, whose lasting action
disables the chopper until power cycle (R175). -/
def chopFault (d : Dev) : Dev :=
  let d := if isSet BRK_STAT_CHOP d then d else onPwr (fun p => { p with chopOff := true }) d
  let d := raise pgBrk 0 (wrs [(BRK_STAT_CHOP, 0), (BRK_STAT_CHOPFLT, 1)] d)
  errClass pgBrk (fun d => raise pgBrk 9 (setDegraded pgBrk true (onPwr (fun p => { p with chopOff := true }) d))) d

def execChopperFault (s : State) : Out := onDev chopFault s

/-- LOW_SIDE_SHORT: VHOLD above SHORT with a faulted chopper (R166). -/
def shortOn (v : Nat) (d : Dev) : Dev :=
  let d := setVhold v d
  if vAbove v (rd BRK_THR1_SHORT d) d && (isSet BRK_STAT_CHOPFLT d || d.pwr.chopOff) && !isSet BRK_STAT_SHORT d then
    raise pgBrk 1 (bumpBrk BRK_CHOPCNT_SHORTS (wr BRK_STAT_SHORT 1 d))
  else d

def execLowSideShort (v : Nat) (s : State) : Out := onDev (shortOn v) s

/-- LOW_SIDE_SHORT_RELEASE: VHOLD below RELEASE; the spindle is back in FOC or its ramp (R166). -/
def shortOff (v : Nat) (d : Dev) : Dev :=
  let d := setVhold v d
  if vBelow v (rd BRK_THR1_RELEASE d) d then wr BRK_STAT_SHORT 0 d else d

def execLowSideShortRelease (v : Nat) (s : State) : Out := onDev (shortOff v) s

/-- OUTPUT_DISCONNECT: VHOLD above DISC in any state (R166): the spindle phases and the bridges go to high impedance, every
arm is retracted. A spindle that turned under drive is caught at the reconnection; the rectification of vault mode resumes. -/
def disconnect (v : Nat) (d : Dev) : Dev :=
  let d := setVhold v d
  if vAbove v (rd BRK_THR2_DISC d) d && !isSet BRK_STAT_DISC d then
    let st := spState d
    let d := wr BRK_STAT_DISC 1 d
    let d := if st = spVault ∨ st = spCoast then d
      else onPwr (fun p => { p with before := if st = spFailed then 0 else st }) (phasesOff d)
    raise pgBrk 2 (retractAll .power d)
  else d

def execOutputDisconnect (v : Nat) (s : State) : Out := onDev (disconnect v) s

/-- OUTPUT_RECONNECT: VHOLD below RECON: the outputs reconnect, the retract runs, the spindle is caught as in R157. -/
def reconnect (v : Nat) (d : Dev) : Dev :=
  let d := setVhold v d
  if vBelow v (rd BRK_THR2_RECON d) d && isSet BRK_STAT_DISC d then
    let d := raise pgBrk 3 (wr BRK_STAT_DISC 0 (onPwr (fun p => { p with
      retAt := (List.range 4).foldl (fun m n => if rd (VCM_STAT_STATE n) d = 2 then Store.put 0 n d.time m else m) p.retAt }) d))
    if spState d = spCoast ∧ d.pwr.before ≠ 0 then spinStart 0 d else d
  else d

def execOutputReconnect (v : Nat) (s : State) : Out := onDev (reconnect v) s

/-- POWER_LOSS_DETECT: V12 or V5 (in 20 mV units) below its threshold for DEB (R167, R168, R170): vault mode while the
spindle turns at 3,000 rpm or more, otherwise every loaded arm retracts. -/
def powerLoss (v12 v5 : Nat) (d : Dev) : Dev :=
  if !(vBelow v12 (rd BRK_PLTHR_V12UV d) d || vBelow v5 (rd BRK_PLTHR_V5UV d) d) || isSet BRK_STAT_PLOSS d then d
  else
    let st := spState d
    let src := rd SPN_STAT_STEP d
    let d := wr BRK_STAT_PLOSS 1 (onPwr (fun p => { p with
      flushed := false, supplyBack := false, foc := observed d, before := 0 }) d)
    let d := raise pgBrk 4 d
    if speed d < 300000 ∨ st = spStopped ∨ st = spFailed then
      raise pgBrk 6 (retractAll .power d)
    else
      let d := wrs [(SPN_STAT_STATE, spVault), (SPN_STAT_TARGET, 7), (SPN_STAT_RAMP, 0), (SPN_STAT_ATSPEED, 0),
        (BRK_STAT_VAULT, 1), (BRK_STAT_VHOLD, 600)] d
      let d := sendNotice true src 7 d
      let arms := rd BRK_VAULT_ARMS d
      each 4 (fun n d => if arms.testBit n && fitted (.arm n) d && dieUp (.arm n) d then d else retractFrom .power n d) d

def execPowerLossDetect (v12 v5 : Nat) (s : State) : Out := onDev (powerLoss v12 v5) s

/-- SPINDLE_BELOW_VAULT_SPEED: below 3,000 rpm in vault mode (R168). -/
def belowVault (d : Dev) : Dev :=
  if isSet BRK_STAT_VAULT d then vaultEnd d.pwr.flushed d else d

def execSpindleBelowVaultSpeed (s : State) : Out := onDev belowVault s

/-- The supplies are back and the flush is complete (R170): the isolation switch closes, the spindle returns to FOC and
ramps to MIN, limited by CAP (R162), with a start notice; vault mode ends. -/
def supplyResume (d : Dev) : Dev :=
  let mn := limitStep (rd SPN_STEPLIM_MIN d) d
  let d := raise pgBrk 7 (raise pgBrk 5 d)
  let d := wrs [(BRK_STAT_VAULT, 0), (BRK_STAT_PLOSS, 0), (SPN_STAT_STATE, runState true d), (SPN_STAT_TARGET, mn),
    (SPN_STAT_RAMP, 1)] d
  raise pgSpn 5 (sendNotice true (rd SPN_STAT_STEP d) mn d)

/-- VAULT_FLUSH_COMPLETE: the hub reports the flush complete over FL6 (R168, R170). -/
def flushComplete (d : Dev) : Dev :=
  if isSet BRK_STAT_VAULT d && flushIdle d && dieUp .power d then
    let d := onPwr (fun p => { p with flushed := true }) d
    if d.pwr.supplyBack then supplyResume d else vaultEnd true d
  else d

def execVaultFlushComplete (s : State) : Out := onDev flushComplete s

/-- SUPPLY_RETURN: both supplies above their thresholds for 10 ms in vault mode (R170): normal operation follows the
flush. After rectification has stopped the device is off and a power-up follows. -/
def supplyReturn (d : Dev) : Dev :=
  if isSet BRK_STAT_VAULT d then onPwr (fun p => { p with supplyBack := true }) d else d

def execSupplyReturn (s : State) : Out := onDev supplyReturn s

/-- RETRACT_ORDER: a retract order for an arm arrives from a unit or from BRK_RETCTL (R171). -/
def execRetractOrder (n : ArmId) (s : State) : Out := always (retractFrom .power n) s

/-- The phase in force of arm `n`'s retract has lasted `ms` milliseconds (R171). -/
def phaseOver (n ms : Nat) (d : Dev) : Bool := decide (Store.get 0 n d.pwr.retAt + ((ms * auxPerMs : Nat) : Int) ≤ d.time)

/-- RETRACT_PHASE_END: RETT ms of the retract are over: a quarter of RETV follows (R171). A retract does not run while the
outputs are disconnected, and begins anew when they reconnect (R166). -/
def retractPhase (n : ArmId) (d : Dev) : Dev :=
  if isSet BRK_STAT_DISC d || !phaseOver n (rd (VCM_RET_RETT n) d) d || !d.pwr.retFull.testBit n then d
  else onPwr (fun p => { p with retFull := p.retFull &&& (15 - 2 ^ n.val), retAt := Store.put 0 n.val d.time p.retAt }) d

def execRetractPhaseEnd (n : ArmId) (s : State) : Out := always (retractPhase n) s

/-- RETRACT_COMPLETE: HOLDT ms are over: the bridge turns off, the arm is parked, VCM event bit 4 + n (R171). A bridge
that a lasting action disables is disabled now (R175). After a power loss rectification stops once every retract is
complete (R168). -/
def retractDone (n : ArmId) (d : Dev) : Dev :=
  if rd (VCM_STAT_STATE n) d = 2 ∧ d.pwr.retFull.testBit n = false ∧ isSet BRK_STAT_DISC d = false
      ∧ phaseOver n (rd (VCM_RET_HOLDT n) d) d = true then
    let d := wr (VCM_STAT_STATE n) (if isSet (VCM_CFG_EN n) d then 3 else 4) (clrBit BRK_RETCTL_BUSY n d)
    let d := if servo n d = svRetract then setServo n svParked d else d
    let d := raise pgVcm (4 + n) d
    if isSet BRK_STAT_PLOSS d && !isSet BRK_STAT_VAULT d && rd BRK_RETCTL_BUSY d == 0 && spState d == spVault then
      wr SPN_STAT_STATE spCoast d
    else d
  else d

def execRetractComplete (n : ArmId) (s : State) : Out := always (retractDone n) s

/-- Bridge and microactuator output `n` exist: those of an arm that is not fitted are inert (R4). -/
def ifArm (n : Nat) (f : Dev → Dev) (d : Dev) : Dev := if fitted (.arm n) d then f d else d

/-- One error of the VCM class, on the bridge of arm `n` (R175): the lasting action disables the bridge after its retract
and loses the arm. -/
def vcmClass (n : Nat) (d : Dev) : Dev :=
  errClass pgVcm (fun d => raise pgVcm 10 (reason 1 (armLost n (retractFrom .power n (wr (VCM_CFG_EN n) 0 d))))) d

/-- VCM_TRIP: current above ITRIP: the bridge is cut for the rest of the PWM period (R172, R173). -/
def vcmTrip (n : ArmId) (d : Dev) : Dev := vcmClass n (raise pgVcm n (bumpVcm VCM_FLTCNT_TRIP d))

def execVcmTrip (n : ArmId) (s : State) : Out := onDev (ifArm n (vcmTrip n)) s

/-- OPEN_COIL: too little current for 8 L0 samples: the bridge is off and no retract is possible (R173). -/
def openCoil (n : ArmId) (d : Dev) : Dev :=
  let d := onPwr (fun p => { p with noRetract := p.noRetract ||| 2 ^ n.val, drives := Store.put 0 n.val 0 p.drives }) d
  let d := clrBit BRK_RETCTL_BUSY n (wr (VCM_STAT_STATE n) 0 d)
  vcmClass n (raise pgVcm n (bumpVcm VCM_FLTCNT_OPEN d))

def execOpenCoil (n : ArmId) (s : State) : Out := onDev (ifArm n (openCoil n)) s

/-- CHARGE_PUMP_FAULT: the charge pump leaves regulation: all microactuator outputs go to 0 V, the flag is set toward every
arm (R173), until the pump is in regulation again (`pumpNow`). -/
def pumpFault (d : Dev) : Dev := setRaw pgVcm 8 true (onPwr (fun p => { p with maCmd := [] }) (wr VCM_PUMP_OK 0 d))

def execChargePumpFault (s : State) : Out := onDev pumpFault s

/-- MA_OVERCURRENT: the output goes to 0 V until firmware clears VCM_MAn.EN and sets it again (R173). -/
def maOver (n : ArmId) (d : Dev) : Dev :=
  let d := onPwr (fun p => { p with maHeld := p.maHeld ||| 2 ^ n.val, maCmd := Store.put 0 n.val 0 p.maCmd }) d
  raise pgVcm 9 (bumpVcm VCM_FLTCNT_MAFLT d)

def execMaOvercurrent (n : ArmId) (s : State) : Out := onDev (ifArm n (maOver n)) s

/-- Nominal voltages of the monitored rails in mV (R398). -/
def railNominal (r : Nat) : Nat := [12000, 5000, 800, 1800, 1200, 850, 500, 1050].getD r 0

/-- VDD_CORE now, in mV (R174): from the voltage last set or reported it follows the set-point at 1 mV/µs. -/
def coreMv (d : Dev) : Nat :=
  let moved := (d.time - d.pwr.coreAt) * 1000 / auxPerMs
  let t := rd REG_CORECFG_VSET d * 5
  if d.pwr.coreMv ≤ t then min t (d.pwr.coreMv + moved) else max t (d.pwr.coreMv - moved)

/-- VDD_CORE is at `mv` mV now. -/
def coreIs (mv : Nat) (d : Dev) : Dev := onPwr (fun p => { p with coreMv := mv, coreAt := d.time }) d

/-- The phases that are fitted, enabled and not shed switch while the regulator runs (R174). -/
def phasesNow (d : Dev) : Dev :=
  wr REG_CORESTAT_PHACT (if d.sup.coreOn then rd REG_CORECFG_PHEN d &&& (15 - rd REG_CORESTAT_PHSHED d) else 0) d

/-- RAIL_OUT_OF_RANGE: the monitor of rail `r` reports `mv` mV and `uv` µV as the rail leaves ±5 % of nominal, or comes back (R174);
`r` = 8 is VDD_CORE, whose range is 5 % about VSET (R179). -/
def railOut (r : Fin 9) (mv uv : Nat) (d : Dev) : Dev :=
  let nom := if r.val = 8 then rd REG_CORECFG_VSET d * 5 else railNominal r
  let v := 1000 * mv + uv % 1000
  let low := vBelow (100 * v) (95000 * nom) d
  let high := vAbove (100 * v) (105000 * nom) d
  if r.val = 8 then setRaw pgReg 0 (low || high) (coreIs (volts mv d) d)
  else
    let wasLow := isSet (REG_MON_UV r) d
    let wasHigh := isSet (REG_MON_OV r) d
    let d := wrs [(REG_MON_V r, volts mv d), (REG_MON_UV r, b2n low), (REG_MON_OV r, b2n high)] d
    when' (high && !wasHigh) (raise pgReg 4) (when' (low && !wasLow) (raise pgReg 3) d)

def execRailOutOfRange (r : Fin 9) (mv uv : Nat) (s : State) : Out := onDev (railOut r mv uv) s

/-- REG_PHASE_FAULT: phase `p` disagrees with the mean by more than 50 % for 100 µs (R174): one REG class error; the
lasting action sheds the phase (R175). -/
def phaseFault (p : Fin 4) (d : Dev) : Dev :=
  errClass pgReg (fun d =>
    raise pgReg 2 (setDegraded pgReg true (phasesNow (setBit REG_CORESTAT_PHSHED p d))))
    (raise pgReg 1 d)

def execRegPhaseFault (p : Fin 4) (s : State) : Out := onDev (phaseFault p) s

end Sys2Proof.Machine
end

