-- ==== Sys2Proof/Machine/WritePath.lean ====
section
/-!
DEFINITION. Machine/WritePath.lean: the hands' choice of work (R254), the write path of an arm die (R97 to R111), sector
boundaries, the arm link to the preamplifier (R112 to R123) and its faults.
-/
namespace Sys2Proof.Machine

/-! ## Hands -/

/-- Work kinds that are written. -/
def WorkKind.writes : WorkKind → Bool
  | .hostWrite | .relocWrite | .vaultWrite | .replayWrite => true
  | .hostRead | .relocRead | .scanRead | .parityRead => false

/-- Head and track of the next sector of a work item (R202). -/
def workPlace (n : Nat) (w : Work) (d : Dev) : Nat × Nat :=
  let p := sectorPlace n w (min (nextSec w) (w.len - 1)) d
  (p.1, p.2.1)

/-- Work of one sequence: one zone, or one media-cache band (R254). -/
def sameSeq (n : Nat) (a b : Work) (d : Dev) : Bool :=
  a.zrec == b.zrec && (a.zrec != noRec || bandOf n a.head a.track d == bandOf n b.head b.track d)

/-- The hand may start the item now: no earlier item of its sequence waits (a scan holds nothing up, R214), its zone is not relocating (R204), and its
band is usable (R71). -/
def mayStart (n : Nat) (pre : List Work) (w : Work) (d : Dev) : Bool :=
  let p := workPlace n w d
  !(pre.any (fun v => sameSeq n v w d && (v.kind != .scanRead || w.kind == .scanRead)))
    && !((w.kind == .hostWrite || w.kind == .replayWrite) && d.zon.cur.any (fun c => c.zi == w.zrec))
    && !(w.kind == .scanRead && scanHeld n d)
    && (w.trump != 0 || (arm n d).ladder.isEmpty)
    && (bandOf n p.1 p.2 d).isSome

/-- Work `a` runs before work `b` (R254, R255): trump work first, by precedence; then a scan last; then the earlier
class deadline, then the earlier admission. -/
def before (a b : Work) : Bool :=
  if a.trump ≠ b.trump then (if a.trump = 0 then false else b.trump == 0 || decide (a.trump < b.trump))
  else if a.kind ≠ b.kind ∧ (a.kind = .scanRead ∨ b.kind = .scanRead) then b.kind == .scanRead
  else decide (a.due < b.due) || (a.due == b.due && decide (a.admitted < b.admitted))

/-- The item that the hand picks (R254). -/
def pick (n : Nat) : List Work → List Work → Dev → Option Work
  | _, [], _ => none
  | pre, w :: ws, d =>
    let rest := pick n (pre ++ [w]) ws d
    if mayStart n pre w d then
      match rest with
      | some v => if before v w then some v else some w
      | none => some w
    else rest

/-- Firmware queues media-cache writes for held conventional blocks (R211, R246). -/
def queueMc (n : Nat) (ps : List McPlace) (d : Dev) : Dev :=
  ps.foldl (fun d p =>
    match heldBlk p.ns p.lba d with
    | none => d
    | some b =>
      let c := nsClass b.ns d
      handPush n { id := 0, kind := .hostWrite, trump := 0, ctx := none, ns := p.ns, zrec := noRec, zofs := 0, len := 1,
                   head := p.head, track := p.track, refTag := tagOf b.md, lba := p.lba, parity := false,
                   admitted := d.time, due := classDue d.time c d, deadline := 0, done := 0, started := false,
                   ahead := 0, sector := p.sector, redo := [] } d) d

/-- The frames before a burst on head `h` with slot `s` (R101, R102): HEADSEL with mode WRITE, ASSIST with the slot's ACODE, HEATER with
HTRW; in pre-heat mode also RAMP with RAMPCOLD, which returns to 0 before the first burst after it. The read heater is back at its own
setting before (R90). -/
def burstFrames (n h s : Nat) (d : Dev) : Dev :=
  let d := headsel n h 2 (heaterStep n 0 d)
  let d := onArm n (fun a => { a with modeBad := false, framed := some s }) d
  let c := clampCode n h (rd (WRP_WPB_ACODE n s) d) d
  let d := queueFrame n (0x4000 + 0x100 * h) c.2 false c.1
  let d := queueFrame n (0x5001 + 0x100 * h) (rd (WRP_WPA_HTRW n s) d) false d
  let cold := isSet THM_STAT_PREHEAT d
  if cold || (arm n d).rampOn then
    queueFrame n (0x4002 + 0x100 * h) (if cold then rd (WRP_ASTIM_RAMPCOLD n) d else 0) false
      (onArm n (fun a => { a with rampOn := cold }) d)
  else d

/-- With nothing else to do, a hand whose ladder waits returns the arm to the ladder's track (R92). -/
def ladReturn (n : Nat) (d : Dev) : Dev :=
  match (arm n d).ladder with
  | [] => d
  | s :: _ =>
    if (arm n d).ladWait || (selHead n d == s.head && (arm n d).tgtTrack == s.track) then d
    else
      let d := ladRun n d
      match (arm n d).ladder with
      | [] => d
      | s :: _ => if seekRefused n s.head d then d else ladOffset n (seekStart n s.head s.track false d)

/-- HAND_DISPATCH: the hand picks its next work item and goes to its track (R254). Nothing is dispatched while the hand
is stopped, firmware holds or wants the seek interface (R139), the arm is in hold or retracting (R142), or an item that has started is
not at its end. `mc` are the media-cache writes that firmware has queued meanwhile. On the way to PS2 a hand that has finished unloads its heads
(R357). A read in a band that is not usable ends with Internal Error
(R71). -/
def handDispatch (n : ArmId) (mc : List McPlace) (d : Dev) : Dev :=
  let d := scanYield n (queueMc n mc d)
  let busy := (hand n d).any (fun w => w.started && (decide (w.done < w.len + w.ahead) || !w.redo.isEmpty))
  let idle := !(hand n d).any (fun w => w.started)
  if isSet PWS_PSSTAT_BUSY d && decide (2 ≤ d.pws.goal) && idle && servoOn n d then retract n d
  else if isSet (CMD_HAND_STOP n) d || isSet (SRV_CTL_FWOWN n) d || isSet (SRV_CTL_OWNED n) d || busy
      || servo n d == svHold || servo n d == svRetract then d
  else
    match (hand n d).find? (fun w => w.kind == .hostRead && !w.started &&
        (let p := workPlace n w d; (bandOf n p.1 p.2 d).isNone)) with
    | some w =>
      match w.ctx with
      | some i => endCmd i stInternal d
      | none => dropWork n w.id d
    | none =>
      match pick n [] ((hand n d).filter (fun w => !w.started && mayDispatch n w d)) d with
      | none => ladReturn n d
      | some w =>
        let p := workPlace n w d
        if seekRefused n p.1 d then d
        else
          let d := onWork n w.id (fun w => { w with started := true }) { d with sup := { d.sup with actAt := some d.time } }
          let d := if w.trump = 0 then d else countArm n (fun x => { x with trump := add32 x.trump 1 }) d
          let d := seekStart n p.1 p.2 false (heaterStep n 0 (onArm n (fun a => { a with ladOfs := 0 }) d))
          if w.kind.writes then burstFrames n p.1 (slotAt n p.1 p.2 d) d else d

def execHandDispatch (n : ArmId) (mc : List McPlace) (s : State) : Out := onDev (handDispatch n mc) s

/-! ## Bursts and sector boundaries -/

/-- Mode frames of the arm die that are still under way (R101). -/
def framesOpen (n : Nat) (d : Dev) : Bool :=
  (arm n d).frames.any (fun f => !f.raw) || (arm n d).frame.any (fun f => !f.raw)

/-- The write work item that has started and still has sectors to write or rewrite. -/
def writingWork (n : Nat) (d : Dev) : Option Work :=
  (hand n d).find? (fun w => w.started && w.kind.writes &&
    (decide (w.done < w.len) || (arm n d).rewrites.any (fun r => r.work == w.id)))

/-- The place that the item's next burst begins to write at. -/
def burstPlace (n : Nat) (w : Work) (d : Dev) : Nat × Nat × Nat := sectorPlace n w (min w.done (w.len - 1)) d

/-- The assist type in TYPE can be used: it is set and IDENT CAPS names it (R104). -/
def assistOk (n : Nat) (d : Dev) : Bool :=
  rd (ALK_ASSIST_TYPE n) d != 0 && rd (ALK_ASSIST_TYPE n) d == bits (arm n d).caps 4 2

/-- Compare TYPE with IDENT CAPS (R104): otherwise the arm refuses to write, and ALK event bit 3 holds. -/
def assistCheck (n : Nat) (d : Dev) : Dev :=
  let d := wrB (ALK_ASSIST_MISMATCH n) (rd (ALK_ASSIST_TYPE n) d != bits (arm n d).caps 4 2) d
  let d := setRaw (pgAlk n) 3 (!assistOk n d) d
  if assistOk n d then (if (arm n d).modeBad then d else inhibitLift n 6 d) else inhibitNow n 6 d

/-- In deferred verification a track is written only when the one before has been read back (R111). -/
def trackWaits (n t : Nat) (d : Dev) : Bool := deferring n d && (arm n d).raws.any (fun r => r.track != t)

/-- Write gate rises for a burst of item `w` (R100, R102): the lead is LEAD · 4 ns, in pre-heat mode at least 1,000 ns. -/
def burstOpen (n : Nat) (w : Work) (d : Dev) : Dev :=
  let lead := rd (WRP_ASTIM_LEAD n) d * 4
  gateOn n (onArm n (fun a => { a with
    burst := some w.id, lead := if isSet THM_STAT_PREHEAT d then max lead 1000 else lead }) d)

/-- WRITE_BURST_START: write-settled, with the assist type checked (R104), IDENT read (R123), the mode frames for the burst's slot done for
1 µs, and no inhibit, the arm raises write gate (R100, R101, R103). A burst whose frames have not gone out, or not in time, sends them and
waits for the next opportunity. The watchdog's inhibit and that of a fault of this head lift at this burst (R103, R120). -/
def burstStart (n : ArmId) (d : Dev) : Dev :=
  match writingWork n d with
  | none => d
  | some w =>
    let p := burstPlace n w d
    let s := slotAt n p.1 p.2.1 d
    if isSet (SRV_STAT_WROK n) d = false ∨ (arm n d).burst.isSome = true ∨ isSet (ALK_CFG_PRESENT n) d = false
        ∨ trackWaits n p.2.1 d = true then d
    else if !assistOk n d then assistCheck n d
    else if framesOpen n d then d
    else if (arm n d).framed ≠ some s ∨ rd (ALK_STAT_MODE n) d ≠ 2 then burstFrames n p.1 s d
    else if d.time < (arm n d).frameAt + 125 then d
    else
      let d := inhibitLift n 3 d
      let d := fltInhibit n (onArm n (fun a => { a with
        fltBits := if a.fltBits = 1 then 0 else a.fltBits, fltHeads := a.fltHeads &&& (0xFF - 2 ^ p.1) }) d)
      if mayWrite n d then burstOpen n w d else d

def execWriteBurstStart (n : ArmId) (s : State) : Out := onDev (burstStart n) s

/-- A media-cache sector is rewritten at the present place `p` of its stream (R213): the zone engine enters it in the index,
or holds the entry where the bucket is full. -/
def mcRewrite (n : Nat) (w : Work) (k : Nat) (p : Nat × Nat × Nat) (d : Dev) : Dev :=
  let h : McHold := ⟨w.ns, w.lba + k, n, p.1, p.2.1, p.2.2⟩
  let d := onWork n w.id (fun w => { w with sector := w.sector + 1 }) d
  match mcEnter h d with
  | some d => d
  | none => raise pgZon 8 (bumpEv pgZon ZON_MCCNT_FULL 14 1
      { d with zon := { d.zon with mcHeld := d.zon.mcHeld ++ [h] } })

/-- Begin to write place `k` of a work item at head, track and sector `p` (R97 to R99): what the sector puts on the write-data pair,
with the slot's precompensation. -/
def writeSector (n : Nat) (w : Work) (k : Nat) (p : Nat × Nat × Nat) (d : Dev) : Dev :=
  let r := writeData w k d
  let d := countArm n (fun x => { x with written := x.written + 1 }) (when' (w.kind == .vaultWrite) (vaultWritten w k) r.1)
  let fs := placeFrags n p d
  onArm n (fun a => { a with
    wsec := some ⟨w.id, k, 0, splitOf fs, slotAt n p.1 p.2.1 d, p.2.1, 0⟩, image := writeImage a.pc fs (ldpcEncode r.2), pair := true }) d

/-- Data of the next sector of a relocation has been read (R204) or is filler (R209), and parity of a replayed tail has been formed. -/
def dataReady (w : Work) (d : Dev) : Bool :=
  (w.kind != .relocWrite && !(w.kind == .replayWrite && w.parity && decide (62 ≤ ofsAt w w.done % 64)))
    || d.zon.cur.any (fun c => !(Store.get [] (ofsAt w w.done) c.buf).isEmpty)
    || (heldAt w.zrec (ofsAt w w.done) d).isSome || (let g := zoneGet w.zrec d; fillerAt w.zrec g.2 (ofsAt w w.done) d)
    || (w.parity && decide (62 ≤ ofsAt w w.done % 64) && (heldParity w.zrec (ofsAt w w.done / 64) d).isSome)

/-- Rewrite a failed sector at this sector boundary (R110): a slip entry of its zone, of the relocation's fresh list, or
a media-cache index entry. A sector whose zone has no free entry is left to the zone's relocation (R203). -/
def rewriteSector (n : Nat) (r : RawSec) (d : Dev) : Dev :=
  let d := onArm n (fun a => { a with rewrites := a.rewrites.erase r }) d
  match work n r.work d with
  | none => d
  | some w =>
    let at' := fun d => writeSector n w r.sec (sectorPlace n w r.sec d) d
    if w.zrec = noRec then let p := sectorPlace n w w.done d; writeSector n w r.sec p (mcRewrite n w r.sec p d)
    else if w.kind = .relocWrite then at' (relocSlip (ofsAt w r.sec) r.cause (ofsAt w w.done) d)
    else
      let s := slipAdd w.zrec (ofsAt w r.sec) r.cause d
      if s.2 then at' s.1 else workEnd n w.id s.1

/-- What the burst writes from this sector boundary on: a failed sector first (R110), else the next sector of its work;
with nothing left, or at the end of a track that deferred verification is to read back first (R111), write gate falls (R100). -/
def burstNext (n : Nat) (d : Dev) : Dev :=
  match (arm n d).burst with
  | none => d
  | some id =>
    let close := fun d => gateOff n (onArm n (fun a => { a with burst := none, framed := none }) d)
    let stop := fun d => workEnd n id (close d)
    match work n id d with
    | none => close d
    | some w =>
      if w.started = false ∨ mayWrite n d = false ∨ trackWaits n (burstPlace n w d).2.1 d = true then stop d
      else
        match (arm n d).rewrites.find? (fun r => (work n r.work d).any (fun v => sameSeq n v w d)) with
        | some r => rewriteSector n r d
        | none =>
          if w.done < w.len ∧ dataReady w d = true then
            let k := w.done
            let d := onWork n id (fun w => { w with done := w.done + 1 }) d
            let d := if w.zrec ≠ noRec ∧ w.kind ≠ .relocWrite then setNextOfs w.zrec (ofsAt w k + 1) d else d
            writeSector n w k (sectorPlace n w k d) d
          else stop d

/-- The channels change roles at this boundary (R85, R86): the one taking over becomes live, event bit 5; a joker that
hands back returns to rest, event bit 6. The joker cannot become live while a copy runs (R87). -/
def rolesNow (n : Nat) (d : Dev) : Dev :=
  match (arm n d).takeover with
  | none => d
  | some c =>
    if c = 1 ∧ isSet (RCH_SETCTL_COPYBUSY n 1) d = true then d
    else
      let o := 1 - c
      let d := if chMode n o d = chLive then unlive n o (if o = 1 then restMode n d else chAdapt) d else d
      let d := onArm n (fun a => { a with takeover := none, liveLast := c }) (setMode n c chLive d)
      pathUpdate n (raise (pgRch n c) 5 (feFollow n d))

/-- The steps of a CH run that wait for a sector boundary (R183): with the copy done the joker takes over and A adapts;
at its end A takes over again with the new values, TREF and the interval begin anew after success, a failed run counts
one error of the CAL class (R188). -/
def calRoles (n : Nat) (d : Dev) : Dev :=
  match calRun n 0 d with
  | none => d
  | some r =>
    let m := chMode n 1 d
    if r.phase = 0 ∧ isSet (RCH_SETCTL_COPYBUSY n 1) d = false ∧ chMode n 0 d = chLive ∧ (m = chShadow ∨ m = chOff)
        ∧ (arm n d).takeover.isNone = true then
      onCalRun n 0 (fun r => { r with phase := 1, since := d.time }) (onArm n (fun a => { a with takeover := some 1 }) d)
    else if r.phase = 2 then
      let d := calEnd n 0 (onArm n (fun a => { a with takeover := if chMode n 0 d = chAdapt then some 0 else a.takeover }) d)
      match r.verdict with
      | none => d
      | some true => raise (pgCal n) 1 (onPage (pgCal n) (fun h => { h with err := { h.err with stamps := [] } }) (calRef n d))
      | some false => calError n d
    else d

/-- The sector being written is complete: it becomes readable under the TRR TRRLAG bits later (R108). -/
def sectorWritten (n : Nat) (d : Dev) : Dev :=
  onArm n (fun a =>
    match a.wsec with
    | some r =>
      let lag := (a.lag * a.period + 16 * 768 * a.ratio - 1) / max 1 (16 * 768 * a.ratio)
      { a with wsec := none, image := [], raws := a.raws ++ [{ r with ready := d.time + lag }] }
    | none => a) d

/-- SECTOR_BOUNDARY: the sector being written is complete; waiting inhibits and lifts take effect (R103); gains (R75), write parameters
(R99), the reader judgements (R88), waiting sets (R83) and channel roles (R85) change; the slot follows the track (R81); the burst goes
on (R110). -/
def sectorBoundary (n : ArmId) (d : Dev) : Dev :=
  let d := sectorWritten n d
  let inh := (arm n d).inhNext
  let lift := (arm n d).liftNext
  let d := onArm n (fun a => { a with inhNext := 0, liftNext := 0 }) d
  let d := each 11 (fun k d => if inh.testBit k then inhibitSet n k d else d) d
  let d := each 11 (fun k d => if lift.testBit k then inhibitLift n k d else d) d
  let d := judgeNow n (gainsNow n (latchWp n d))
  let d := feFollow n (installPending n 1 (installPending n 0 d))
  let d := readersNow n (rolesNow n (calRoles n d))
  burstNext n d

def execSectorBoundary (n : ArmId) (s : State) : Out := onDev (sectorBoundary n) s

/-- WRITE_INHIBIT_FIRMWARE: a write of WRP_WGCTL (R103 bit 8). -/
def inhibitFirmware (n : ArmId) (v : Nat) (d : Dev) : Dev :=
  ifReach (pgWrp n) (fun d =>
    let d := wrs [(WRP_WGCTL_INHIBIT n, bits v 0 1), (WRP_WGCTL_IDLE n, bits v 8 8), (WRP_WGCTL_PRE n, bits v 16 8)] d
    if bitOf v 0 then inhibitNext n 8 d else inhibitLiftNext n 8 d) d

def execWriteInhibitFirmware (n : ArmId) (v : Nat) (s : State) : Out := onDev (inhibitFirmware n v) s

/-- The assist watchdog trips (R105): write gate drops at once, the ASSIST frame with STBY = 0 goes out, head and cause
are recorded; one write-safety trip. -/
def assistTrip (n cause : Nat) (d : Dev) : Dev :=
  let h := selHead n d
  let d := queueFrame n (0x4001 + 0x100 * h) 0 false (inhibitNow n 3 d)
  writeSafety n (raise (pgWrp n) 0 (wrs [(WRP_ASSTAT_HEAD n, h), (WRP_ASSTAT_CAUSE n, cause)] d))

/-- Write gate has been high for more than DUTY / 256 of the aligned window, and without a break for more than ONMAX µs (R105). -/
def dutyOver (n : Nat) (d : Dev) : Bool :=
  decide (rd (WRP_ASLIM_DUTY n (selHead n d)) d * dutySpan < 256 * dutyAt (arm n d) (isSet (ALK_STAT_WG n) d) d.time)
def ontimeOver (n : Nat) (d : Dev) : Bool := decide (rd (WRP_ASWD_ONMAX n) d * 125 < d.time - (arm n d).gateAt)

/-- ASSIST_DUTY_TRIP. -/
def execAssistDutyTrip (n : ArmId) (s : State) : Out :=
  onDev (fun d => if isSet (ALK_STAT_WG n) d && dutyOver n d then assistTrip n 1 d else d) s
/-- ASSIST_ONTIME_TRIP. -/
def execAssistOntimeTrip (n : ArmId) (s : State) : Out :=
  onDev (fun d => if isSet (ALK_STAT_WG n) d && ontimeOver n d then assistTrip n 2 d else d) s

/-! ## Read-after-write -/

/-- The sector is written as zeros with the reference tag inverted: a block whose copies are both lost (R299), or a sector that a
relocation could not read (R204). -/
def lostBlk (w : Work) (k : Nat) (d : Dev) : Bool :=
  (w.kind == .relocWrite && d.zon.cur.any (fun c =>
    let s := Store.get [] (ofsAt w k) c.buf
    !s.isEmpty && !tagFits w k (tagOf (s.drop 4096))))
  || (if w.zrec = noRec then heldBlk w.ns (w.lba + k) d else heldAt w.zrec (ofsAt w k) d).any
    (fun b => b.c1 == .lost && b.c2 == .lost)

/-- A written sector is read back (R108): by the live channel with variant C of the slot on the TRR, in deferred verification on the LDR, at
the positions of R68 and with the limit ITERMAX. The answer is the detection used (none: predicted position) with the iterations, or nothing
where no decode meets R80, and whether a delivery check failed. -/
def rawDecode (n : Nat) (w : Work) (r : RawSec) (x : RawIn) (forced : Bool) (d : Dev) : Dev × Option (Option Int × Nat) × Bool :=
  let c := servePage n d
  let rs := if deferring n d then [0] else [1]
  let set := setWords n c 2 r.slot d
  let ps := positions n (rd (RCH_SYNCWIN_WIN n) d) x.io.syncs d
  let all : List (Int × Nat) := (ps.1 ++ (if ps.2.2 then [0] else [])).zipIdx
  (all.foldl (fun (st : Dev × Option (Option Int × Nat) × Bool) p =>
    match st.2.1 with
    | some _ => st
    | none =>
      let q := channelDecode n c set rs r.split p.1 x.io.l x.io.t (rd (WRP_RAWTHR_ITERMAX n) st.1) st.1
      let q := if forced then (q.1, false, q.2.2) else q
      let word := flipBits q.1 x.flips
      let bad := (x.fault && p.2 == 0) || (q.2.1 && !ldpcOk word)
      let fits := (ldpcOk word && tagFits w r.sec (tagOf ((word.drop 4096).take 16))) || lostBlk w r.sec st.1
      let d := bumpEv (pgRch n c) (RCH_ITERSUM_ITER n c) 7 q.2.2 (bumpEv (pgRch n c) (RCH_SECCNT_SECTORS n c) 7 1 st.1)
      if bad then (selfCheckFail n c d, none, true)
      else if !q.2.1 then (d, none, st.2.2)
      else if fits then (d, some (if x.io.syncs.contains p.1 then some p.1 else none, q.2.2), false)
      else (bumpEv (pgRch n c) (RCH_CHKCNT_PIFAIL n c) 7 1 d, none, true)) (d, none, false))

/-- The result of a read-after-write decode (R109): 0 pass, 1 weak, else fail with a cause of R201. -/
def rawVerdict (n : Nat) (w : Work) (r : RawSec) (x : RawIn) (forced : Bool) (d : Dev) : Dev × Bool × Nat :=
  if r.cause ≠ 0 then (d, false, r.cause)
  else if (if deferring n d then adcFailed x.io.l x.io.t x.io.openL else adcFailed x.io.t x.io.l x.io.openT) then (d, false, 4)
  else
    let q := rawDecode n w r x forced d
    match q.2.1 with
    | none => (q.1, false, if q.2.2 then 2 else 1)
    | some v =>
      let weak := decide (rd (WRP_RAWTHR_ITERWEAK n) d < v.2)
        || !(v.1.any (fun s => decide (s.natAbs ≤ rd (WRP_RAWTHR_SYNCWEAK n) d)))
      (q.1, true, b2n weak)

/-- The result of the oldest sector that awaits one (R109, R110): a pass or a weak result verifies it, a fail is counted
and the sector is to be rewritten. -/
def rawOne (n : Nat) (x : RawIn) (d : Dev) : Dev :=
  match (arm n d).raws with
  | [] => d
  | r :: rs =>
    let d := onArm n (fun a => { a with raws := rs }) d
    match work n r.work d with
    | none => d
    | some w =>
      let d := when' (isSet (TST_FRC_RAW n) d) (forceSelect n (r.work, r.sec)) d
      let q := rawVerdict n w r x (isSet (TST_FRC_RAW n) d && isForced n (r.work, r.sec) d) d
      let v := q.2
      let d := countArm n (fun y => { y with read := y.read + 1 }) q.1
      let d := if v = (true, 1) then bumpEv (pgWrp n) (WRP_RAWCNT_WEAK n) 6 1 d else d
      if v.1 && !(v.2 == 1 && isSet (WRP_RAWCTL_WEAKFAIL n) d) then
        let d := if v.2 = 0 then bumpEv (pgWrp n) (WRP_RAWPASS_PASS n) 6 1 d else d
        workEnd n w.id (calCount n true (sectorPassed w r.sec d))
      else
        let d := countArm n (fun y => { y with rawFail := add32 y.rawFail 1 }) (bumpEv (pgWrp n) (WRP_RAWCNT_FAIL n) 6 1 d)
        raise (pgWrp n) 2 (onArm n (fun a => { a with rewrites := a.rewrites ++ [{ r with cause := max 1 v.2 }] }) d)

/-- RAW_RESULT: the TRR's read-after-write of a sector ends (R108, R109), which has come under the TRR; a sector whose writing stopped
fails without one. -/
def rawResult (n : ArmId) (x : RawIn) (d : Dev) : Dev :=
  if dieUp (.arm n) d && (arm n d).raws.head?.any (fun r =>
      r.cause != 0 || (decide (r.ready ≤ d.time) && hasChannel n d && (rdrs n d).contains 1)) then rawOne n x d
  else d

def execRawResult (n : ArmId) (x : RawIn) (s : State) : Out := onDev (rawResult n x) s

/-- DEFERRED_VERIFY_READ: with the TRR out of use, the LDR reads the written sectors back on the next revolution (R111). -/
def deferredRead (n : ArmId) (xs : List RawIn) (d : Dev) : Dev :=
  if dieUp (.arm n) d && deferring n d && (arm n d).burst.isNone then xs.foldl (fun d x => rawOne n x d) d else d

def execDeferredVerifyRead (n : ArmId) (xs : List RawIn) (s : State) : Out := onDev (deferredRead n xs) s

/-! ## Arm link -/

/-- The request of a frame as sent, with its CRC (R114, R115): opcode 0b01 for a write, 0b10 for a read. -/
def requestBits (f : Frame) : Nat :=
  if f.read then
    let v := 2 * 2 ^ 16 + f.addr
    v * 256 + crc8 v 18
  else
    let v := (2 ^ 16 + f.addr) * 2 ^ 16 + f.data
    v * 256 + crc8 v 34

/-- The class of a frame's address (R118). -/
def frameClass (f : Frame) : Nat := f.addr / 0x1000

/-- A raw frame waits for a write-gate-low interval (R119), and so do the arm die's own ASSIST and HEATER frames (R99). -/
def waitsForGate (f : Frame) : Bool :=
  (!f.raw && (frameClass f == 4 || frameClass f == 5))
    || (f.raw && ((decide (1 ≤ frameClass f) && decide (frameClass f ≤ 5)) || (decide (8 ≤ frameClass f) && decide (frameClass f ≤ 14))))

/-- PREAMP_FRAME: the next frame that may go out is sent (R114, R119). ACODE and STBY values are clamped (R105). -/
def sendFrame (n : ArmId) (d : Dev) : Dev :=
  if (arm n d).frame.isSome then d
  else
    match (arm n d).frames.find? (fun f => !(waitsForGate f && isSet (ALK_STAT_WG n) d)) with
    | none => d
    | some f =>
      let h := f.addr / 0x100 % 16
      let c := if frameClass f = 4 ∧ f.addr % 0x100 ≤ 1 ∧ f.read = false then clampCode n h f.data d else (d, f.data)
      let g := { f with data := c.2 }
      onArm n (fun a => { a with frames := a.frames.erase f, frame := some g, sdio := requestBits g }) c.1

def execPreampFrame (n : ArmId) (s : State) : Out := onDev (sendFrame n) s

/-- A frame has failed (R117, R120): FAIL, event bit 1; a mode, ASSIST or HEATER frame keeps its burst from starting. -/
def frameFailed (n : Nat) (f : Frame) (d : Dev) : Dev :=
  let d := bump (pgAlk n) (ALK_ERRCNT_FAILED n) 1 d
  let d := raise (pgAlk n) 1 (wr (ALK_FRMCTL_FAIL n) 1 d)
  if f.raw then wr (ALK_FRMCTL_BUSY n) 0 d
  else if frameClass f = 1 ∨ frameClass f = 4 ∨ frameClass f = 5 then
    inhibitSet n 6 (onArm n (fun a => { a with modeBad := true, framed := none }) d)
  else d

/-- A frame has succeeded: HEADSEL sets head and mode, a mode frame lifts the inhibit of a failed one (R103 bit 6), a
raw frame leaves its data (R119), and firmware's read heater code is noted (R118). -/
def frameDone (n : Nat) (f : Frame) (x : FrameRsp) (d : Dev) : Dev :=
  let d := if f.addr = 0x1000 ∧ f.read = false then
      wrs [(ALK_STAT_HEAD n, f.data % 8), (ALK_STAT_MODE n, bits f.data 4 2)] d
    else d
  if f.raw then
    let h := f.addr / 0x100 % 16
    let d := if f.read then wr (ALK_FRMD_DATA n) x.data d else d
    let d := if frameClass f = 5 ∧ f.addr % 0x100 = 0 ∧ f.read = false then
        let put := fun (m : Store Nat) (k : Nat) => if h = k ∨ h = 15 then Store.put 0 k (f.data % 256) m else m
        onArm n (fun a => { a with heatBase := (List.range 8).foldl put a.heatBase }) d
      else d
    wrs [(ALK_FRMCTL_BUSY n, 0), (ALK_FRMCTL_DONE n, 1)] d
  else if frameClass f = 1 ∧ assistOk n d = true then inhibitLift n 6 (onArm n (fun a => { a with modeBad := false }) d)
  else d

/-- PREAMP_FRAME_RESPONSE: the response of the frame on the link, or none (R114 to R117). A response CRC error, a NAK with
reason 0x1 or no response is retried up to three times, each counting one error of the ALK class; an invalid response
code is no response. A response of which both the code and the CRC are bad counts as a CRC error (DESIGN CHOICE, notes/assumptions/113).
ALK_FRMD.STATUS takes the STATUS of every response to a raw frame. -/
def frameResponse (n : ArmId) (x : Option FrameRsp) (d : Dev) : Dev :=
  match (arm n d).frame with
  | none => d
  | some f =>
    let d := onArm n (fun a => { a with frame := none }) d
    let again := fun (c : Fld) (d : Dev) =>
      let d := linkFault n (bump (pgAlk n) c 1 d)
      if 3 ≤ f.tries then frameFailed n f d
      else onArm n (fun a => { a with frames := { f with tries := f.tries + 1 } :: a.frames }) d
    match x with
    | none => again (ALK_ERRCNT_NORESP n) d
    | some y =>
      let d := when' f.raw (wr (ALK_FRMD_STATUS n) y.status) d
      let d := when' (!f.raw) (onArm n (fun a => { a with frameAt := d.time })) d
      let v := if f.read then y.data * 256 + y.status else y.status
      let code := bits y.status 6 2
      if crc8 v (if f.read then 24 else 8) ≠ y.crc then again (ALK_ERRCNT_CRCERR n) d
      else if code = 2 then frameDone n f y d
      else if code = 1 then
        if bits y.status 0 4 = 1 then again (ALK_ERRCNT_NAK n) d
        else
          let d := bump (pgAlk n) (ALK_ERRCNT_NAK n) 1 d
          frameFailed n f d
      else again (ALK_ERRCNT_NORESP n) d

def execPreampFrameResponse (n : ArmId) (x : Option FrameRsp) (s : State) : Out := onDev (frameResponse n x) s

/-- RAW_FRAME_QUEUE: ALK_FRMCTL.GO (R119): refused for class 0xF and for a write of MODE while a hand uses the link. GO
while BUSY = 1 is taken as discarded. -/
def rawFrame (n : ArmId) (d : Dev) : Dev :=
  ifReach (pgAlk n) (fun d =>
    if isSet (ALK_FRMCTL_BUSY n) d then d
    else
      let f : Frame := ⟨rd (ALK_FRMA_ADDR n) d, rd (ALK_FRMD_DATA n) d, isSet (ALK_FRMA_READ n) d, true, 0⟩
      let uses := framesOpen n d || handBusy n d
      if frameClass f = 15 ∨ (frameClass f = 1 ∧ f.read = false ∧ uses = true) then
        raise (pgAlk n) 5 (wr (ALK_FRMCTL_REFUSED n) 1 d)
      else wr (ALK_FRMCTL_BUSY n) 1 (onArm n (fun a => { a with frames := a.frames ++ [f] }) d)) d

def execRawFrameQueue (n : ArmId) (s : State) : Out := onDev (rawFrame n) s

/-- IDLE µs have passed since the last burst, or since the mode frames of one to come (R101). -/
def idleOver (n : Nat) (d : Dev) : Bool :=
  decide (max (arm n d).idleAt (arm n d).frameAt + rd (WRP_WGCTL_IDLE n) d * auxPerUs ≤ d.time)

/-- PREAMP_IDLE_TIMEOUT: IDLE µs after the last burst the preamplifier goes back to READ mode (R101). -/
def preampIdle (n : ArmId) (d : Dev) : Dev :=
  if rd (ALK_STAT_MODE n) d = 2 ∧ (arm n d).burst.isNone = true ∧ idleOver n d = true then headsel n (selHead n d) 1 d else d

def execPreampIdleTimeout (n : ArmId) (s : State) : Out := onDev (preampIdle n) s

/-- FLT_N_ASSERT: the preamplifier asserts FLT_N, write gate drops, and its FAULT status is read within the command and handled (R120).
With a writer, assist or write-unsafe fault the bits are cleared and the selected head waits for a burst of its own; a reader fault is an
open input of that reader; supply and temperature faults wait for the release; with no bit set writing resumes at the next burst. -/
def fltAssert (n : ArmId) (status : Nat) (d : Dev) : Dev :=
  let d := breakBurst n (wr (ALK_STAT_FLT n) 1 d)
  let d := setRaw (pgAlk n) 0 true (bump (pgAlk n) (ALK_FLTLOG_COUNT n) 1 (wr (ALK_FLTLOG_STATUS n) status d))
  let st := rd (ALK_FLTLOG_STATUS n) d
  let any := fun (l : List Nat) => l.any (fun k => st.testBit k)
  let d := onArm n (fun a => { a with
    fltHeads := if any [0, 1, 4, 5, 6] then a.fltHeads ||| 2 ^ selHead n d else a.fltHeads,
    fltBits := if any [7, 8] then 2 else if st = 0 then 1 else a.fltBits,
    openIn := a.openIn ||| bits st 2 2 }) d
  let d := fltInhibit n d
  let d := if any [0, 1, 4, 5, 6] then queueFrame n 0x6001 st false (writeSafety n d) else d
  if st = 0 then linkFault n d else d

def execFltNAssert (n : ArmId) (status : Nat) (s : State) : Out := onDev (fltAssert n status) s

/-- FLT_N_RELEASE: event bit 4; the inhibit lifts now where it waited for the release, else at the next burst (R120). -/
def fltRelease (n : ArmId) (d : Dev) : Dev :=
  if isSet (ALK_STAT_FLT n) d then
    let d := raise (pgAlk n) 4 (setRaw (pgAlk n) 0 false (wr (ALK_STAT_FLT n) 0 d))
    fltInhibit n (onArm n (fun a => { a with openIn := 0, fltBits := if a.fltBits = 2 then 0 else a.fltBits }) d)
  else d

def execFltNRelease (n : ArmId) (s : State) : Out := onDev (fltRelease n) s

/-- FLT_N_PERSIST: still asserted 10 ms after the clear, and every 10 ms from then on (R120): event bit 0 once more, and writing waits for
the release. -/
def fltPersist (n : ArmId) (d : Dev) : Dev :=
  if isSet (ALK_STAT_FLT n) d then occur (pgAlk n) 0 none (onArm n (fun a => { a with fltBits := 2 }) d) else d

def execFltNPersist (n : ArmId) (s : State) : Out := onDev (fltPersist n) s

/-- A write of WRP_WPAs or WRP_WPBs (R99): ACODE and HTRW of the slot in use go to the preamplifier at the next write-gate-low interval;
the rest takes effect at the next sector boundary. -/
def writeParams (n s : Nat) (d : Dev) : Dev :=
  if s = slotOf n d then
    let h := selHead n d
    let c := clampCode n h (rd (WRP_WPB_ACODE n s) d) d
    queueFrame n (0x5001 + 0x100 * h) (rd (WRP_WPA_HTRW n s) d) false (queueFrame n (0x4000 + 0x100 * h) c.2 false c.1)
  else d

/-! ## Power-up of an arm die -/

/-- What arm `n`'s page header keeps when the arm die has lost its state: LOCK and the RWL fields of PG_ERRWIN (R33, R366). -/
def PageHdr.kept (base : Nat) (h : PageHdr) : PageHdr :=
  { PageHdr.reset base with lock := h.lock, window := h.window, thresh := h.thresh }

/-- Every register, page header and internal state of arm `n` as at power-up, but for the RWL fields and PG_CTL.LOCK, which the
hub writes back (R106, R366), and the retirement of heads, which only firmware undoes (R103). -/
def armClear (n : Nat) (d : Dev) : Dev :=
  let lo := 0x120000 + 0x10000 * n
  let own := fun (k : Nat) => decide (lo * 32 ≤ k) && decide (k < (lo + 0x10000) * 32)
  let new := { d with
    regs := d.regs.filter (fun q => !own q.1 || accAt q.1 == some .rwl), pages := Store.cut lo (lo + 0x10000) d.pages }
  let new := each 8 (fun k x => setPage (lo + 0x1000 * k) (PageHdr.kept (lo + 0x1000 * k) (page (lo + 0x1000 * k) d)) x) new
  setArm n { Arm.reset with retired := (arm n d).retired } new

/-- ARM_DIE_POWER_UP: the arm die comes up; the arm link starts with the preamplifier in SLEEP, and IDENT CAPS is read
(R123). `caps` is what the preamplifier answers, or nothing. -/
def armPowerUp (n : ArmId) (caps : Option Nat) (d : Dev) : Dev :=
  if fitted (.arm n) d then
    let d := armClear n d
    let c := caps.getD 0
    let d := onArm n (fun a => { a with caps := c }) d
    let d := wrs [(ALK_STAT_MODE n, 0), (ALK_CFG_PRESENT n, b2n caps.isSome), (ALK_CFG_NHEADS n, bits c 0 4)] d
    assistCheck n (stbyFrame n (selHead n d) (setReady (pgArm n) true d))
  else d

def execArmDiePowerUp (n : ArmId) (caps : Option Nat) (s : State) : Out := onDev (armPowerUp n caps) s

end Sys2Proof.Machine
end

