-- ==== Sys2Proof/Machine/Cal.lean ====
section
/-!
DEFINITION. Machine/Cal.lean: field calibration (R180 to R188): triggers, orders, the four kinds of run, their
plausibility checks and results; the reference measurements (R189) and the result area (R191, R192); revolution indexes
(R56), which pace a band-table load and the points of a fly-height or assist run.
-/
namespace Sys2Proof.Machine

/-! ## Plausibility (R184) -/

/-- MIN and MAX of a class as numbers; signed for classes 0 to 2. -/
def limMin (n k : Nat) (d : Dev) : Int := if k < 3 then rdInt (CAL_LIM_MIN n k) d else rd (CAL_LIM_MIN n k) d
def limMax (n k : Nat) (d : Dev) : Int := if k < 3 then rdInt (CAL_LIM_MAX n k) d else rd (CAL_LIM_MAX n k) d

/-- A value passes the limits of its class, whose unit is `u` (R184). -/
def plausible (n k : Nat) (u old new : Int) (d : Dev) : Bool :=
  decide (u * limMin n k d ≤ new) && decide (new ≤ u * limMax n k d)
    && decide (((new - old).natAbs : Int) ≤ u * rd (CAL_LIM_STEP n k) d)

/-- The adapted fields of a set (R82, R180): class, word, lowest bit. Classes 0 to 2 are 10-bit codes, 3 and 4 bytes. -/
def setFields : List (Nat × Nat × Nat) :=
  let threes := fun (c w : Nat) => [(c, w, 0), (c, w, 10), (c, w, 20)]
  ((List.range 16).flatMap (threes 0)) ++ threes 1 16 ++ threes 1 17
    ++ ((List.range 11).flatMap (fun k => threes 2 (18 + k))).take 32
    ++ (List.range 4).flatMap (fun k => [(3, 29 + k, 0), (3, 29 + k, 8), (3, 29 + k, 16), (3, 29 + k, 24)])
    ++ [(4, 34, 0), (4, 34, 8)]

/-- The value of an adapted field in the words of a set. -/
def fieldOf (ws : List Nat) (f : Nat × Nat × Nat) : Int :=
  let w := ws.getD f.2.1 0
  if f.1 < 3 then signed 10 (bits w f.2.2 10) else (bits w f.2.2 8 : Nat)

/-- The set that an adaptation gives: words 0 to 32 and the initial gains of word 34 from it, every other word as
installed, with its own CRC (R82, R183). -/
def adaptedSet (old : List Nat) (x : Adapted) : List Nat :=
  let word := fun k =>
    if k < 33 then
      let v := x.words.getD k 0
      if k < 28 then bits v 0 30 else if k = 28 then bits v 0 20 else bits v 0 32
    else if k = 34 then old.getD 34 0 / 65536 * 65536 + bits x.gains 0 16
    else old.getD k 0
  let ws := (List.range 63).map word
  ws ++ [crc32c (wordBytes ws)]

/-- The first class of which a field fails, between two sets of words (R184). -/
def failingClass (n : Nat) (old new : List Nat) (d : Dev) : Option Nat :=
  (setFields.find? (fun f => !plausible n f.1 1 (fieldOf old f) (fieldOf new f) d)).map (fun f => f.1)

/-! ## Conditions and orders (R181, R182) -/

/-- The nine calibration tracks lie in one band of the slot's group on its head (R186). -/
def medTracksOk (n slot : Nat) (d : Dev) : Bool :=
  let t := rd (CAL_MEDTRK_TRACK n) d
  (arm n d).bands.any (fun b => b.usable && b.head == slot / 8 && b.idx / 8 == slot % 8 && decide (b.first ≤ t)
    && decide (t + 8 ≤ b.last))

/-- The conditions of a kind of run hold (R182, R188). -/
def calCond (n k slot : Nat) (d : Dev) : Bool :=
  let a := arm n d
  let own :=
    if k = 0 then
      chMode n 0 d == chLive && chMode n 1 d != chLive && chMode n 1 d != chFailed && rd (RCH_MODE_RDR n 0) d == 0
        && !(page (pgCal n) d).err.lasting && !unloaded n d
    else if k = 1 then !unloaded n d
    else isSet (SRV_CTL_OWNED n) d && !isSet THM_STAT_PREHEAT d && medTracksOk n slot d
  own && !a.ramping && !a.plossSeen

/-- The code of point `i` (0 to 8) of an FH or AST run, and whether the point is skipped (R186). -/
def pointCode (n : Nat) (r : CalRun) (i : Nat) (d : Dev) : Int × Bool :=
  let k := if r.kind = 2 then 8 else 7
  let c : Int := r.base + ((i : Int) - 4) * ((rd (CAL_LIM_STEP n k) d + 3) / 4 : Nat)
  let skip := decide (c < limMin n k d) || decide (limMax n k d < c)
    || (r.kind == 3 && decide ((rd (WRP_ASLIM_ILIM n (r.slot / 8)) d : Int) < c))
  (c, skip)

/-- The mean of one point is below that of another, and at most 1/2 above it (R186), as fractions. -/
def meanLt (x y : Nat × Nat) : Bool := decide (x.1 * y.2 < y.1 * x.2)
def meanNear (x y : Nat × Nat) : Bool := decide (2 * x.1 * y.2 ≤ (2 * y.1 + y.2) * x.2)

/-- The point that an FH or AST run selects (R186). -/
def choosePoint (kind : Nat) (ms : List (Nat × Option (Nat × Nat))) : Option Nat :=
  let good := ms.filterMap (fun m => m.2.map (fun x => (m.1, x)))
  match good with
  | [] => none
  | g :: gs =>
    let best := gs.foldl (fun b m => if meanLt m.2 b.2 then m else b) g
    if kind = 2 then some best.1 else (good.find? (fun m => meanNear m.2 best.2)).map (fun m => m.1)

/-- A run fails: a severity-2 record of event bit 2 with kind, slot and failing class, 0xFF for none (R184, R333). -/
def calFailed (n k slot cls : Nat) (d : Dev) : Dev := raiseRec (pgCal n) 2 2 [k, slot, cls] d

/-- All points of an FH or AST run are read: the code is selected and checked; an accepted one waits for the next
revolution index (R184, R186). -/
def calSelect (n : Nat) (r : CalRun) (d : Dev) : Dev :=
  let cls := if r.kind = 2 then 8 else 7
  let fail := fun x d => calEnd n r.kind (calFailed n r.kind r.slot x d)
  match choosePoint r.kind r.means with
  | none => fail 0xFF d
  | some i =>
    let c := (pointCode n r i d).1
    if i = 0 ∨ i = 8 then fail 0xFF d
    else if plausible n cls 1 r.base c d = false then fail cls d
    else onCalRun n r.kind (fun r => { r with phase := 3, res := (c.toNat, 0) }) d

/-- An FH or AST run goes to the track of its next point that is not skipped; after the last it selects (R186). -/
def calPoint (n k : Nat) (d : Dev) : Dev :=
  match calRun n k d with
  | none => d
  | some r =>
    match ((List.range 9).filter (fun i => decide (r.point ≤ i))).find? (fun i => !(pointCode n r i d).2) with
    | none => calSelect n r d
    | some i =>
      let h := r.slot / 8
      if seekRefused n h d then calAbandonKind n k d
      else
        let c := (pointCode n r i d).1.toNat
        let d := onCalRun n k (fun r => { r with point := i, phase := 0, redone := false }) d
        let d := seekStart n h (rd (CAL_MEDTRK_TRACK n) d + i) false d
        let a := clampCode n h (if k = 3 then c else rd (WRP_WPB_ACODE n r.slot) d) d
        let d := queueFrame n (0x4000 + 0x100 * h) a.2 false (headsel n h 2 a.1)
        queueFrame n (0x5001 + 0x100 * h) (if k = 2 then c else rd (WRP_WPA_HTRW n r.slot) d) false d

/-- A run of kind `k` starts (R182 to R186): event bit 0. A CH run asks for the copy to the joker and clears CAL_UPD. -/
def calStart (n k slot : Nat) (auto : Bool) (d : Dev) : Dev :=
  let base := if k = 2 then rd (WRP_WPA_HTRW n slot) d else if k = 3 then rd (WRP_WPB_ACODE n slot) d else 0
  let d := onArm n (fun a => { a with
    calRuns := a.calRuns ++ [CalRun.start k slot d.time auto base],
    calMan := if a.calMan.testBit k then a.calMan - 2 ^ k else a.calMan }) d
  let d := raise (pgCal n) 0 (calStat n (clrBit (CAL_STAT_PEND n) k d))
  if k = 0 then
    wrs [(RCH_SETCTL_COPYBUSY n 1, 1), (CAL_UPD_UPD n 0, 0), (CAL_UPD_UPD n 1, 0)]
      (onArm n (fun a => { a with copySrc := some a.sets }) d)
  else if k = 1 then d
  else calPoint n k d

/-- FH waits until CH and SRV have ended, AST also until FH has (R182). -/
def calTurn (n k : Nat) (d : Dev) : Bool :=
  let waiting := rd (CAL_STAT_PEND n) d
  (List.range k).all (fun j => (decide (k ≤ 1) || ((calRun n j d).isNone && !((arm n d).calMan.testBit j && waiting.testBit j))))
    && (calRun n k d).isNone

/-- CAL_ORDER: a write of CAL_CMD (R182). GO is discarded while BUSY; an order of which a kind finds its conditions unmet
is refused whole. -/
def calOrder (n : ArmId) (v : Nat) (d : Dev) : Dev :=
  ifReach (pgCal n) (fun d =>
    let d := wrs [(CAL_CMD_KIND n, bits v 4 4), (CAL_CMD_SLOT n, bits v 8 6)] d
    let d := when' (bitOf v 14) (wr (CAL_CMD_REFUSED n) 0) d
    if !bitOf v 0 || (page (pgCal n) d).busy then d
    else
      let slot := rd (CAL_CMD_SLOT n) d
      let kinds := (List.range 4).filter (fun k => (rd (CAL_CMD_KIND n) d).testBit k)
      if kinds.all (fun k => calCond n k slot d) then
        let d := kinds.foldl (fun d k => setBit (CAL_STAT_PEND n) k d) d
        let d := onArm n (fun a => { a with calMan := kinds.foldl (fun m k => m ||| 2 ^ k) 0, calSlot := slot }) d
        kinds.foldl (fun d k => if calTurn n k d then calStart n k slot false d else d) d
      else raise (pgCal n) 6 (wr (CAL_CMD_REFUSED n) 1 d)) d

def execCalOrder (n : ArmId) (v : Nat) (s : State) : Out := onDev (calOrder n v) s

/-- CAL_RUN_START: kinds that wait start once their conditions hold (R182). -/
def calRunStart (n : ArmId) (d : Dev) : Dev :=
  each 4 (fun k d =>
    let a := arm n d
    if (rd (CAL_STAT_PEND n) d).testBit k && calTurn n k d && calCond n k a.calSlot d then
      calStart n k a.calSlot (!a.calMan.testBit k) d
    else d) d

def execCalRunStart (n : ArmId) (s : State) : Out := onDev (calRunStart n) s

/-- A temperature or interval trigger fires (R181): CH and SRV wait, FH and AST are reported as due. -/
def calTrigger (n : Nat) (d : Dev) : Dev :=
  raise (pgCal n) 4 (wr (CAL_STAT_MPEND n) 1 (setBit (CAL_STAT_PEND n) 1 (setBit (CAL_STAT_PEND n) 0 d)))

/-- CAL_INTERVAL_TRIGGER: MAXINT hours since the last successful CH run, or since the first head load (R181). -/
def calInterval (n : ArmId) (d : Dev) : Dev :=
  match (arm n d).calFrom with
  | none => d
  | some t =>
    if isSet (CAL_TRIG_AUTO n) d && decide (rd (CAL_TRIG_MAXINT n) d * 3600000 * auxPerMs ≤ d.time - t)
        && !(rd (CAL_STAT_PEND n) d).testBit 0 then
      calTrigger n d
    else d

def execCalIntervalTrigger (n : ArmId) (s : State) : Out := onDev (calInterval n) s

/-- The temperature trigger after a conversion (R181): the hottest valid sensor of the arm differs from TREF by more than
DT. It fires once while it holds; again after a CH run has ended without clearing it. -/
def calTemperature (n : Nat) (d : Dev) : Dev :=
  match hottest n d with
  | none => d
  | some t =>
    let a := arm n d
    let hot := a.calFrom.isSome && decide (4 * rd (CAL_TRIG_DT n) d < (t - rdInt (CAL_STAT_TREF n) d).natAbs)
    let d := onArm n (fun a => { a with calHot := hot }) d
    if hot && isSet (CAL_TRIG_AUTO n) d && !(rd (CAL_STAT_PEND n) d).testBit 0 && ((calRun n 0 d).isNone || !a.calHot) then
      calTrigger n d
    else d

/-! ## Channel run (R183) -/

/-- The sectors on which slot `s` has adapted in a run, of both kinds. -/
def slotSectors (r : CalRun) (s : Nat) : Nat := Store.get 0 s r.counts + Store.get 0 (s + 64) r.counts

/-- What channel A has adapted in a completed slot (R183): variant A if it met two-reader sectors, variant C if it met read-after-write
sectors; a set of which `xs` has nothing is as it was. -/
def slotAdapted (n : Nat) (r : CalRun) (s : Nat) (xs : List Adapted) (d : Dev) : List (Nat × Adapted) :=
  [false, true].filterMap (fun c =>
    if Store.get 0 (s + 64 * b2n c) r.counts = 0 then none
    else
      let key := setKey (if c then 2 else 0) s
      let old := Store.gets (fun _ => 0) key 64 (arm n d).sets
      some (key, (xs.find? (fun x => x.slot.val == s && x.varC == c)).getD ⟨c, Fin.ofNat 64 s, old, old.getD 34 0⟩))

/-- Check and install the adapted sets of one completed slot: all its fields pass, or none of its sets changes. The
answer says whether the slot has passed. -/
def calSlotEnd (n s : Nat) (xs : List (Nat × Adapted)) (d : Dev) : Dev × Bool :=
  let sets := xs.map (fun x =>
    let old := Store.gets (fun _ => 0) x.1 64 (arm n d).sets
    (x.1, old, adaptedSet old x.2))
  match (sets.filterMap (fun p => failingClass n p.2.1 p.2.2 d)).min? with
  | some c => (calFailed n 0 s c d, false)
  | none =>
    let d := sets.foldl (fun d p =>
      onArm n (fun a => { a with
        sets := Store.puts (fun _ => 0) p.1 p.2.2 a.sets, results := Store.puts (fun _ => 0) p.1 p.2.2 a.results }) d) d
    (setBit (CAL_UPD_UPD n (s / 32)) (s % 32) d, true)

/-- CH_ADAPT_END: NSLOT slots have NSEC sectors each, or TMAX has passed (R183): every completed slot is checked and
installed; without one the run is abandoned. -/
def adaptEnd (n : ArmId) (xs : List Adapted) (d : Dev) : Dev :=
  match calRun n 0 d with
  | none => d
  | some r =>
    let full := (List.range 64).filter (fun s => decide (rd (CAL_RUNCFG_NSEC n) d ≤ slotSectors r s) && slotSectors r s != 0)
    let overDue := decide (r.since + rd (CAL_RUNCFG_TMAX n) d * 10 * auxPerMs ≤ d.time)
    if r.phase ≠ 1 ∨ chMode n 0 d ≠ chAdapt ∨ (overDue = false ∧ full.length < rd (CAL_RUNCFG_NSLOT n) d) then d
    else if full.isEmpty then calAbandonKind n 0 d
    else
      let st := (full.filter (fun s => !r.skip.contains s)).foldl (fun (st : Dev × Bool) s =>
        let p := calSlotEnd n s (slotAdapted n r s xs st.1) st.1
        (p.1, st.2 && p.2)) (d, true)
      onCalRun n 0 (fun r => { r with phase := 2, verdict := some st.2 }) st.1

def execChAdaptEnd (n : ArmId) (sets : List Adapted) (s : State) : Out := onDev (adaptEnd n sets) s

/-! ## Coil-model run (R185) -/

/-- The least-squares fit of R144's model to the samples (R185): t = (1/L) · z − (R/L) · y. The answer is R and L; where the samples
do not determine them, what the fit answers is `rcoil` and `lcoil`. -/
def coilFit (x : FitSums) (rcoil lcoil : Nat) : Int × Int :=
  let a := x.zt * x.yy - x.zy * x.yt
  let det := x.zz * x.yy - x.zy * x.zy
  if a = 0 ∨ det = 0 then (rcoil, lcoil) else (rdiv (x.zy * x.zt - x.zz * x.yt) a, rdiv det a)

/-- SRV_CAL_FIT: 4,096 wedges are collected and fitted; the result is reported, checked, and waits for the next aligned
wedge boundary (R185). -/
def srvFit (n : ArmId) (rcoil lcoil : Nat) (d : Dev) : Dev :=
  match calRun n 1 d with
  | none => d
  | some r =>
    if r.phase ≠ 0 ∨ r.wedges < 4096 then d
    else
      let f := coilFit r.fit rcoil lcoil
      let d := wrs [(CAL_SRVRES_RCOIL n, (clampInt 0 65535 f.1).toNat), (CAL_SRVRES_LCOIL n, (clampInt 0 65535 f.2).toNat)] d
      if !plausible n 5 16 (rd (CTL_L0MODEL_RCOIL n) d) f.1 d then calEnd n 1 (calFailed n 1 0 5 d)
      else if !plausible n 6 1 (rd (CTL_L0MODEL_LCOIL n) d) f.2 d then calEnd n 1 (calFailed n 1 0 6 d)
      else onCalRun n 1 (fun r => { r with phase := 1, res := (f.1.toNat, f.2.toNat) }) d

def execSrvCalFit (n : ArmId) (rcoil lcoil : Nat) (s : State) : Out := onDev (srvFit n rcoil lcoil) s

/-- SRV_CAL_TIMEOUT: TMAX passes before 4,096 wedges are collected (R185). -/
def srvTimeout (n : ArmId) (d : Dev) : Dev :=
  match calRun n 1 d with
  | none => d
  | some r =>
    if r.phase = 0 ∧ r.wedges < 4096 ∧ r.since + rd (CAL_RUNCFG_TMAX n) d * 10 * auxPerMs ≤ d.time then
      calAbandonKind n 1 d
    else d

def execSrvCalTimeout (n : ArmId) (s : State) : Out := onDev (srvTimeout n) s

/-! ## Revolution indexes (R56, R186) -/

/-- A write revolution of a point begins at this index, if the arm is write-settled on the track: write gate rises unless
an inhibit stands. -/
def calWrite (n k : Nat) (d : Dev) : Dev :=
  if isSet (SRV_STAT_WROK n) d then
    let ok := mayWrite n d
    let d := onCalRun n k (fun r => { r with phase := 1, inhibited := !ok }) d
    if ok then gateOn n d else d
  else d

/-- What an FH or AST run does at a revolution index (R186, R187). -/
def calIndex (n : Nat) (pt : CalRead) (d : Dev) : Dev :=
  match (arm n d).calRuns.find? (fun r => decide (2 ≤ r.kind)) with
  | none => d
  | some r =>
    let k := r.kind
    let leave := r.ending || (hand n d).any (fun w => w.trump != 0)
    let d := if r.phase = 1 then gateOff n d else d
    if leave then calAbandonKind n k d
    else if r.phase = 0 then calWrite n k d
    else if r.phase = 1 then
      if r.inhibited then
        if r.redone then calAbandonKind n k d
        else calWrite n k (onCalRun n k (fun r => { r with redone := true, phase := 0 }) d)
      else onCalRun n k (fun r => { r with phase := 2 }) (headsel n (r.slot / 8) 1 d)
    else if r.phase = 2 then
      let m := if pt.fail || pt.sectors == 0 then none else some (pt.iters, pt.sectors)
      calPoint n k (onCalRun n k (fun r => { r with means := r.means ++ [(r.point, m)], point := r.point + 1 }) d)
    else
      let d := writeParams n r.slot (if k = 2 then wr (WRP_WPA_HTRW n r.slot) r.res.1 d else wr (WRP_WPB_ACODE n r.slot) r.res.1 d)
      raise (pgCal n) 1 (calEnd n k d)

/-- REVOLUTION_INDEX: cell 0 of wedge 0 on the selected head (R56): a calibration run on its tracks goes on (R186), its value before an
ordinary commit (R27); then a band-table load that waits runs, unless a write is in progress (R71). `pt` is how the read-back revolution
that ends here went. -/
def revIndex (n : ArmId) (pt : CalRead) (d : Dev) : Dev :=
  if unloaded n d then d
  else
    let d := calIndex n pt d
    if isSet (ARM_FMTCTL_PEND n) d && (arm n d).burst.isNone && !isSet (ALK_STAT_WG n) d then bandLoad n d else d

def execRevolutionIndex (n : ArmId) (pt : CalRead) (s : State) : Out := onDev (revIndex n pt) s

/-! ## Result area (R191) and references (R189) -/

/-- CAL_RESULT_SELECT: a write of CAL_RESSEL sets the result pointer to 0. A reserved variant leaves the selection as it
is. -/
def resSelect (n : ArmId) (v : Nat) (d : Dev) : Dev :=
  ifReach (pgCal n) (fun d =>
    let d := wr (CAL_RESSEL_SLOT n) (bits v 0 6) d
    let d := if (CAL_RESSEL_VARIANT n).allows (bits v 6 2) then wr (CAL_RESSEL_VARIANT n) (bits v 6 2) d else d
    onArm n (fun a => { a with resPtr := 0 }) d) d

def execCalResultSelect (n : ArmId) (v : Nat) (s : State) : Out := onDev (resSelect n v) s

/-- CAL_RESULT_READ: a read of CAL_RESDATA gives the word at the pointer and advances it (R191). -/
def resRead (n : ArmId) (d : Dev) : Dev :=
  if reach (pgCal n) d then
    let a := arm n d
    let key := setKey (rd (CAL_RESSEL_VARIANT n) d) (rd (CAL_RESSEL_SLOT n) d)
    { onArm n (fun a => { a with resPtr := (a.resPtr + 1) % 64 }) d with rdata := Store.get 0 (key + a.resPtr) a.results }
  else { d with rdata := absent (pgCal n) d }

def execCalResultRead (n : ArmId) (s : State) : Out := onDev (resRead n) s

/-- REF_CLOCK_MEASURE: GLB_REFCTL.CGO. -/
def execRefClockMeasure (s : State) : Out := onDev (wrs [(GLB_REFCTL_CGO, 1), (GLB_REFCTL_BUSY, 1)]) s
/-- REF_VOLTAGE_MEASURE: GLB_REFCTL.VGO. -/
def execRefVoltageMeasure (s : State) : Out := onDev (wrs [(GLB_REFCTL_VGO, 1), (GLB_REFCTL_BUSY, 1)]) s

/-- REF_MEASURE_DONE: a reference measurement that runs ends (R189): with its result, or with NOCLK after 10 ms without
an edge on REFCAL_CLK. -/
def refDone (r : RefDone) (d : Dev) : Dev :=
  let overDue := fun d => wr GLB_REFCTL_BUSY (rd GLB_REFCTL_CGO d ||| rd GLB_REFCTL_VGO d) d
  match r with
  | .clock c =>
    if isSet GLB_REFCTL_CGO d then overDue (wrs [(GLB_REFCNT_COUNT, c), (GLB_REFCTL_DONE, 1), (GLB_REFCTL_CGO, 0)] d) else d
  | .noClock => if isSet GLB_REFCTL_CGO d then overDue (wrs [(GLB_REFCTL_NOCLK, 1), (GLB_REFCTL_CGO, 0)] d) else d
  | .volt v => if isSet GLB_REFCTL_VGO d then overDue (wrs [(GLB_REFCTL_V, v), (GLB_REFCTL_DONE, 1), (GLB_REFCTL_VGO, 0)] d) else d

def execRefMeasureDone (r : RefDone) (s : State) : Out := onDev (refDone r) s

end Sys2Proof.Machine
end

