-- ==== Sys2Proof/Machine/Recorder.lean ====
section
/-!
DEFINITION. Machine/Recorder.lean: the event recorder (R328 to R341, R417): the scan of the NOR partition, appends and
the overwrite rules, the counter area, reading, firmware records, and what the NOR controller refuses.
-/
namespace Sys2Proof.Machine

def onRec (f : Recorder → Recorder) (d : Dev) : Dev := { d with recd := f d.recd }

/-- A valid record of the log: slot and record (R334). -/
structure Found where
  slot : Nat
  seq : Nat
  pcc : Nat
  ops : Nat
  sev : Nat
  code : Nat
  payload : List Nat
  deriving DecidableEq, Repr

/-- Insert a record into a list that rises by a key; sort by a key. -/
def insBy (key : Found → Nat) (f : Found) : List Found → List Found
  | [] => [f]
  | g :: l => if key f ≤ key g then f :: g :: l else g :: insBy key f l

def sortBy (key : Found → Nat) (l : List Found) : List Found := l.foldr (insBy key) []

/-- The slots that hold a record with mark and correct CRC. -/
def validSlots (x : Recorder) : List Found :=
  x.slots.filterMap (fun p => match p.2 with
    | .valid seq pcc ops sev code pay => some ⟨p.1, seq, pcc, ops, sev, code, pay⟩
    | _ => none)

/-- The records of the log in ascending SEQ: of two with one SEQ the copy in the lower block counts (R334). -/
def logRecs (x : Recorder) : List Found :=
  let l := validSlots x
  sortBy Found.seq (l.filter (fun f => !l.any (fun g => g.seq == f.seq && decide (g.slot < f.slot))))

/-- Blocks of the record area; a block that is always out of use: none is the spare (R328). -/
def logBlocks (x : Recorder) : Nat := (x.size - 0x10000) / 0x1000
def noBlock : Nat := 0x10000

/-- Record slots after retired blocks (R328, R340). -/
def logCap (x : Recorder) : Nat := (x.size - 69632) / 64 - 64 * x.retired.length

/-- The block may take appends: neither the spare nor retired. -/
def blockUsable (x : Recorder) (b : Nat) : Bool := b != x.spare && !x.retired.contains b

def slotFree (x : Recorder) (s : Nat) : Bool := Store.get .free s x.slots == .free

/-- The slot of the next append (R335): the lowest free slot of the block that holds the newest record, then of the next
blocks in ascending order, wrapping. `bad` is left out. -/
def nextSlot (x : Recorder) (bad : Option Nat) : Option Nat :=
  let n := logBlocks x
  let b0 := x.newest / 64
  (List.range n).findSome? (fun k =>
    let b := (b0 + k) % n
    if blockUsable x b then
      ((List.range 64).map (fun j => 64 * b + j)).find? (fun s => slotFree x s && bad != some s)
    else none)

/-- The registers that describe the log follow (R341). -/
def logStats (d : Dev) : Dev :=
  let l := logRecs d.recd
  wrs [(LOG_COUNT_PRESENT, l.length), (LOG_OLDEST_SEQ, (l.head?.map Found.seq).getD 0), (LOG_CAP_CAP, logCap d.recd)] d

/-- Operating seconds now (R329). -/
def opsNow (d : Dev) : Nat := d.recd.ops + (d.time - d.recd.opsFrom) / 125000000

/-! ## Scan -/

/-- Erase block `b`. -/
def eraseBlock (b : Nat) (x : Recorder) : Recorder := { x with slots := Store.cut (64 * b) (64 * b + 64) x.slots }

/-- The block holds no record of the log and has no free slot (R334). -/
def blockDead (x : Recorder) (b : Nat) : Bool :=
  !(logRecs x).any (fun f => f.slot / 64 == b) && (List.range 64).all (fun j => !slotFree x (64 * b + j))

def blockErased (x : Recorder) (b : Nat) : Bool := !x.slots.any (fun p => p.1 / 64 == b)

/-- The counts at the scan (R329): from the valid entry with the highest power-cycle count, and among those the highest
operating seconds; one more power cycle after a power-up. An entry with count 0 stands for one that is torn. -/
def countsFound (x : Recorder) : Nat × Nat :=
  x.counters.foldl (fun b p => match p.2 with
    | some e => if e.pcc = 0 then b else if b.1 < e.pcc ∨ (e.pcc = b.1 ∧ b.2 < e.ops) then (e.pcc, e.ops) else b
    | none => b) (0, 0)

/-- LOG_SCAN: the recorder reads the partition that the directory names and classifies every slot (R328, R329, R334).
Blocks that hold nothing are erased; the spare is the erased block with the highest number, a choice the spec leaves open
(DESIGN CHOICE, notes/assumptions/56). A 0x0302 record sets compatibility mode for good (R336). -/
def logScan (d : Dev) : Dev :=
  if !d.recd.dirOk || isSet LOG_STAT_SCANNING d || isSet LOG_STAT_NOERASE d || (page pgLog d).ready then d
  else
    let x := { d.recd with fixed := true }
    let c := countsFound x
    let pcc := if isSet PWS_RSTSTAT_POR d ∨ c.1 = 0 then c.1 + 1 else c.1
    let last := (x.counters.getLast?.map (fun p => p.1 + 1)).getD 0
    let torn := (x.slots.filter (fun p => p.2 == .torn)).length
    let bad := (x.slots.filter (fun p => p.2 == .corrupt)).length
    let x := (List.range (logBlocks x)).foldl (fun x b => if blockDead x b then eraseBlock b x else x) x
    let er := (List.range (logBlocks x)).filter (fun b => blockErased x b && !x.retired.contains b)
    let l := logRecs x
    let x := { x with
      counted := true, pcc := pcc, ops := c.2, opsFrom := 0, ctrDue := true, ctrNext := last % 4096,
      spare := er.getLast?.getD noBlock, newest := (l.getLast?.map Found.slot).getD 0 }
    let d := wrs [(LOG_STAT_SCANNING, 1), (LOG_SCAN_TORN, min 0xFFFF torn), (LOG_SCAN_CRCBAD, min 0xFFFF bad),
      (LOG_PWRCYC_PCC, pcc), (LOG_SEQ_NEXT, (l.getLast?.map (fun f => f.seq + 1)).getD 1)] { d with recd := x }
    let d := if (l.getLast?.map Found.seq) = some 0xFFFFFFFE then wr LOG_STAT_STOPPED 1 d else d
    match l.find? (fun f => f.code == 0x302) with
    | some f => wrs [(LOG_CTL_MODE, 1), (LOG_KITTY_COUNT, leNat (f.payload.take 4))]
        (onRec (fun x => { x with kittyFrom := leNat ((f.payload.drop 4).take 4) }) d)
    | none => d

/-- LOG_SCAN. -/
def execLogScan (s : State) : Out := onDev logScan s

/-- LOG_SCAN_DONE: READY, the 0x0300 record and LOG event bit 0 (R332, R333, R334). -/
def scanDone (d : Dev) : Dev :=
  if !isSet LOG_STAT_SCANNING d then d
  else
    let l := logRecs d.recd
    let pay := leBytes l.length 4 ++ leBytes (rd LOG_SCAN_TORN d) 4 ++ leBytes (rd LOG_SCAN_CRCBAD d) 4
      ++ leBytes ((l.getLast?.map Found.seq).getD 0) 4 ++ List.replicate 24 0
    raise pgLog 0 (queueRec ⟨0x300, 1, pay⟩ (logStats (setReady pgLog true (wr LOG_STAT_SCANNING 0 d))))

/-- LOG_SCAN_DONE. -/
def execLogScanDone (s : State) : Out := onDev scanDone s

/-! ## Appending -/

/-- The record that goes next: the oldest, after a power-loss notice the oldest of the highest severity (R340). -/
def nextRec (d : Dev) : Option Nat :=
  let q := d.recd.queue
  if q.isEmpty then none
  else if d.deal.ploss then
    let top := (q.map LogRec.sev).foldl max 0
    (List.range q.length).find? (fun k => (q[k]?).any (fun r => r.sev == top))
  else some 0

/-- The kitty (R336): the first LOG_KITTY valid records in SEQ order from KITTYSTART. -/
def kitty (d : Dev) : List Nat :=
  (((logRecs d.recd).filter (fun f => decide (d.recd.kittyFrom ≤ f.seq))).take (rd LOG_KITTY_COUNT d)).map Found.seq

/-- The record that a new record of severity `sev` replaces in a full log (R336). -/
def logVictim (sev : Nat) (d : Dev) : Option Found :=
  let l := logRecs d.recd
  if isSet LOG_CTL_MODE d then
    let k := kitty d
    l.find? (fun f => !k.contains f.seq && f.code != 0x302)
  else l.find? (fun f => decide (f.sev ≤ sev) && decide (f.sev < 4))

/-- A record is dropped (R335, R336). -/
def dropRec (d : Dev) : Dev := raiseDrop (onRec (fun x => { x with drops := min 0xFFFFFFFF (x.drops + 1) }) d)

/-- Begin to append record `r` with the next SEQ, at a slot other than `bad`; a full log replaces a victim or drops the
record. -/
def placeRec (r : LogRec) (bad : Option Nat) (d : Dev) : Dev :=
  let seq := rd LOG_SEQ_NEXT d
  let again := bad.isSome
  match nextSlot d.recd bad with
  | some s => onRec (fun x => { x with nor := some (.body s seq x.pcc (opsNow d) r again) }) d
  | none =>
    match if d.recd.spare = noBlock then none else logVictim r.sev d with
    | some v => wr LOG_STAT_COPYING 1
        (onRec (fun x => { x with nor := some (.copy (v.slot / 64) v.slot seq x.pcc (opsNow d) r again) }) d)
    | none => dropRec d

/-- LOG_APPEND: the recorder starts its next NOR operation: a counter entry that is due first, as soon as the counts are
established, then the next queued record once the scan has ended (R329, R331, R334). -/
def logAppend (d : Dev) : Dev :=
  let x := d.recd
  if x.nor.isSome || isSet LOG_STAT_NOERASE d then d
  else if x.ctrDue && x.counted then onRec (fun x => { x with ctrDue := false, nor := some (.counter false) }) d
  else if !(page pgLog d).ready || isSet LOG_STAT_STOPPED d then d
  else
    match nextRec d with
    | none => d
    | some k =>
      match x.queue[k]? with
      | none => d
      | some r => placeRec r none (onRec (fun x => { x with queue := x.queue.eraseIdx k }) d)

/-- LOG_APPEND. -/
def execLogAppend (s : State) : Out := onDev logAppend s

/-- The slot content of a complete record. -/
def slotOfRec (seq pcc ops : Nat) (r : LogRec) : LogSlot := .valid seq pcc ops r.sev r.code r.payload

/-- A record has been written completely (R331): SEQ advances; the last one stops the recorder. -/
def appended (slot seq : Nat) (d : Dev) : Dev :=
  let d := logStats (wr LOG_SEQ_NEXT (seq + 1) (onRec (fun x => { x with newest := slot, nor := none }) d))
  if seq = 0xFFFFFFFE then raise pgLog 3 (wr LOG_STAT_STOPPED 1 d) else d

/-- The valid records of block `b` but `victim`, as they will stand in another block from its first slot on. -/
def copyOut (b victim to' : Nat) (x : Recorder) : List (Nat × LogSlot) :=
  (sortBy Found.slot ((logRecs x).filter (fun f => f.slot / 64 == b && f.slot != victim))).zipIdx.map
    (fun p => (64 * to' + p.2, .valid p.1.seq p.1.pcc p.1.ops p.1.sev p.1.code p.1.payload))

def putSlots (l : List (Nat × LogSlot)) (x : Recorder) : Recorder :=
  { x with slots := l.foldl (fun m p => Store.put .free p.1 p.2 m) x.slots }

/-- The lasting action of the LOG class (R340): block `b` is retired, its valid records copied out into the spare, and
another erased block becomes the spare. -/
def retireBlock (b : Nat) (d : Dev) : Dev :=
  let x := d.recd
  if x.retired.contains b then d
  else
    let x := if b = x.spare then { x with spare := noBlock }
      else if x.spare = noBlock then x
      else { eraseBlock b (putSlots (copyOut b noRec x.spare x) x) with spare := noBlock }
    let x := { x with retired := x.retired ++ [b] }
    let x := if x.spare = noBlock then
        { x with spare := (((List.range (logBlocks x)).filter (fun k => blockErased x k && !x.retired.contains k)).getLast?).getD noBlock }
      else x
    raise pgLog 4 (logStats { d with recd := x })

/-- A NOR operation on block `b` of the record area fails (R340): one error of the LOG class, LOG event bit 3.
A failure outside the record area (a counter entry) leaves the lasting action no block: LOG event bit 4 alone. -/
def norFailed (b : Option Nat) (d : Dev) : Dev :=
  raise pgLog 3 (errClass pgLog (fun d => match b with | some b => retireBlock b d | none => raise pgLog 4 d) d)

/-- NOR_OPERATION_DONE: the program or erase in progress ends well or fails (R331, R336, R340). -/
def norDone (ok : Bool) (d : Dev) : Dev :=
  let put := fun (s : Nat) (v : LogSlot) (d : Dev) => onRec (fun x => { x with slots := Store.put .free s v x.slots }) d
  let idle := onRec (fun x => { x with nor := none })
  match d.recd.nor with
  | none => d
  | some (.body s seq pcc ops r again) =>
    let d := put s .torn d
    if ok then onRec (fun x => { x with nor := some (.mark s seq pcc ops r again) }) d
    else
      let d := norFailed (some (s / 64)) (idle d)
      if again then dropRec d else placeRec r (some s) d
  | some (.mark s seq pcc ops r again) =>
    if ok then appended s seq (put s (slotOfRec seq pcc ops r) d)
    else
      let d := norFailed (some (s / 64)) (idle d)
      if again then dropRec d else placeRec r (some s) d
  | some (.copy b v seq pcc ops r again) =>
    let sp := d.recd.spare
    let d := wr LOG_STAT_COPYING 0 (idle d)
    if ok then
      let l := copyOut b v sp d.recd
      let s := 64 * sp + l.length
      let d := onRec (fun x => { eraseBlock b (putSlots (l ++ [(s, slotOfRec seq pcc ops r)]) x) with spare := b }) d
      raise pgLog 2 (appended s seq d)
    else
      let d := norFailed (some sp) d
      if again then dropRec d else placeRec r (some noRec) d
  | some (.counter again) =>
    let i := d.recd.ctrNext
    let e : CounterEntry := if ok then ⟨d.recd.pcc, opsNow d⟩ else ⟨0, 0⟩
    let nxt := (i + 1) % 4096
    let d := onRec (fun x =>
      let m := Store.put none i (some e) x.counters
      { x with ctrNext := nxt, counters := if nxt % 2048 = 0 then Store.cut nxt (nxt + 2048) m else m }) (idle d)
    if ok then d
    else
      let d := norFailed none d
      if again then d else onRec (fun x => { x with nor := some (.counter true) }) d

/-- NOR_OPERATION_DONE. -/
def execNorOperationDone (ok : Bool) (s : State) : Out := onDev (norDone ok) s

/-- COUNTER_ENTRY_TICK: 60 s of powered time have passed since the last counter entry (R329). -/
def execCounterEntryTick (s : State) : Out := onDev (onRec (fun x => { x with ctrDue := true })) s

/-! ## Overwrite mode -/

/-- COMPAT_MODE_FIX: a write of 1 to LOG_CTL.MODE (R336). -/
def compatFix (d : Dev) : Dev :=
  let h := page pgLog d
  if isSet LOG_CTL_MODE d || !h.ready || h.lock then d
  else
    let wait := d.recd.queue.length + (match d.recd.nor with | none | some (.counter _) => 0 | _ => 1)
    let start := ((logRecs d.recd).head?.map Found.seq).getD (rd LOG_SEQ_NEXT d + wait)
    let d := wr LOG_CTL_MODE 1 (onRec (fun x => { x with kittyFrom := start }) d)
    queueRec ⟨0x302, 4, leBytes (rd LOG_KITTY_COUNT d) 4 ++ leBytes start 4 ++ List.replicate 32 0⟩ d

/-- COMPAT_MODE_FIX. -/
def execCompatModeFix (s : State) : Out := onDev compatFix s

/-- A write of LOG_KITTY (R336): 1 to half of LOG_CAP, in native mode, once the scan has ended and unlocked. -/
def kittyWrite (v : Nat) (d : Dev) : Dev :=
  let h := page pgLog d
  let n := bits v 0 17
  if isSet LOG_CTL_MODE d || !h.ready || h.lock || n == 0 || decide (rd LOG_CAP_CAP d / 2 < n) then d
  else wr LOG_KITTY_COUNT n d

/-! ## Reading and firmware -/

/-- The 64 bytes of a record (R330). -/
def recBytes (f : Found) : List Nat :=
  let bs := leBytes f.seq 4 ++ leBytes f.pcc 4 ++ leBytes f.ops 5 ++ [f.sev] ++ leBytes f.code 2
    ++ (f.payload ++ List.replicate 40 0).take 40
  bs ++ leBytes (crc32c bs) 4 ++ [0, 0, 0, 0xA5]

/-- LOG_READ: a write of LOG_RDSEQ (R338). The copy is made at once. -/
def logRead (v : Nat) (d : Dev) : Dev :=
  if isSet LOG_RDSTAT_BUSY d then d
  else
    let d := wr LOG_RDSEQ_SEQ v d
    match (logRecs d.recd).find? (fun f => decide (rd LOG_RDSEQ_SEQ d ≤ f.seq)) with
    | some f =>
      let bs := recBytes f
      raise pgLog 6 (wr LOG_RDSTAT_DONE 1
        (each 16 (fun w d => wr (LOG_RDDATA_DATA w) (leNat ((bs.drop (4 * w)).take 4)) d) d))
    | none => raise pgLog 6 (wr LOG_RDSTAT_NONE 1 d)

/-- LOG_READ. -/
def execLogRead (v : Nat) (s : State) : Out := onDev (logRead v) s

/-- LOG_OPSEC_READ: a read of LOG_OPSECL latches LOG_OPSECH (R329). -/
def opsecRead (d : Dev) : Dev :=
  let t := opsNow d
  let d := wrs [(LOG_OPSECL_OPS, t), (LOG_OPSECH_OPS, t / 2 ^ 32)] (onRec (fun x => { x with opsHigh := t / 2 ^ 32 }) d)
  { d with rdata := t % 2 ^ 32 }

/-- LOG_OPSEC_READ. -/
def execLogOpsecRead (s : State) : Out := onDev opsecRead s

/-- FIRMWARE_LOG_APPEND: a write of LOG_FWCTL (R335, R341). -/
def firmwareLog (v : Nat) (d : Dev) : Dev :=
  let d := wr LOG_FWCTL_CODE (bits v 0 16) d
  let d := if bits v 16 3 ≤ 4 then wr LOG_FWCTL_SEV (bits v 16 3) d else d
  let d := if bitOf v 25 then wr LOG_FWCTL_REFUSED 0 d else d
  if !bitOf v 24 then d
  else if rd LOG_FWCTL_CODE d < 0x1000 then raise pgLog 5 (wr LOG_FWCTL_REFUSED 1 d)
  else
    let pay := (List.range 10).flatMap (fun w => leBytes (rd (LOG_FWDATA_DATA w) d) 4)
    queueRec ⟨rd LOG_FWCTL_CODE d, rd LOG_FWCTL_SEV d, pay⟩ d

/-- FIRMWARE_LOG_APPEND. -/
def execFirmwareLogAppend (v : Nat) (s : State) : Out := onDev (firmwareLog v) s

/-- NOR_ACCESS_REFUSED: a source other than the recorder asks to program bytes from `a` on, or (no bytes) to erase `n`
bytes (R337). What is refused raises LOG event bit 5; NOR contents outside the partition are no state of the device. -/
def norAccess (a n : Nat) (prog : Option (List Nat)) (d : Dev) : Dev :=
  let x := d.recd
  let len := (prog.map List.length).getD n
  let part := x.fixed && meets (a, a + len) (x.base, x.base + x.size)
  let want := leBytes x.base 4 ++ leBytes x.size 4
  let dir := match prog with
    | none => false
    | some bs => x.fixed && [0, 0x1000].any (fun c => (List.range 8).any (fun k =>
        let p := c + 20 + k
        decide (a ≤ p) && decide (p < a + len) && bs.getD (p - a) 0 != want.getD k 0))
  if part || dir then raise pgLog 5 d else d

/-- NOR_ACCESS_REFUSED. -/
def execNorAccessRefused (a n : Nat) (prog : Option (List Nat)) (s : State) : Out := onDev (norAccess a n prog) s

/-! ## Host commands that firmware serves -/

/-- The submission entry of a command that firmware holds. -/
def firmwareEntry (i op : Nat) (d : Dev) : Dev × Option (List Nat) :=
  match ctx i d with
  | some x => if x.admin && x.opcode == op && x.stage == .firmware then memRead (ctxAddr i 0 d) 64 d else (d, none)
  | none => (d, none)

/-- SET_FEATURES_TIMESTAMP: firmware serves Set Features, feature 0x0E, of context `i` with the 8 bytes of its data (R332,
R333). -/
def setTimestamp (i : Nat) (data : List Nat) (d : Dev) : Dev :=
  let g := firmwareEntry i 9 d
  match g.2 with
  | some se =>
    if se.getD 40 0 = 0x0E then
      queueRec ⟨0x301, 0, (data ++ List.replicate 8 0).take 7 ++ [1] ++ List.replicate 32 0⟩ g.1
    else g.1
  | none => g.1

/-- SET_FEATURES_TIMESTAMP. -/
def execSetFeaturesTimestamp (i : Nat) (data : List Nat) (s : State) : Out := onDev (setTimestamp i data) s

/-- The bytes of log page 0xC8 from SEQ `seq` on, at most `len` (R339). -/
def logPage (seq len : Nat) (d : Dev) : List Nat :=
  let l := logRecs d.recd
  let some' := (l.filter (fun f => decide (seq ≤ f.seq))).take ((len - 64) / 64)
  let head := leBytes ((l.head?.map Found.seq).getD 0) 4 ++ leBytes ((l.getLast?.map Found.seq).getD 0) 4
    ++ leBytes l.length 4 ++ leBytes d.recd.drops 4 ++ [rd LOG_CTL_MODE d, 0] ++ leBytes (rd LOG_KITTY_COUNT d) 2
    ++ leBytes some'.length 4 ++ List.replicate 40 0
  (head ++ some'.flatMap recBytes).take len

/-- GET_LOG_PAGE_C8: firmware serves Get Log Page 0xC8 of context `i` into the host memory `spans` that the command names;
the Log Page Offset is the first SEQ (R339). The completion follows with FIRMWARE_COMPLETION. -/
def getLogPage (i : Nat) (spans : List (Nat × Nat)) (d : Dev) : Dev :=
  let g := firmwareEntry i 2 d
  match g.2 with
  | some se =>
    if se.getD 40 0 = 0xC8 then
      let len := 4 * (leNat ((se.drop 42).take 4) + 1)
      (spans.foldl (fun (st : Dev × List Nat) p => (sendBytes p.1 (st.2.take p.2) st.1, st.2.drop p.2))
        (g.1, logPage (leNat ((se.drop 48).take 8)) len g.1)).1
    else g.1
  | none => g.1

/-- GET_LOG_PAGE_C8. -/
def execGetLogPageC8 (i : Nat) (spans : List (Nat × Nat)) (s : State) : Out := onDev (getLogPage i spans) s

end Sys2Proof.Machine
end

