-- ==== Sys2Proof/Machine/Scrub.lean ====
section
/-!
DEFINITION. Machine/Scrub.lean: the scrubber (R298 to R300): a scrub read of one line, what follows from a new
uncorrectable error by what the line holds, the restoring of a poisoned copy, and self-refresh (R297, R356).
-/
namespace Sys2Proof.Machine

/-- Flip the bits of a line that `flips` names: word, data bits, check bits. -/
def flipWords (flips : List (Nat × Nat × Nat)) (ws : List Cw) : List Cw :=
  ws.zipIdx.map (fun p => flips.foldl (fun v f =>
    if f.1 = p.2 then ⟨v.d ^^^ BitVec.ofNat 64 f.2.1, v.c ^^^ BitVec.ofNat 8 f.2.2⟩ else v) p.1)

/-- The words of a line as they stand now, wherever its newest copy is: hub cache, victim buffer or home. -/
def lineNow (ln : Nat) (d : Dev) : List (Option Cw) :=
  match (findWay ln d).bind (fun w => wayLine (setOf ln d).1 w d) with
  | some l => l.ws.map some
  | none =>
    match (vbFind ln d).bind (fun k => d.cache.vb[k]?) with
    | some e => e.line.ws.map some
    | none => homeLine ln d

/-- The line cannot be used: it is poisoned or holds an uncorrectable word (R290). -/
def lineBad (ln : Nat) (d : Dev) : Bool :=
  match lineClass ln (lineNow ln d) with
  | .ok _ => false
  | _ => true

/-- A data-loss event (R299, R333): a severity-4 record, DATALOSS, and both copies of the block are gone. What goes to the
media in its place is zero content with the reference tag inverted, as R204 and R381 do for a block that nothing supplies.
DEDUCED, notes/assumptions/55. -/
def dataLoss (b : Blk) (d : Dev) : Dev :=
  let pay := leBytes (rd MEP_ERRLOG0_ADDR d) 4
    ++ leBytes (wordOf [MEP_ERRLOG1_SYND, MEP_ERRLOG1_MEM, MEP_ERRLOG1_SCRUB, MEP_ERRLOG1_WORD] d) 4
    ++ [b.ns, 0, 0, 0] ++ leBytes b.lba 8
  let md := [0, 0, 0, 0] ++ leBytes (2 ^ 32 - 1 - tagOf b.md) 4 ++ List.replicate 8 0
  let d := wr GLB_HEALTH_DATALOSS 1 (raiseRec pgMep 6 4 pay (bumpEv pgMep MEP_RESTCNT_LOST 9 1 d))
  setBlks (d.deal.blks.map (fun x => if x = b then { b with c1 := .lost, c2 := .lost, md := md } else x)) d

/-- The accepted block one of whose copies holds line `ln`, and the same line of the other copy (none: that copy is
lost). -/
def copyLine (ln : Nat) (d : Dev) : Option (Blk × Option Nat) :=
  let a := ln * 128
  let other := fun (p : Nat) (c : Copy) => match c with | .at q => some ((q + (a - p)) / 128) | .lost => none
  d.deal.blks.findSome? (fun b =>
    if !b.accepted then none
    else
      match b.c1, b.c2 with
      | .at p, c => if inSpan a (p, p + 4096) then some (b, other p c)
          else match c with
            | .at q => if inSpan a (q, q + 4096) then some (b, other q b.c1) else none
            | .lost => none
      | .lost, .at q => if inSpan a (q, q + 4096) then some (b, none) else none
      | .lost, .lost => none)

/-- What follows from a new uncorrectable error in line `ln` by what the line holds (R299): both copies of accepted data
gone is a data-loss event; an entry of the read cache is dropped. One copy is restored later (COPY_RESTORE). -/
def lineLost (ln : Nat) (d : Dev) : Dev :=
  match copyLine ln d with
  | some (b, other) => if other.all (fun o => lineBad o d) then dataLoss b d else d
  | none =>
    let f0 := rcFrame 0 d
    if rcOn d && decide (f0 ≤ ln * 128) && decide (ln * 128 < f0 + 4096 * rcFrames d) then
      rcClear ((ln * 128 - f0) / 4096) d
    else d

/-- The scrubber pauses on a memory that is gated or in self-refresh (R298). -/
def scrubPaused (k : MemKind) (d : Dev) : Bool :=
  match k with
  | .buffer => d.redirect
  | .sdram => isSet DRC_STAT_SREF d
  | .hubCache | .local => false

/-- A write-back of the scrubber reaches the hub: no D-cache keeps the line (R44). -/
def scrubbed (ln : Nat) (d : Dev) : Dev := dInval ln none d

/-- A scrub read of a line at its home (R298, R299). A line found poisoned is left (R300); one that nothing has written is
skipped in the buffer store. -/
def scrubHome (ln : Nat) (flips : List (Nat × Nat × Nat)) (d : Dev) : Dev :=
  match memKind (ln * 128) d with
  | none => d
  | some k =>
    let ws := homeLine ln d
    if scrubPaused k d || !memUp (ln * 128) d || (k == .buffer && ws.any Option.isNone) then d
    else
      let d := if ws.all Option.isSome then homeWrite ln (flipWords flips (ws.filterMap id)) d else d
      match lineClass ln (homeLine ln d) with
      | .poisoned => d
      | .ok n => if n = 0 then d else scrubbed ln (homeWrite ln (fixLine ln (homeLine ln d)) (noteFixed k n d))
      | .newError _ _ => lineLost ln (scrubbed ln (homeRead ln true d).1)

/-- A scrub read of a valid hub-cache line (R298, R299): a clean line with a new uncorrectable error is dropped. -/
def scrubWay (row w : Nat) (flips : List (Nat × Nat × Nat)) (d : Dev) : Dev :=
  match wayLine row w d with
  | none => d
  | some l =>
    let l := { l with ws := flipWords flips l.ws }
    let d := setWay row w (some l) d
    match lineClass l.ln (l.ws.map some) with
    | .poisoned => d
    | .ok n => if n = 0 then d
        else scrubbed l.ln (setWay row w (some { l with ws := fixLine l.ln (l.ws.map some) }) (noteFixed .hubCache n d))
    | .newError k s =>
      let d := noteError .hubCache w l.ln k s true d
      if (wayLine row w d).isNone then d
      else if l.dirty then
        lineLost l.ln (scrubbed l.ln (setWay row w (some { l with ws := poisonLine l.ln (l.ws.map some) }) d))
      else setWay row w none d

/-- A scrub read of a victim-area line (R298, R299): a line with a new uncorrectable error is dropped. Where the line
stands in the area is not given, so the 1 MiB block that a promotion fences is a free value. -/
def scrubArea (ln : Nat) (flips : List (Nat × Nat × Nat)) (d : Dev) : Dev :=
  match Store.get none ln d.cache.areas with
  | none => d
  | some (b, ws) =>
    if scrubPaused .buffer d || !dieUp (.buf b) d then d
    else
      let ws := flipWords flips ws
      let put := fun (x : Option (Nat × List Cw)) (d : Dev) =>
        { d with cache := { d.cache with areas := Store.put none ln x d.cache.areas } }
      match lineClass ln (ws.map some) with
      | .poisoned => d
      | .ok n => put (some (b, fixLine ln (ws.map some))) (noteFixed .buffer n (if n = 0 then d else scrubbed ln d))
      | .newError k s =>
        let d := put none (wrs [(MEP_ERRLOG0_ADDR, ln * 16 + k), (MEP_ERRLOG1_SYND, s),
          (MEP_ERRLOG1_MEM, MemKind.buffer.code), (MEP_ERRLOG1_SCRUB, 1), (MEP_ERRLOG1_WORD, k)] d)
        let d := raise pgMep 1 (bumpEv pgMep MEP_UECNT_SRAM 9 1 d)
        errClass pgBuf (fun d =>
          let r := draw d
          let v := victimArea b r.1
          fenceBlock (v.1 + r.2 % max 1 (v.2 - v.1)) r.1) d

/-- SCRUB_READ: the scrubber reads one line; `flips` are the bits of it that have changed since it was written. -/
def scrubRead (p : ScrubAt) (flips : List (Nat × Nat × Nat)) (d : Dev) : Dev :=
  if !isSet MEP_SCRCTL_EN d then d
  else
    match p with
    | .home ln => scrubHome ln flips d
    | .way row w => scrubWay row w flips d
    | .area ln => scrubArea ln flips d

/-- SCRUB_READ. -/
def execScrubRead (p : ScrubAt) (flips : List (Nat × Nat × Nat)) (s : State) : Out := onDev (scrubRead p flips) s

/-- COPY_RESTORE: the poisoned lines of the copy at `a` are written again from the other copy (R299); where the other copy
is bad as well, the write becomes a data-loss event (R300). -/
def copyRestore (a : Nat) (d : Dev) : Dev :=
  let bad := (List.range 32).filter (fun k => lineBad (a / 128 + k) d && (copyLine (a / 128 + k) d).isSome)
  if a % 4096 ≠ 0 ∨ bad.isEmpty = true ∨ !memUp a d then d
  else
    match copyLine (a / 128) d with
    | none => d
    | some (b, _) =>
      let src := fun k => ((copyLine (a / 128 + k) d).bind (fun x => x.2))
      if bad.any (fun k => (src k).all (fun o => lineBad o d)) then dataLoss b d
      else
        let d := bad.foldl (fun d k =>
          match src k with
          | some o => let r := lineRead o d; lineStore (a / 128 + k) (moveLine o (a / 128 + k) (r.2.1.map some)) none r.1
          | none => d) d
        raise pgMep 5 (bumpEv pgMep MEP_RESTCNT_RESTORED 9 1 d)

/-- COPY_RESTORE. -/
def execCopyRestore (a : Nat) (s : State) : Out := onDev (copyRestore a) s

/-- SELF_REFRESH_ENTRY: in PS3 no access has been pending for 10 µs (R356). -/
def selfRefresh (d : Dev) : Dev :=
  if rd PWS_PSSTAT_STATE d = 3 then wr DRC_STAT_SREF 3 d else d

/-- SELF_REFRESH_ENTRY. -/
def execSelfRefreshEntry (s : State) : Out := onDev selfRefresh s

end Sys2Proof.Machine
end

