-- ==== Sys2Proof/Machine/Thermal.lean ====
section
/-!
DEFINITION. Machine/Thermal.lean: the thermal manager (R342 to R354): conversion, validity and substitution, the
thresholds and their actions, hold, exclusion and the latched shutdown.
-/
namespace Sys2Proof.Machine

def onThm (f : Thermal → Thermal) (d : Dev) : Dev := { d with thm := f d.thm }

/-! ## Sensors -/

/-- The die that holds sensor `n` (R342). -/
def sensorDie (n : Nat) : Die :=
  if n < 12 then .hub else if n < 36 then .arm ((n - 12) / 6) else if n < 44 then .power else .buf ((n - 44) / 2)

/-- The sensors of a die (R342). -/
def dieSensors (x : Die) : List Nat := (List.range 48).filter (fun n => sensorDie n == x)

/-- The dies with the bit each has in THM_STAT.DIESUB (R355). -/
def thermalDies : List (Die × Nat) :=
  [(.hub, 0), (.power, 1), (.arm 0, 2), (.arm 1, 3), (.arm 2, 4), (.arm 3, 5), (.buf 0, 6), (.buf 1, 7)]

/-- The sensor converts: its die is fitted, powered and its link is up (R345). -/
def sensing (n : Nat) (d : Dev) : Bool := fitted (sensorDie n) d && dieUp (sensorDie n) d

/-- N_c times 10^8 (R343). -/
def countTrimmed (N : Nat) (d : Dev) : Int := N * (100000000 + rdInt GLB_TRIM_CLKTRIM d)

/-- T of sensor `n` for the raw count `N` in units of 0.25 °C, rounded to nearest with halves up (R343, steps 1 to 4). -/
def sensorTemp (n N : Nat) (d : Dev) : Int :=
  let num := (countTrimmed N d - 4000000000000) * (1000000 + rdInt (THM_TSTRIM_SLOPE n) d)
  let den : Int := 1600000000000000
  100 + Int.fdiv (2 * num + den) (2 * den) + rdInt (THM_TSTRIM_OFFSET n) d

/-- The override in force for sensor `n`: the highest k that names it; without CRIT at most 124.75 °C (R390, R391). -/
def override (n : Nat) (d : Dev) : Option Int :=
  (((List.range 4).filter (fun k => isSet (TST_THMOVR_EN k) d && rd (TST_THMOVR_SENSOR k) d == n)).getLast?).map (fun k =>
    let t := rdInt (TST_THMOVR_TEMP k) d
    if isSet (TST_THMOVR_CRIT k) d then t else min t 499)

/-- T of sensor `n` with overrides applied; an override of an excluded sensor has no effect (R391). -/
def tempNow (n N : Nat) (d : Dev) : Int :=
  let t := sensorTemp n N d
  if isSet (THM_TS_EXCL n) d then t else (override n d).getD t

/-- Sensor `n` converts to count `N` (R343, R345): T saturates at the ends of its field. -/
def convert (n N : Nat) (d : Dev) : Dev :=
  if !fitted (sensorDie n) d then d
  else if sensing n d then
    let run := if rd (THM_TS_RAW n) d = N ∧ 0 < Store.get 0 n d.thm.same then Store.get 0 n d.thm.same + 1 else 1
    onThm (fun x => { x with same := Store.put 0 n run x.same })
      (wrInt (THM_TS_TEMP n) (clampInt (-2048) 2047 (tempNow n N d)) (wrs [(THM_TS_ABSENT n, 0), (THM_TS_RAW n, N)] d))
  else
    onThm (fun x => { x with
      same := Store.put 0 n 0 x.same, badRun := Store.put 0 n 0 x.badRun, goodRun := Store.put 0 n 0 x.goodRun })
      (wrs [(THM_TS_ABSENT n, 1), (THM_TS_VALID n, 0)] d)

/-- Insert a number into a rising list; sort. -/
def insInt (x : Int) : List Int → List Int
  | [] => [x]
  | y :: l => if x ≤ y then x :: y :: l else y :: insInt x l

def sortInts (l : List Int) : List Int := l.foldr insInt []

/-- Twice the median of a list; of an even number of values the mean of the middle two. -/
def median2 (l : List Int) : Int :=
  let s := sortInts l
  s.getD ((s.length - 1) / 2) 0 + s.getD (s.length / 2) 0

/-- Sensor `n` passes the checks of R344 that concern it alone: range of T_u, a count that moves, no saturation. -/
def soundAlone (n : Nat) (d : Dev) : Bool :=
  let N := rd (THM_TS_RAW n) d
  let nc := countTrimmed N d
  let t := tempNow n N d
  sensing n d && !isSet (THM_TS_EXCL n) d && decide (3488000000000 ≤ nc) && decide (nc ≤ 4960000000000)
    && decide (Store.get 0 n d.thm.same < 16) && decide (-2048 ≤ t) && decide (t ≤ 2047)

def tempReg (n : Nat) (d : Dev) : Int := rdInt (THM_TS_TEMP n) d

/-- T lies within 10 °C of the median of the other sensors of its die, as far as those pass their own checks (R344). -/
def agrees (n : Nat) (d : Dev) : Bool :=
  let others := (dieSensors (sensorDie n)).filter (fun m => m != n && soundAlone m d)
  others.isEmpty || decide ((2 * tempReg n d - median2 (others.map (fun m => tempReg m d))).natAbs ≤ 80)

/-- On a buffer die (R344): when the two sensors differ by more than 10 °C, the one farther from the median of the hub's
valid sensors fails. -/
def agreesBuf (n : Nat) (d : Dev) : Bool :=
  let hub := (dieSensors .hub).filter (fun m => soundAlone m d && agrees m d)
  (dieSensors (sensorDie n)).all (fun o =>
    o == n || !soundAlone o d || decide ((tempReg n d - tempReg o d).natAbs ≤ 40) || hub.isEmpty ||
      (let m := median2 (hub.map (fun h => tempReg h d))
       decide ((2 * tempReg n d - m).natAbs ≤ (2 * tempReg o d - m).natAbs)))

/-- Sensor `n` is valid in this conversion (R344). -/
def sensorValid (n : Nat) (d : Dev) : Bool :=
  soundAlone n d && (if 44 ≤ n then agreesBuf n d else agrees n d)

/-- The sensor is excluded until power cycle (R344): the lasting action of its class. -/
def exclude (n : Nat) (d : Dev) : Dev :=
  let d := onThm (fun x => { x with
    errs := Store.put ErrWin.empty n { Store.get ErrWin.empty n x.errs with lasting := true } x.errs }) d
  let d := onPage pgThm (fun h => { h with err := { h.err with lasting := true } }) d
  raise pgThm 7 (wrs [(THM_TS_EXCL n, 1), (THM_TS_VALID n, 0)] d)

/-- Sensor `n` has become invalid (R344): one error of its class, which the page's count sums. -/
def sensorError (n : Nat) (d : Dev) : Dev :=
  let h := page pgThm d
  let r := (Store.get ErrWin.empty n d.thm.errs).count h.window h.thresh (nowMs d)
  let d := onThm (fun x => { x with errs := Store.put ErrWin.empty n r.1 x.errs }) d
  let d := onPage pgThm (fun h => { h with
    err := { h.err with stamps := (nowMs d : Int) :: h.err.inside h.window (nowMs d) }, total := min 0xFFFF (h.total + 1) }) d
  when' r.2 (exclude n) (raise pgThm 6 d)

/-- The outcome of the checks for sensor `n`. -/
def noteSensor (n : Nat) (ok : Bool) (d : Dev) : Dev :=
  if !sensing n d then d
  else
    let was := isSet (THM_TS_VALID n) d
    let d := wrB (THM_TS_VALID n) ok (onThm (fun x => { x with
      badRun := Store.put 0 n (if ok then 0 else Store.get 0 n x.badRun + 1) x.badRun,
      goodRun := Store.put 0 n (if ok then Store.get 0 n x.goodRun + 1 else 0) x.goodRun }) d)
    when' (was && !ok) (sensorError n) d

/-! ## Die readings -/

/-- The hottest valid sensor of a die. -/
def hottestOf (x : Die) (d : Dev) : Option Nat :=
  ((dieSensors x).filter (fun n => isSet (THM_TS_VALID n) d)).foldl (fun b n =>
    match b with
    | none => some n
    | some m => if tempReg m d < tempReg n d then some n else some m) none

/-- A substitute comes into force for sensor `n` (R347, R348). -/
def substStart (n : Nat) (d : Dev) : Dev :=
  let d := raise pgThm 8 d
  if isSet THM_STAT_STEP d then
    let was := isSet THM_STAT_HOLD d
    let d := wr THM_STAT_HOLD 1 (onThm (fun x => { x with holdBy := some n }) d)
    if was then d else raise pgThm 9 d
  else d

/-- The reading of a die after a conversion: temperature in 0.25 °C, the sensor behind it, whether it is a substitute. -/
abbrev DieReading := Int × Nat × Bool

/-- One reading per die (R346, R347): the hottest valid sensor, or a substitute while a sensor that was the hottest is
invalid or excluded, or the last reading plus 5 °C without any valid sensor. An absent die has none (R345). -/
def dieReading (x : Die) (k : Nat) (d : Dev) : Dev × Option DieReading :=
  if !(fitted x d && dieUp x d) then
    (clrBit THM_STAT_DIESUB k (onThm (fun t => { t with
      subst := Store.put [] k [] t.subst, hotLast := Store.put none k none t.hotLast }) d), none)
  else
    let bad := fun n => !isSet (THM_TS_VALID n) d
    let old := (Store.get [] k d.thm.subst).filter bad
    let fresh := ((Store.get none k d.thm.hotLast).filter (fun n => bad n && !old.contains n)).toList
    let l := old ++ fresh
    let d := fresh.foldl (fun d n => substStart n d) (onThm (fun t => { t with subst := Store.put [] k l t.subst }) d)
    let src := l.getLast?
    match hottestOf x d with
    | some h =>
      let t := tempReg h d
      let d := onThm (fun s => { s with
        hotLast := Store.put none k (some h) s.hotLast,
        dieLast := Store.put none k (some (if l.isEmpty then t else t + 20)) s.dieLast }) d
      match src with
      | some n => (setBit THM_STAT_DIESUB k d, some (t + 20, n, true))
      | none => (clrBit THM_STAT_DIESUB k d, some (t, h, false))
    | none =>
      let d := setDegraded pgThm true (onThm (fun s => { s with hotLast := Store.put none k none s.hotLast }) d)
      match Store.get none k d.thm.dieLast with
      | some t => (setBit THM_STAT_DIESUB k d, some (t + 20, src.getD ((dieSensors x).headD 0), true))
      | none => (d, none)

/-- The highest die reading; of equal ones the first. -/
def hottestDie (l : List DieReading) : Option DieReading :=
  l.foldl (fun b r => match b with | none => some r | some q => if q.1 < r.1 then some r else some q) none

/-- The valid sensor with the lowest T. -/
def coldest (d : Dev) : Option Nat :=
  ((List.range 48).filter (fun n => isSet (THM_TS_VALID n) d)).foldl (fun b n =>
    match b with
    | none => some n
    | some m => if tempReg n d < tempReg m d then some n else some m) none

/-! ## Thresholds -/

/-- The threshold of throttle step `k`. -/
def hotThr (k : Nat) (d : Dev) : Int :=
  if k = 1 then rdInt THM_THR1_HOT1 d else if k = 2 then rdInt THM_THR1_HOT2 d else rdInt THM_THR2_HOT3 d

/-- HYST in units of 0.25 °C. -/
def hyst (d : Dev) : Int := 4 * rd THM_THRCTL_HYST d

/-- The core clock in MHz (R349): 3,000, halved at throttle step 1 and above. -/
def coreMhz (d : Dev) : Nat := if isSet THM_STAT_STEP d then 1500 else 3000

/-- Throttle step `k` is entered (R349, R354). -/
def enterStep (k : Nat) (d : Dev) : Dev :=
  let d := wr THM_STAT_STEP k (onThm (fun x => { x with relStep := 0 }) d)
  let d := if k = 1 then ifReach pgSpn (capSet true) d
    else each 4 (fun n d => if throttled n d then calLeave n d else d)
      (if k = 3 then wr CRY_STAT_CAPPCT (rd THM_THRCTL_CIPHCAP d) d else d)
  raise pgThm 0 d

/-- Cold stop is entered (R349): write inhibit source 7 on every arm. -/
def enterCold (d : Dev) : Dev :=
  let d := wr THM_STAT_COLDSTOP 1 (onThm (fun x => { x with relCold := 0 }) d)
  raise pgThm 2 (each 4 (fun n d => if fitted (.arm n) d then inhibitNow n 7 d else d) d)

/-- Pre-heat is entered (R349). -/
def enterPreheat (d : Dev) : Dev :=
  raise pgThm 4 (wr THM_STAT_PREHEAT 1 (onThm (fun x => { x with relPre := 0 }) d))

/-- The comparisons with TMAX after a conversion (R349, R352): steps rise at once, the release margin is counted. -/
def hotStates (t : Int) (d : Dev) : Dev :=
  let d := [1, 2, 3].foldl (fun d k => if rd THM_STAT_STEP d < k ∧ hotThr k d ≤ t then enterStep k d else d) d
  let st := rd THM_STAT_STEP d
  onThm (fun x => { x with
    relStep := if 0 < st ∧ t < hotThr st d - hyst d then x.relStep + 1 else 0,
    critRun := if rdInt THM_THR2_CRIT d ≤ t then x.critRun + 1 else 0 }) d

/-- The comparisons with TMIN after a conversion (R349). -/
def coldStates (t : Int) (d : Dev) : Dev :=
  let d := if t < rdInt THM_THR0_CSTOP d ∧ isSet THM_STAT_COLDSTOP d = false then enterCold d else d
  let d := if t < rdInt THM_THR0_CWARN d ∧ isSet THM_STAT_PREHEAT d = false then enterPreheat d else d
  onThm (fun x => { x with
    relCold := if isSet THM_STAT_COLDSTOP d ∧ rdInt THM_THR0_CSTOP d + hyst d ≤ t then x.relCold + 1 else 0,
    relPre := if isSet THM_STAT_PREHEAT d ∧ rdInt THM_THR0_CWARN d + hyst d ≤ t then x.relPre + 1 else 0 }) d

/-- THERMAL_CONVERSION: all sensors convert; `ns` are the raw counts by sensor (R343 to R349). -/
def conversion (ns : List Nat) (d : Dev) : Dev :=
  let d := each 48 (fun n d => convert n (ns.getD n 0 % 65536) d) d
  let ok := (List.range 48).filter (fun n => sensorValid n d)
  let d := each 48 (fun n d => noteSensor n (ok.contains n) d) d
  let r := thermalDies.foldl (fun (s : Dev × List DieReading) x =>
    let q := dieReading x.1 x.2 s.1
    (q.1, s.2 ++ q.2.toList)) (setDegraded pgThm false d, [])
  let d := each 4 (fun n d => if fitted (.arm n) d then calTemperature n d else d) r.1
  let d := match hottestDie r.2 with
    | some (t, s, b) => hotStates t (wrB THM_TMAX_SUBST b (wr THM_TMAX_SRC s (wrInt THM_TMAX_TEMP (min t 2047) d)))
    | none => onThm (fun x => { x with relStep := 0, critRun := 0 }) d
  match coldest d with
  | some n =>
    onThm (fun x => { x with noneRun := 0 })
      (coldStates (tempReg n d) (wr THM_TMIN_SRC n (wrInt THM_TMIN_TEMP (tempReg n d) d)))
  | none => onThm (fun x => { x with noneRun := x.noneRun + 1, relCold := 0, relPre := 0 }) d

/-- THERMAL_CONVERSION. -/
def execThermalConversion (ns : List Nat) (s : State) : Out := onDev (conversion ns) s

/-! ## Leaving a state -/

/-- Throttle step `k` is left (R349): only its own action is undone. -/
def leaveStep (k : Nat) (d : Dev) : Dev :=
  let d := wr THM_STAT_STEP (k - 1) (onThm (fun x => { x with relStep := 0 }) d)
  let d := if k = 1 then ifReach pgSpn (capSet false) d else if k = 3 then wr CRY_STAT_CAPPCT 100 d else d
  raise pgThm 1 d

/-- THROTTLE_STEP_RELEASE: the release margin has held for 1,000 conversions, and one state is left (R349): the throttle
step (0), cold stop (1) or pre-heat (2). No step is left while HOLD = 1. -/
def stateRelease (which : Fin 3) (d : Dev) : Dev :=
  if which = 0 then
    if isSet THM_STAT_STEP d ∧ isSet THM_STAT_HOLD d = false ∧ 1000 ≤ d.thm.relStep then leaveStep (rd THM_STAT_STEP d) d
    else d
  else if which = 1 then
    if isSet THM_STAT_COLDSTOP d ∧ 1000 ≤ d.thm.relCold then
      raise pgThm 3 (each 4 (fun n d => inhibitLift n 7 d) (wr THM_STAT_COLDSTOP 0 d))
    else d
  else if isSet THM_STAT_PREHEAT d ∧ 1000 ≤ d.thm.relPre then raise pgThm 5 (wr THM_STAT_PREHEAT 0 d)
  else d

/-- THROTTLE_STEP_RELEASE. -/
def execThrottleStepRelease (which : Fin 3) (s : State) : Out := onDev (stateRelease which) s

/-- SENSOR_EXCLUDE: the sensor has been invalid for EXCLT seconds (R344). -/
def sensorExclude (n : Fin 48) (d : Dev) : Dev :=
  if isSet (THM_TS_EXCL n) d = false ∧ rd THM_THRCTL_EXCLT d * 1000 ≤ Store.get 0 n.val d.thm.badRun then exclude n d else d

/-- SENSOR_EXCLUDE. -/
def execSensorExclude (n : Fin 48) (s : State) : Out := onDev (sensorExclude n) s

/-- HOLD_RELEASE: the sensor whose substitute set HOLD has been valid for 16 conversions (R348). -/
def holdRelease (d : Dev) : Dev :=
  match d.thm.holdBy with
  | some n => if 16 ≤ Store.get 0 n d.thm.goodRun then wr THM_STAT_HOLD 0 (onThm (fun x => { x with holdBy := none }) d) else d
  | none => d

/-- HOLD_RELEASE. -/
def execHoldRelease (s : State) : Out := onDev holdRelease s

/-- HOLD_RELEASE_FIRMWARE: THM_THRCTL.HOLDREL is set (R348); the substitute stays. -/
def holdReleaseFw (d : Dev) : Dev := wr THM_STAT_HOLD 0 (onThm (fun x => { x with holdBy := none }) d)

/-- HOLD_RELEASE_FIRMWARE. -/
def execHoldReleaseFirmware (s : State) : Out := onDev holdReleaseFw s

/-! ## Latched shutdown -/

/-- A flush that runs ends incomplete: nothing further is vaulted (R354, R367). -/
def flushLost (d : Dev) : Dev :=
  if flushIdle d then d
  else
    let d := flushFailed d
    if isSet BRK_STAT_VAULT d && dieUp .power d then raise pgBrk 6 (wr BRK_STAT_VAULT 0 d) else d

/-- SHUTDOWN_LATCH: two conversions in a row at TCRIT, or without a valid sensor (R352, R353): retracts, the spindle
coasts, the endpoint stops, the recorder writes a counter entry and a severity-4 record. -/
def shutdownLatch (d : Dev) : Dev :=
  if isSet THM_STAT_LATCHED d || !(decide (2 ≤ d.thm.critRun) || decide (2 ≤ d.thm.noneRun)) then d
  else
    let d := retractAll .hub (wr THM_STAT_LATCHED 1 (flushLost d))
    let d := phasesOff d
    let d := onRec (fun x => { x with ctrDue := true }) (endpointStop d)
    raiseRec pgThm 11 4 (generalPayload ((page pgThm d).raw ||| evMask 11) (errCntWord (page pgThm d) d)) d

/-- SHUTDOWN_LATCH. -/
def execShutdownLatch (s : State) : Out := onDev shutdownLatch s

end Sys2Proof.Machine
end

