-- ==== Sys2Proof/Machine/Vault.lean ====
section
/-!
DEFINITION. Machine/Vault.lean: the vault (R376 to R382): the flush of an epoch and its end marks, retaining form (R364),
the replay, the release of the vault, and the journal's tail.
-/
namespace Sys2Proof.Machine

/-! ## Copies as they stand -/

/-- The 4,096 bytes of a copy as they stand, poisoned or not, and whether a line of it is poisoned; nothing where the copy
is lost or its memory cannot be reached. -/
def rawCopy (c : Copy) (d : Dev) : Dev × Option (List Nat × Bool) :=
  match c with
  | .lost => (d, none)
  | .at a =>
    if !memUp a d then (d, none)
    else
      let r := (List.range 32).foldl (fun (st : Dev × List Nat × Bool) k =>
        let q := lineRead (a / 128 + k) st.1
        (q.1, st.2.1 ++ lineBytes q.2.1, st.2.2 || q.2.2)) (d, [], false)
      (r.1, some r.2)

/-- The descriptor and body sector for one copy of a block (R380). -/
def flushBody (b : Blk) (second : Bool) (x : List Nat × Bool) : VDesc × List Nat :=
  let body := x.1 ++ b.md ++ List.replicate (16 - b.md.length) 0
  let flags := (if b.zone.isNone then 1 else 0) + (if x.2 then 2 else 0) + (if second then 4 else 0)
  (⟨b.csn, b.lba, b.ns, flags, (b.zone.map Prod.snd).getD 0, (b.zone.map Prod.fst).getD 0xFFFFFFFF, tagOf b.md, crc32c body⟩,
    body)

/-- What a flush writes of a block: one copy, or both where one is poisoned (R300, R380); nothing of a block that has none. -/
def flushBlk (b : Blk) (d : Dev) : Dev × List (VDesc × List Nat) :=
  let r := rawCopy b.c1 d
  let q := rawCopy b.c2 r.1
  (q.1, match r.2, q.2 with
    | some x, some y =>
      if x.2 || y.2 then [flushBody b false x, flushBody b true y] else [flushBody b false x]
    | some x, none => [flushBody b false x]
    | none, some y => [flushBody b true y]
    | none, none => [])

/-- Insert by CSN and, within a command, by LBA; sort. -/
def blkBefore (a b : Blk) : Bool := decide (a.csn < b.csn) || (a.csn == b.csn && decide (a.lba ≤ b.lba))
def insBlk (b : Blk) : List Blk → List Blk
  | [] => [b]
  | x :: l => if blkBefore b x then b :: x :: l else x :: insBlk b l
def sortBlks (l : List Blk) : List Blk := l.foldr insBlk []

/-- The list in groups of `n`. -/
def groupsOf {α : Type} (n : Nat) (l : List α) : List (List α) :=
  if n = 0 then [] else (List.range ((l.length + n - 1) / n)).map (fun k => (l.drop (n * k)).take n)

/-! ## Flush -/

/-- Ring record `i` as it stands in its first copy, or in the second where the first cannot be read (R378). -/
def ringRec (i : Nat) (d : Dev) : Dev × List Nat :=
  let a := jnlAddr i d
  let r := memRead a.1 64 d
  match r.2 with
  | some bs => (r.1, bs)
  | none =>
    let q := memRead a.2 64 r.1
    (q.1, q.2.getD (List.replicate 64 0))

/-- The records from TAIL to HEAD, in JSEQ order. -/
def ringRecs (d : Dev) : Dev × List (List Nat) :=
  (List.range (jnlCount d)).foldl (fun st k =>
    let r := ringRec ((rd GLB_JNLTAIL_TAIL d + k) % 131072) st.1
    (r.1, st.2 ++ [r.2])) (d, [])

/-- The blocks that a flush for a reason writes (R379, R375): all that are held, those of the lost arm, or those of the
zone. Held entries of a replay are in the vault already. -/
def flushSet (w : FlushWhy) (d : Dev) : Dev × List Blk :=
  let all := d.deal.blks.filter (fun b => b.accepted && !b.heldEntry)
  match w with
  | .powerLoss | .quiesce => (d, all)
  | .noSpare zi => (d, all.filter (fun (b : Blk) => b.zone.any (fun z => z.1 == zi)))
  | .armLost n => all.foldl (fun (st : Dev × List Blk) (b : Blk) =>
      match b.zone with
      | some z => let g := zoneGet z.1 st.1; (g.1, if g.2.arm = n then st.2 ++ [b] else st.2)
      | none => (st.1, if (hand n d).any (fun w => w.zrec == noRec && w.ns == b.ns && w.lba == b.lba && w.kind.writes)
          then st.2 ++ [b] else st.2)) (d, [])

/-- The highest epoch number present in the vault (R379). -/
def lastEpoch (d : Dev) : Nat := ((d.vault.area0 ++ d.vault.area1).map VEntry.epoch).foldl max 0

/-- A burst or a read-after-write result of some hand is still under way (R362 step 3). -/
def burstsOpen (d : Dev) : Bool :=
  (List.range 4).any (fun n => dieUp (.arm n) d && ((arm n d).burst.isSome || !(arm n d).raws.isEmpty))

/-- VAULT_FLUSH_START: the flush that waits first starts its epoch (R379): journal entries to both areas, data entries in
CSN order to both areas under MIRROR, alternately otherwise. After a power-loss notice or a PERST_N the bursts in progress
end first (R362). A replay stops (R382). -/
def flushStart' (d : Dev) : Dev :=
  match d.vault.run, d.vault.want with
  | none, w :: rest =>
    if (w == .quiesce || w == .powerLoss) && burstsOpen d then d
    else if !canVault d then (if w = .quiesce then d else flushFailed (onVault (fun v => { v with run := some w }) d))
    else
      let mirror := isSet GLB_VLTCTL_MIRROR d
      let ep := lastEpoch d + 1
      let d := onVault (fun v => { v with
        want := rest, run := some w, epoch := ep, entry := 0, passed := v.placed, marks := 0, replay := false,
        need := b2n (areaUp 0 d) + 2 * b2n (areaUp 1 d) }) d
      let d := wrs [(GLB_VLTSTAT_EMPTY, 0), (GLB_VLTSTAT_EPOCH, ep)] d
      let j := ringRecs d
      let secs := (groupsOf 64 j.2).map (fun g => g.flatten ++ List.replicate (4112 - 64 * g.length) 0)
      let d := (groupsOf 62 secs).foldl (fun d g =>
        putEntry true ⟨ep, d.vault.entry, 1, mirror, 0, [], g, []⟩ d) j.1
      let f := flushSet w d
      let bl := sortBlks f.2
      let x := bl.foldl (fun (st : Dev × List (VDesc × List Nat)) b =>
        let r := flushBlk b st.1
        (r.1, st.2 ++ r.2)) (f.1, [])
      let d := (groupsOf 62 x.2).foldl (fun d g =>
        putEntry mirror ⟨ep, d.vault.entry, 2, mirror, 0, g.map Prod.fst, g.map Prod.snd, []⟩ d) x.1
      vaultBusy (if d.vault.run.isSome then onVault (fun v => { v with blks := bl }) d else d)
  | _, _ => d

/-- VAULT_FLUSH_START. -/
def execVaultFlushStart (s : State) : Out := onDev flushStart' s

/-- A flush is complete (R379): the blocks of a lost arm's zones become held entries (R375), whose copies are released. -/
def flushDone (d : Dev) : Dev :=
  let held : List Blk := match d.vault.run with
    | some (.armLost _) => d.vault.blks.filter (fun b => b.zone.isSome)
    | _ => []
  let is := fun (b : Blk) => List.any held (fun h => h.csn == b.csn && h.ns == b.ns && h.lba == b.lba)
  let d := setBlks (d.deal.blks.map (fun b =>
    if is b then { b with heldEntry := true, c1 := .lost, c2 := .lost } else b)) d
  let d := wrB GLB_VLTSTAT_HELD (d.deal.blks.any Blk.heldEntry) d
  let all := d.vault.run == some .quiesce || d.vault.run == some .powerLoss
  vaultBusy (onVault (fun v => { v with run := none, blks := [], want := if all then [] else v.want }) d)

/-- The journal records and data sectors of the running epoch in area `a`. -/
def areaCounts (ep a : Nat) (d : Dev) : Nat × Nat :=
  let l := (areaList a d).filter (fun e => e.epoch == ep)
  let recs := (l.filter (fun e => e.kind == 1)).flatMap (fun e => e.bodies.flatMap (fun b => (groupsOf 64 (b.take 4096)).filter (fun r => r.getD 0 0 != 0)))
  ((l.filter (fun e => e.kind == 2)).map (fun e => e.bodies.length) |>.sum, recs.length)

/-- Highest CSN and highest JSEQ in the epoch. -/
def epochTops (ep : Nat) (d : Dev) : Nat × Nat :=
  let l := (d.vault.area0 ++ d.vault.area1).filter (fun e => e.epoch == ep)
  let recs := (l.filter (fun e => e.kind == 1)).flatMap (fun e => e.bodies.flatMap (fun b => groupsOf 64 (b.take 4096)))
  ((l.flatMap (fun e => e.desc.map VDesc.csn)).foldl max 0, (recs.map (fun r => leNat ((r.drop 8).take 8))).foldl max 0)

/-- VAULT_END_MARK: every earlier entry of area `a` has passed read-after-write, and its end mark is written (R379). With
the last end mark the flush is complete. -/
def endMark (a : Fin 2) (d : Dev) : Dev :=
  let v := d.vault
  if v.run.isNone || !v.need.testBit a || v.marks.testBit a || areaPassed a d != areaPlaced a d then d
  else if !areaTakes a 1 d then flushFailed d
  else
    let c := areaCounts v.epoch a d
    let t := epochTops v.epoch d
    let p := areaPlaced a d
    let e : VEntry := ⟨v.epoch, v.entry, 3, isSet GLB_VLTCTL_MIRROR d, p, [], [],
      leBytes t.1 8 ++ leBytes t.2 8 ++ leBytes c.1 4 ++ leBytes c.2 4⟩
    let d := onVault (fun v => { v with
      entry := v.entry + 1, marks := v.marks ||| 2 ^ a.val, placed := Store.put 0 a.val (p + 1) v.placed,
      written := Store.put 0 a.val (p + 1) v.written, passed := Store.put 0 a.val (p + 1) v.passed }) (setArea a (areaList a d ++ [e]) d)
    if d.vault.marks &&& d.vault.need = d.vault.need then flushDone d else d

/-- VAULT_END_MARK. -/
def execVaultEndMark (a : Fin 2) (s : State) : Out := onDev (endMark a) s

/-! ## Retaining form (R364) -/

/-- Bring every dirty line of the hub cache and the victim buffer home, so that memory holds the newest data before the
cache is lost (R364, R366). -/
def cleanAll (d : Dev) : Dev :=
  let d := d.cache.vb.foldl (fun d e => if e.line.dirty && memUp (e.line.ln * 128) d then homeWrite e.line.ln e.line.ws d else d) d
  d.cache.lines.foldl (fun d p =>
    match p.2 with
    | some l => if l.dirty && memUp (l.ln * 128) d then
        setWay (p.1 / 16) (p.1 % 16) (some { l with dirty := false }) (homeWrite l.ln l.ws d) else d
    | none => d) { d with cache := { d.cache with vb := [] } }

/-- Where the SDRAM copy of a block whose second copy is on a buffer die goes: the offset of R295. -/
def sdSecondOf (a : Nat) (d : Dev) : Nat :=
  let x := a - (wdRegion d).1
  (sdMirRegion d).1 + (if rd DRC_MAP_ILV d = 0 then x else x ^^^ 2 ^ rd DRC_MAP_ILV d)

/-- Copy 4 KiB from one address to another, poison travelling with each line (R359, R364). -/
def copyLines (a b : Nat) (d : Dev) : Dev :=
  each 32 (fun k d =>
    let r := lineRead (a / 128 + k) d
    lineStore (b / 128 + k) (moveLine (a / 128 + k) (b / 128 + k) (r.2.1.map some)) none r.1) d

/-- The held blocks that retaining form keeps: accepted, with a copy, at most 65,536. -/
def keptBlks (d : Dev) : List Blk := (sortBlks (d.deal.blks.filter (fun b => b.accepted && !b.heldEntry))).take 65536

/-- Header and descriptors of the retention index (R364). -/
def indexBytes (l : List (VDesc × Nat × Nat)) (d : Dev) : List Nat :=
  let a7 := fun (r : Nat × Nat) => leBytes (r.1 / 128 % 2 ^ 28) 4
  let head := leBytes 0x54455252 4 ++ leBytes l.length 4 ++ a7 (wdRegion d) ++ a7 (sdMirRegion d) ++ a7 (vstRegion d)
    ++ leBytes (rd GLB_JNLHEAD_HEAD d) 4 ++ leBytes (rd GLB_JNLTAIL_TAIL d) 4
    ++ leBytes (wordOf [DRC_MAP_ILV, DRC_MAP_CHGIB, DRC_MAP_RANKS, DRC_MAP_MAPLOCK] d) 4 ++ a7 (retRegion d)
  let head := head ++ List.replicate (4092 - head.length) 0
  head ++ leBytes (crc32c head) 4 ++ l.flatMap (fun x =>
    x.1.bytes ++ leBytes (x.2.1 / 128 % 2 ^ 28) 4 ++ leBytes (x.2.2 / 128 % 2 ^ 28) 4 ++ List.replicate 8 0)

/-- Quiesce in retaining form (R364, steps 1 to 3): every copy on a buffer die goes to the SDRAM mirror region, the
retention index is written, SDRAM goes to self-refresh. -/
def retainForm (d : Dev) : Dev :=
  if d.pws.retain then d
  else
    let d := d.deal.blks.foldl (fun d b =>
      match b.c1, b.c2 with
      | .at a, .at c =>
        if memKind c d = some .buffer && b.accepted && !b.heldEntry then
          let m := sdSecondOf a d
          let d := if memUp c d then copyLines c m d else copyLines a m d
          setBlks (d.deal.blks.map (fun x => if x = b then { x with c2 := .at m } else x)) d
        else d
      | _, _ => d) d
    let kept := keptBlks d
    let x := kept.foldl (fun (st : Dev × List (VDesc × Nat × Nat)) b =>
      let r := rawCopy b.c1 st.1
      let q := rawCopy b.c2 r.1
      let addr := fun (c : Copy) => match c with | .at a => a | .lost => 0
      match (match r.2, q.2 with | some x, _ => some x | none, y => y) with
      | some y => (q.1, st.2 ++ [((flushBody b false y).1, addr b.c1, addr b.c2)])
      | none => (q.1, st.2)) (d, [])
    let d := memWrite (retRegion d).1 (indexBytes x.2 x.1) none x.1
    wr DRC_STAT_SREF 3 (onVault (fun v => { v with retained := kept })
      { cleanAll d with pws := { (cleanAll d).pws with retain := true } })

/-! ## Replay (R381) -/

/-- A sector of area `a` that the replay finds: it was written, and its arm and the sector can be read now. `bad` names the
sectors (area, position) whose reading fails. -/
def vaultReadable (bad : List (Nat × Nat)) (a p : Nat) (d : Dev) : Bool :=
  (vaultArm a d).any (fun n => armWorks n d) && decide (p < areaWritten a d) && !bad.contains (a, p)

/-- The entries of area `a` whose header the replay reads, with the body sectors it reads of each (none: not read). -/
def foundEntries (bad : List (Nat × Nat)) (a : Nat) (d : Dev) : List (VEntry × List (Option (List Nat))) :=
  ((areaList a d).filter (fun e => vaultReadable bad a e.start d)).map (fun e =>
    (e, e.bodies.zipIdx.map (fun p => if vaultReadable bad a (e.start + 1 + p.2) d then some p.1 else none)))

/-- The 64-byte records of a journal body sector that carry a correct CRC (R378). -/
def recsOf (body : List Nat) : List (List Nat) :=
  (groupsOf 64 (body.take 4096)).filter (fun r => r.getD 0 0 != 0 && leNat ((r.drop 60).take 4) == crc32c (r.take 60))

def recSeq (r : List Nat) : Nat := leNat ((r.drop 8).take 8)

/-- Insert records by JSEQ, each JSEQ once; sort. -/
def insRec (r : List Nat) : List (List Nat) → List (List Nat)
  | [] => [r]
  | x :: l => if recSeq r < recSeq x then r :: x :: l else if recSeq r = recSeq x then x :: l else x :: insRec r l
def sortRecs (l : List (List Nat)) : List (List Nat) := l.foldl (fun m r => insRec r m) []

/-- The retention index that a quiesce in retaining form left (R364), if its header passes: descriptors with the two copies'
addresses, and the ring's HEAD and TAIL. -/
def readIndex (d : Dev) : Dev × Option (List (List Nat) × Nat × Nat) :=
  if !isSet PWS_RSTSTAT_RETAIN d then (d, none)
  else
    let r := memRead (retRegion d).1 4096 d
    match r.2 with
    | none => (r.1, none)
    | some h =>
      let at' := fun k => leNat ((h.drop k).take 4)
      if at' 0 ≠ 0x54455252 ∨ at' 4092 ≠ crc32c (h.take 4092) ∨ 65536 < at' 4 then (r.1, none)
      else
        let q := memRead ((retRegion d).1 + 4096) (48 * at' 4) r.1
        (q.1, q.2.map (fun bs => (groupsOf 48 bs, at' 20, at' 24)))

/-- The descriptor that 32 bytes spell (R380). -/
def VDesc.ofBytes (b : List Nat) : VDesc :=
  let at' := fun k n => leNat ((b.drop k).take n)
  ⟨at' 0 8, at' 8 8, at' 16 1, at' 17 1, at' 18 2, at' 20 4, at' 24 4, at' 28 4⟩

/-- A block that the replay has found: its descriptor and its 4,112 bytes, and where its copies lie already (retention
index). -/
structure Seen where
  x : VDesc
  body : List Nat
  copies : Option (Nat × Nat)
  deriving DecidableEq, Repr

/-- The blocks that the retention index names. The metadata bytes are those that the device kept (notes/assumptions/58). -/
def indexBlks (ds : List (List Nat)) (d : Dev) : Dev × List Seen :=
  ds.foldl (fun (st : Dev × List Seen) b =>
    let x := VDesc.ofBytes (b.take 32)
    let a1 := leNat ((b.drop 32).take 4) * 128
    let a2 := leNat ((b.drop 36).take 4) * 128
    let md := ((d.vault.retained.find? (fun k => k.csn == x.csn && k.ns == x.ns && k.lba == x.lba)).map Blk.md).getD (List.replicate 16 0)
    let r := rawCopy (if a1 = 0 then .lost else .at a1) st.1
    let q := rawCopy (if a2 = 0 then .lost else .at a2) r.1
    match ([r.2, q.2].filterMap id).find? (fun y => !y.2) with
    | some y => (q.1, st.2 ++ [⟨x, y.1 ++ md, some (a1, a2)⟩])
    | none => (q.1, st.2)) (d, [])

/-- Apply a kind-1 journal record to the zone record, the slip list and the generation table, and append it to the ring
(R381 step 2); the zone's context follows (R196). -/
def applyRec (r : List Nat) (d : Dev) : Dev :=
  let zi := leNat ((r.drop 4).take 4)
  let z := Zone.ofBytes ((r.drop 16).take 32)
  let slip := leNat ((r.drop 48).take 8)
  let g := leNat ((r.drop 56).take 4)
  if rd ZON_NREC_NREC d ≤ zi then d
  else
    let d := if slip = 0 then d else memWrite (slipAddr zi (z.slips - 1) d) (leBytes slip 8) none d
    let d := if rd CRY_GENBASE_ADDR d = 0 then d else memWrite (genAddr zi d) (leBytes g 4) none d
    let d := zonePut zi z slip (onVault (fun v => { v with left := v.left + 1 }) (memWrite (recAddr zi d) z.bytes none d))
    if z.active && !z.spare && !z.vault then takeCtx zi d else dropCtx zi d

/-- Insert by CSN and LBA, keeping the order of equal ones; sort. -/
def seenBefore (a b : VDesc) : Bool := decide (a.csn < b.csn) || (a.csn == b.csn && decide (a.lba < b.lba))
def insSeen (s : Seen) : List Seen → List Seen
  | [] => [s]
  | x :: l => if seenBefore s.x x.x then s :: x :: l else x :: insSeen s l

def sameBlk (a b : VDesc) : Bool := a.csn == b.csn && a.ns == b.ns && a.lba == b.lba

/-- One copy of each block (R381 step 3): the first with a correct CRC that was not poisoned, else any with a correct
CRC. -/
def chooseCopies : List Seen → List Seen → List Seen
  | acc, [] => acc
  | acc, s :: l =>
    match acc.find? (fun t => sameBlk t.x s.x) with
    | none => chooseCopies (acc ++ [s]) l
    | some t =>
      if bitOf t.x.flags 1 && !bitOf s.x.flags 1 then
        chooseCopies (acc.map (fun u => if sameBlk u.x s.x then s else u)) l
      else chooseCopies acc l

/-- The blocks that the replay takes (R381 step 3): not below VERIF, not at or above WP, of one zone offset the newest
(R373), and none that is held already. -/
def takeBlks (l : List Seen) (d : Dev) : Dev × List Seen :=
  l.foldl (fun (st : Dev × List Seen) s =>
    if st.1.deal.blks.any (fun b => b.csn == s.x.csn && b.ns == s.x.ns && b.lba == s.x.lba) then st
    else if bitOf s.x.flags 0 then (st.1, st.2 ++ [s])
    else
      let g := zoneGet s.x.zrec st.1
      if s.x.zofs < g.2.verif || decide (offsBelow g.2 ≤ s.x.zofs) || g.2.state == zEmpty then (g.1, st.2)
      else (g.1, st.2.filter (fun t => bitOf t.x.flags 0 || t.x.zrec != s.x.zrec || t.x.zofs != s.x.zofs) ++ [s])) (d, [])

/-- The zone of a found block is Offline or lies on an arm that is not up (R381 step 4). -/
def seenHeld (s : Seen) (d : Dev) : Bool :=
  let z := (zoneGet s.x.zrec d).2
  !bitOf s.x.flags 0 && (z.state == zOffline || !armWorks z.arm d)

/-- The key slot of a restored block is that of its namespace's binding now; none is known before it is bound. -/
def slotNow (ns : Nat) (d : Dev) : Nat := if isSet (CRY_NSBIND_VALID ns) d then rd (CRY_NSBIND_SLOT ns) d else 512

/-- Restore a block (R381 step 4): a held entry, or two copies at their places. Of a conventional block a kind-2 record is
appended. -/
def restoreBlk (s : Seen) (place : Option (Nat × Nat)) (d : Dev) : Dev :=
  let conv := bitOf s.x.flags 0
  let user := s.body.take 4096
  let at' := fun (p : Nat × Nat) => (Copy.at p.1, Copy.at p.2)
  let cs := match place with | none => (Copy.lost, Copy.lost) | some p => at' p
  let d := match place, s.copies with
    | some p, none => memWrite p.2 user none (memWrite p.1 user none d)
    | _, _ => d
  let b : Blk := ⟨none, s.x.csn, s.x.ns, s.x.lba, if conv then none else some (s.x.zrec, s.x.zofs), cs.1, cs.2,
    (s.body.drop 4096).take 16, true, place.isNone, true, slotNow s.x.ns d⟩
  let d := setBlks (d.deal.blks ++ [b]) d
  if conv then
    jnlPut ([2, 0, 0, 0] ++ [s.x.ns % 256, 0, 0, 0])
      (leBytes s.x.csn 8 ++ leBytes s.x.lba 8 ++ leBytes ((place.map Prod.fst).getD 0 / 128 % 2 ^ 28) 4 ++ List.replicate 24 0)
      (onVault (fun v => { v with left := v.left + 1 }) d)
  else d

/-- Offsets of a zone from VERIF to what was written that hold a logical block and no entry supplied (R381 step 5;
notes/assumptions/59). -/
def missingOfs (zi : Nat) (z : Zone) (d : Dev) : List Nat :=
  let have' := d.deal.blks.filterMap (fun b => b.zone.bind (fun q => if q.1 = zi then some q.2 else none))
  ((List.range (offsWritten zi z d - z.verif)).map (fun k => z.verif + k)).filter (fun o =>
    (blockOfOfs (z.par && !z.conv) o).isSome && !fillerAt zi z o d && !have'.contains o)

/-- The tail of a zone after a replay (R381 steps 4 and 5): what no entry supplied is written with zero content and the
reference tag inverted, with a severity-4 record of GLB event 0x00F; parity is formed again, and the tail is queued from the
physical position of VERIF. -/
def zoneTail (zi : Nat) (d : Dev) : Dev :=
  let g := zoneGet zi d
  let z := g.2
  let d := g.1
  if z.spare || z.vault || z.conv || !(z.active || z.state == zFull) || !armWorks z.arm d then d
  else
    let d := if z.active then takeCtx zi d else d
    let miss := missingOfs zi z d
    let lost := miss.map (fun o =>
      let lba := (lbaOfOfs zi z o d).getD 0
      (⟨none, 0, z.ns, lba, some (zi, o), .lost, .lost, [0, 0, 0, 0] ++ leBytes (2 ^ 32 - 1 - lba % 2 ^ 32) 4 ++ List.replicate 8 0,
        true, false, true, 512⟩ : Blk))
    let d := if miss.isEmpty then d
      else wr GLB_HEALTH_DATALOSS 1 (raiseRec pgGlb 7 4 (generalPayload ((page pgGlb d).raw ||| evMask 7) (errCntWord (page pgGlb d) d))
        (setBlks (d.deal.blks ++ lost) d))
    let d := stripesRebuild zi z (if z.active then parityRebuild zi z d else d)
    pushZone z.arm .replayWrite zi z z.verif (offsWritten zi z d) (setNextOfs zi z.verif
      { d with zon := { d.zon with passed := Store.put [] zi [] d.zon.passed } })

/-- The epochs found: some lacks an end mark, or has counts that differ from the entries found (R381 step 6). -/
def incomplete (l : List (Nat × VEntry × List (Option (List Nat)))) : Bool :=
  let eps := (l.map (fun e => e.2.1.epoch)).eraseDups
  eps.any (fun ep => [0, 1].any (fun a =>
    let es := l.filter (fun e => e.1 == a && e.2.1.epoch == ep)
    let data := (es.filter (fun e => e.2.1.kind == 2)).flatMap (fun e => e.2.2.filterMap id)
    let recs := (es.filter (fun e => e.2.1.kind == 1)).flatMap (fun e => (e.2.2.filterMap id).flatMap recsOf)
    match es.find? (fun e => e.2.1.kind == 3) with
    | some m => leNat ((m.2.1.sum.drop 16).take 4) != data.length || leNat ((m.2.1.sum.drop 20).take 4) != recs.length
    | none => !es.isEmpty || !l.any (fun e => e.2.1.epoch == ep && e.2.1.kind == 3)))

/-- VAULT_REPLAY: GLB_VLTCTL.REPLAY (R381 steps 1 to 5). `bad` are the vault sectors whose reading fails; `places` are the
addresses of the two copies of each block restored as copies, in CSN order. Discarded while FWRDY or BUSY is set. -/
def replay (bad : List (Nat × Nat)) (places : List (Nat × Nat)) (d : Dev) : Dev :=
  if fwReady d || isSet GLB_VLTCTL_BUSY d then d
  else
    let start := d
    let ix := readIndex d
    let found := [0, 1].flatMap (fun a => (foundEntries bad a ix.1).map (fun e => (a, e)))
    let ring := match ix.2 with
      | some x => (List.range ((x.2.1 + 131072 - x.2.2) % 131072)).foldl (fun (st : Dev × List (List Nat)) k =>
          let r := ringRec ((x.2.2 + k) % 131072) st.1
          (r.1, st.2 ++ recsOf r.2)) (ix.1, [])
      | none => (ix.1, [])
    let recs := sortRecs (ring.2 ++ (found.filter (fun e => e.2.1.kind == 1)).flatMap (fun e => (e.2.2.filterMap id).flatMap recsOf))
    let marks := (found.filter (fun e => e.2.1.kind == 3)).map (fun e => e.2.1.sum)
    let top1 := fun (x : Nat) => if x = 0 then none else some (x + 1)
    let tops := (recs.map recSeq).map (· + 1) ++ marks.filterMap (fun m => top1 (leNat ((m.drop 8).take 8)))
    let next := tops.foldl max 0
    let ib := match ix.2 with | some x => indexBlks x.1 ring.1 | none => (ring.1, [])
    let d := ib.1
    let vb := (found.filter (fun e => e.2.1.kind == 2)).flatMap (fun e =>
      (e.2.1.desc.zip e.2.2).filterMap (fun p => p.2.map (fun b => (⟨p.1, b, none⟩ : Seen))))
    let blks := (chooseCopies [] (ib.2 ++ vb)).foldl (fun m s => insSeen s m) []
    let csnTop := ((ib.2 ++ vb).map (fun (s : Seen) => s.x.csn + 1) ++ marks.filterMap (fun (m : List Nat) => top1 (leNat (m.take 8)))).foldl max 0
    let d := onVault (fun v => { v with
      replay := true, left := 0, foundInc := incomplete found,
      foundCsn := csnTop,
      placed := v.written }) d
    let d := { d with zon := { d.zon with jnext := some next } }
    let d := recs.foldl (fun d r => if r.getD 0 0 = 1 then applyRec r d else d) (jnlDrain d)
    let t := takeBlks blks d
    let d := t.1
    let open' := t.2.filter (fun s => !seenHeld s d)
    let fresh := open'.filter (fun s => s.copies.isNone)
    let dies := fresh.foldl (fun (st : Dev × List (Option Nat)) s =>
      let r := secondDie s.x.ns s.x.lba st.1
      (r.1, st.2 ++ [r.2])) (d, [])
    if !placesOk dies.2 places dies.1 then start
    else
      let d := t.2.foldl (fun (st : Dev × List (Nat × Nat)) s =>
        if seenHeld s d then (restoreBlk s none st.1, st.2)
        else match s.copies with
          | some c => (restoreBlk s (some c) st.1, st.2)
          | none => (restoreBlk s st.2.head? st.1, st.2.drop 1)) (dies.1, places)
      let d := wrB GLB_VLTSTAT_HELD (d.1.deal.blks.any Blk.heldEntry) d.1
      let d := if isSet ZON_CTL_VALID d then each (rd ZON_NREC_NREC d) zoneTail d else d
      vaultBusy (wr GLB_VLTSTAT_EPOCH (lastEpoch d) d)

/-- VAULT_REPLAY. -/
def execVaultReplay (bad : List (Nat × Nat)) (places : List (Nat × Nat)) (s : State) : Out := onDev (replay bad places) s

/-- REPLAY_DONE: every record is in the ring; GLB_VLTCSN, INC, DONE and GLB event 0x00E (R381 step 6). RMAGIC is zeroed
(R364). -/
def replayDone (d : Dev) : Dev :=
  if !d.vault.replay || !d.zon.jwait.isEmpty then d
  else
    let d := if isSet PWS_RSTSTAT_RETAIN d then memWrite (retRegion d).1 [0, 0, 0, 0] none d else d
    let d := wrB GLB_VLTSTAT_INC d.vault.foundInc (if d.vault.foundCsn = 0 then d else setCsn d.vault.foundCsn d)
    let d := when' d.vault.foundInc (reason 3) (onVault (fun v => { v with replay := false, retained := [] }) d)
    raise pgGlb 6 (wr GLB_VLTCTL_DONE 1 (vaultBusy d))

/-- REPLAY_DONE. -/
def execReplayDone (s : State) : Out := onDev replayDone s

/-- VAULT_RELEASE: GLB_VLTCTL.RELEASE declares the held entries consumed (R382). -/
def vaultRelease (d : Dev) : Dev :=
  wr GLB_VLTSTAT_HELD 0 (settleWaits (setBlks (d.deal.blks.filter (fun b => !b.heldEntry)) d))

/-- VAULT_RELEASE. -/
def execVaultRelease (s : State) : Out := onDev vaultRelease s

/-- VAULT_ZONES_RESET: replay has run, every replayed block is verified, firmware has consumed the replayed journal records,
and no held entry remains (R382): the vault zones are reset and EMPTY is set. -/
def zonesReset (d : Dev) : Dev :=
  if d.zon.jnext.isNone || isSet GLB_VLTCTL_BUSY d || d.deal.blks.any (fun b => b.replayed || b.heldEntry) || d.vault.left != 0
      || !flushIdle d || isSet GLB_VLTSTAT_EMPTY d then d
  else
    let d := [0, 1].foldl (fun d a => each (rd (GLB_VLTAREA_NZONES a) d) (fun k d =>
      let zi := rd (GLB_VLTAREA_FIRST a) d + k
      let g := zoneGet zi d
      if g.2.vault then
        zonePut zi { g.2 with wp := 0, verif := 0, slips := 0 } 0
          { g.1 with zon := { g.1.zon with wofs := Store.put 0 zi 0 g.1.zon.wofs } }
      else g.1) d) d
    wr GLB_VLTSTAT_EMPTY 1 (onVault (fun v => { v with area0 := [], area1 := [], placed := [], written := [], passed := [] }) d)

/-- VAULT_ZONES_RESET. -/
def execVaultZonesReset (s : State) : Out := onDev zonesReset s

/-- JOURNAL_TAIL_WRITE: a write of GLB_JNLTAIL, discarded outside the span from TAIL forward to HEAD (R378). What waited
for the ring goes on. -/
def tailWrite (v : Nat) (d : Dev) : Dev :=
  let t := v % 131072
  let step := (t + 131072 - rd GLB_JNLTAIL_TAIL d) % 131072
  if jnlCount d < step then d
  else dealerGo (jnlDrain (wr GLB_JNLTAIL_TAIL t (onVault (fun x => { x with left := x.left - step }) d)))

/-- JOURNAL_TAIL_WRITE. -/
def execJournalTailWrite (v : Nat) (s : State) : Out := onDev (tailWrite v) s

end Sys2Proof.Machine
end

