-- ==== Sys2Proof/Machine/Links.lean ====
section
/-!
DEFINITION. Machine/Links.lean: the Felox links (R14 to R19): flits, training, a link that goes down and comes up, and the
second copies that are made again when a memory is lost.
-/
namespace Sys2Proof.Machine

/-- Change link `l`. -/
def onLink (l : Nat) (f : Link → Link) (d : Dev) : Dev := setLink l (f (link l d)) d

/-- The link carries traffic. -/
def flxUp (l : Nat) (d : Dev) : Bool := isSet (GLB_FLXSTAT_UP l) d

/-- GLB_FLXSTATn for a link in `lanes` lanes; 0: down. -/
def setLanes (l lanes : Nat) (d : Dev) : Dev :=
  wrs [(GLB_FLXSTAT_UP l, b2n (lanes != 0)), (GLB_FLXSTAT_LANES l, lanes),
    (GLB_FLXSTAT_DEGRADED l, b2n (lanes != 0 && decide (lanes < builtLanes l)))] d

/-- The widths a link trains at (R16). -/
def widthOf (l lanes : Nat) : Bool :=
  lanes == 1 || lanes == 2 || lanes == 4 || (decide (l < 4) && lanes == 8)

/-- Every second copy on buffer die `b` is lost (R18), and the clean victims it held are no longer found there
(notes/assumptions/60). -/
def bufLost (b : Nat) (d : Dev) : Dev :=
  let on' : Copy → Bool := fun c => match c with
    | .at a => memKind a d == some .buffer && bufDieOf a == b
    | .lost => false
  let d := { d with cache := { d.cache with areas := d.cache.areas.filter (fun p => !p.2.any (fun x => x.1 == b)) } }
  setBlks (d.deal.blks.map (fun x => if on' x.c2 then { x with c2 := .lost } else x)) d

/-- Link `l` of a fitted die goes down (R17, R18). An arm drops write gate (inhibit 9), its calibration runs are abandoned (R187) and
its media work returns to the hand; what follows from its missing samples is CURRENT_LOOP_FAULT and MISSED_CURRENT_COMMANDS. Without the power die the
dealer sets CSTS.CFS (R375), and a flush cannot go on. -/
def linkDown (l : Nat) (d : Dev) : Dev :=
  let d := raise pgGlb (8 + l) (onLink l (fun x => { x with training := false }) (setLanes l 0 d))
  match dieAt l with
  | .arm n => vaultReroute n (ladderAbandon n (calAbandon n (inhibitNow n 9 d)))
  | .buf b => bufLost b d
  | .power => when' d.vault.run.isSome flushFailed (setCfs d)
  | .hub => d

/-- A buffer die is handled as lost: its dirty lines in the victim buffer are dropped (R283). -/
def bufDropped (b : Nat) (d : Dev) : Dev :=
  { d with cache := { d.cache with vb := d.cache.vb.filter (fun e =>
    !(memKind (e.line.ln * 128) d == some .buffer && bufDieOf (e.line.ln * 128) == b)) } }

/-- The lasting action of the GLB class, on the link of the error: the loss of its die (R41, Felox links). -/
def linkLasting (l : Nat) (d : Dev) : Dev :=
  let d := setDegraded pgGlb true (if flxUp l d then linkDown l d else d)
  match dieAt l with
  | .arm n => armLost n d
  | .buf b => bufDropped b d
  | _ => d

/-- One error of the GLB class on link `l`. -/
def linkClass (l : Nat) (d : Dev) : Dev := errClass pgGlb (linkLasting l) d

/-- FLIT_RECEIVE: flit number `no` of a class arrives over link `l` (R15, R16). One whose CRC fails is discarded, counted,
and replayed by its sender; delivery keeps the order of each class, so that only the next flit is delivered. -/
def flit (l : LinkId) (c : FlitClass) (no : Nat) (crcOk : Bool) (d : Dev) : Dev :=
  if !flxUp l d then d
  else if !crcOk then linkClass l (bump pgGlb (GLB_FLXERR_CRCERR l) 1 d)
  else
    onLink l (fun x =>
      match c with
      | .bulk => if no = x.nextBulk then { x with nextBulk := no + 1 } else x
      | .sideband => if no = x.nextSide then { x with nextSide := no + 1 } else x) d

/-- FLIT_RECEIVE. -/
def execFlitReceive (l : LinkId) (c : FlitClass) (no : Nat) (crcOk : Bool) (s : State) : Out := onDev (flit l c no crcOk) s

/-- LINK_TRAINING_TIMEOUT: no width of a fitted die's link trains within 100 µs (R16): the link is down. -/
def trainingTimeout (l : LinkId) (d : Dev) : Dev :=
  let d := onLink l (fun x => { x with training := false }) d
  if flxUp l d then linkDown l d else d

/-- LINK_TRAINING_TIMEOUT. -/
def execLinkTrainingTimeout (l : LinkId) (s : State) : Out := onDev (trainingTimeout l) s

/-- Arm and buffer dies have no power in PS3 and PS4 (R356). -/
def dieGated (l : Nat) (d : Dev) : Bool := decide (l < 6) && decide (3 ≤ rd PWS_PSSTAT_STATE d) && !isSet PWS_PSSTAT_BUSY d

/-- LINK_RETRAIN_RETRY: the hub trains a down link of a fitted die again (R16). -/
def retrainRetry (l : LinkId) (d : Dev) : Dev :=
  if fitted (dieAt l) d && !flxUp l d && !dieGated l d then onLink l (fun x => { x with training := true }) d else d

/-- LINK_RETRAIN_RETRY. -/
def execLinkRetrainRetry (l : LinkId) (s : State) : Out := onDev (retrainRetry l) s

/-- LINK_DOWN: the link of a fitted die goes down (R18). -/
def execLinkDown (l : LinkId) (s : State) : Out := onDev (fun d => if flxUp l d then linkDown l d else d) s

/-- Link `l` is trained at `lanes` (R16, R17): reduced width and a return to full width have an event each; every training
after the first counts as a retrain and as one error of the GLB class. The inhibit for link loss lifts (R103); an arm that
returns in cold stop stays inhibited. DESIGN CHOICE (notes/assumptions/115): R17 makes 0x018 + l the event of a link that comes
up at reduced width and 0x020 + l that of the return to full width, R18 names 0x01C and 0x01D for the full-width return of FL4 and
FL5; R17's numbering holds for every link. -/
def linkTrained (l lanes : Nat) (d : Dev) : Dev :=
  let first := !(link l d).everUp
  let was := rd (GLB_FLXSTAT_LANES l) d
  let full := lanes == builtLanes l
  let d := onLink l (fun x => { x with everUp := true, training := false }) (setLanes l lanes d)
  let d :=
    if !full && was != lanes then raise pgGlb (16 + l) d
    else if full && was != lanes && !first then raise pgGlb (24 + l) d
    else d
  let d := match dieAt l with
    | .arm n => when' (isSet THM_STAT_COLDSTOP d) (inhibitNow n 7) (inhibitLift n 9 d)
    | _ => d
  if first then d else linkClass l (bump pgGlb (GLB_FLXERR_RETRAIN l) 1 d)

/-- LINK_UP: a link in training, or one that is up and retrains, comes up at `lanes` (R16, R17). -/
def linkUpAt (l : LinkId) (lanes : Nat) (d : Dev) : Dev :=
  if fitted (dieAt l) d && widthOf l lanes && ((link l d).training || flxUp l d) then linkTrained l lanes d else d

/-- LINK_UP. -/
def execLinkUp (l : LinkId) (lanes : Nat) (s : State) : Out := onDev (linkUpAt l lanes) s

/-- The links whose dies are powered are trained together, at the widths of `lanes` by link (R34, R366); a position with no
such width is in training and not up. -/
def trainAll (lanes : List Nat) (d : Dev) : Dev :=
  each 7 (fun l d =>
    let k := lanes.getD l 0
    if !fitted (dieAt l) d then d
    else if widthOf l k then linkTrained l k d
    else onLink l (fun x => { x with training := true }) d) d

/-- The capability chain as the hub builds it: the pages of the dies that answer, in ascending offset; BUF is
present with a buffer die (R28, R34). -/
def buildChain (d : Dev) : Dev :=
  { d with chain := (allPages.filter (fun p => fitted (pageDie p.base) d && dieUp (pageDie p.base) d
      && (p.base != pgBuf || fitted (.buf 0) d))).map PageInfo.base }

/-! ## Second copies made again -/

/-- A free 4 KiB place that may take a copy: in an SDRAM region for copies outside fences, or in the mirror region of a
buffer die that is up. -/
def copyPlace (a : Nat) (d : Dev) : Bool :=
  a % 4096 == 0 && !placeUsed a d &&
    (((inSpan a (wdRegion d) || inSpan a (sdMirRegion d)) && rankFree a d) ||
      (List.range 2).any (fun b => inSpan a (bufMirRegion b d) && dieUp (.buf b) d
        && !d.cache.fenced.contains (b * 64 + (a - bufBase b) / 0x100000)))

/-- SECOND_COPY_REBUILD: the dealer makes a second copy again from the copy at `keep` (R18, R375), whose data it copies once
they are complete (R23 stage 3). A copy that a buffer die
lost goes to the SDRAM place of its first copy (R295); one in lost SDRAM to a place `to'` elsewhere. -/
def copyRebuild (keep to' : Nat) (d : Dev) : Dev :=
  match d.deal.blks.find? (fun b => !b.heldEntry && (b.c1 == .at keep || b.c2 == .at keep)) with
  | none => d
  | some b =>
    let first := b.c1 == .at keep
    let other := if first then b.c2 else b.c1
    let place := if first && other == .lost && rankFree (sdSecond keep d) d then to' == sdSecond keep d && !placeUsed to' d
      else copyPlace to' d
    if !copyGone other d || copyGone (.at keep) d || !memUp keep d || !place then d
    else
      let held := b.accepted || b.ctx.any (fun i => (ctx i d).any (fun x => x.stage == .second))
      let d := if held then copyLines keep to' d else d
      dealerGo (setBlks (d.deal.blks.map (fun x =>
        if x = b then (if first then { x with c2 := .at to' } else { x with c1 := .at to' }) else x)) d)

/-- SECOND_COPY_REBUILD. -/
def execSecondCopyRebuild (keep to' : Nat) (s : State) : Out := onDev (copyRebuild keep to') s

end Sys2Proof.Machine
end

