-- ==== Sys2Proof/Machine/Test.lean ====
section
/-!
DEFINITION. Machine/Test.lean: test and perturbation (R387 to R393): the unlock sequence, relocking, suspension, the holds of
device-originated TLPs; and the JTAG port (R394, R395).
-/
namespace Sys2Proof.Machine

def onTst (f : TestState → TestState) (d : Dev) : Dev := { d with tst := f d.tst }

/-- The perturbation fields (R390). -/
def perturbFields : List Fld :=
  (List.range 7).map TST_FLXDLY_DELAY
    ++ [TST_DMABP_DUTY, TST_DMABP_RD, TST_DMABP_WR, TST_DMABP_PERIOD, TST_CQDLY_DELAY, TST_CQDLY_QID, TST_SRVJIT_ARMS,
      TST_SRVJIT_AMP]
    ++ (List.range 4).flatMap (fun n => [TST_FRC_SYNC n, TST_FRC_RAW n, TST_FRC_RUNGMASK n, TST_FRC_EVERY n, TST_FRCCNT_LEFT n,
      TST_THMOVR_TEMP n, TST_THMOVR_SENSOR n, TST_THMOVR_EN n, TST_THMOVR_CRIT n])

/-- A perturbation register differs from its reset value. -/
def perturbed (d : Dev) : Bool := perturbFields.any (fun f => rd f d != f.rst)

/-- Every perturbation register returns to its reset value; what a control held is free (R389, R392). -/
def perturbReset (d : Dev) : Dev :=
  onTst (fun t => { t with forced := [], passed := [], dmaHeld := false }) (wrs (perturbFields.map (fun f => (f, f.rst))) d)

/-- Relocking (R389). A page that is locked already stays as it is (notes/assumptions/62). -/
def relock (d : Dev) : Dev :=
  if isSet TST_STAT_UNLOCKED d then raise pgTst 1 (dealerGo (wr TST_STAT_UNLOCKED 0 (perturbReset d))) else d

/-- A power-loss notice, or step 1 of quiesce, meets a perturbation (R392): UNLOCKED is kept. -/
def testSuspend (d : Dev) : Dev :=
  if perturbed d || d.tst.dmaHeld then raise pgTst 3 (wr TST_STAT_SUSP 1 (perturbReset d)) else d

/-- An unlock is refused (R387). -/
def unlockRefused (d : Dev) : Dev := raise pgTst 2 (wr TST_STAT_ARMED 0 (bumpEv pgTst TST_STAT_REFUSED 6 1 d))

/-- TEST_UNLOCK_KEY: a write of TST_UNLOCK by a requester (R387); `permit`: the test-disable fuse is intact. -/
def unlockKey (permit : Bool) (who : Who) (v : Nat) (d : Dev) : Dev :=
  let k := v % 65536
  if !permit || (page pgTst d).lock then unlockRefused d
  else if !isSet TST_STAT_ARMED d then
    if k = 0x7E57 then
      wr TST_STAT_ARMED 1 (onTst (fun t => { t with armBy := ownerCode who, armAt := d.time, armOver := false }) d)
    else d
  else if k = 0x81A8 ∧ d.tst.armBy = ownerCode who ∧ d.tst.armOver = false ∧ d.time - d.tst.armAt ≤ 125000 then
    raise pgTst 0 (wrs [(TST_STAT_ARMED, 0), (TST_STAT_UNLOCKED, 1)] d)
  else unlockRefused d

/-- TEST_UNLOCK_KEY. The host reaches the page only while GLB_HOSTACC.LOCK = 0 (R387). -/
def execTestUnlockKey (who : Who) (v : Nat) (s : State) : Out :=
  onState (fun s => { s with dev := byWho who (unlockKey (!s.otp.testDisabled) who v) s.dev }) s

/-- TEST_UNLOCK_WINDOW_EXPIRY: 1 ms after the first key (R387): a second key comes late from now on. -/
def unlockExpiry (d : Dev) : Dev :=
  if isSet TST_STAT_ARMED d = true ∧ d.tst.armAt + auxPerMs ≤ d.time then onTst (fun t => { t with armOver := true }) d else d

/-- TEST_UNLOCK_WINDOW_EXPIRY. -/
def execTestUnlockWindowExpiry (s : State) : Out := onDev unlockExpiry s

/-- TEST_RELOCK: TST_CTL.RELOCK (R389). -/
def execTestRelock (s : State) : Out := onDev relock s

/-- TEST_FUSE_BURN: TST_CTL.DISFUSE burns the test-disable fuse while UNLOCKED = 1, and the page relocks (R388). -/
def fuseBurn (s : State) : State :=
  if isSet TST_STAT_UNLOCKED s.dev then { s with otp := { s.otp with testDisabled := true }, dev := relock s.dev } else s

/-- TEST_FUSE_BURN. -/
def execTestFuseBurn (s : State) : Out := onState fuseBurn s

/-- SERVO_JITTER_SET: a write of TST_SRVJIT (R391). Bits of arms that are not fitted are reserved. -/
def jitterSet (v : Nat) (d : Dev) : Dev :=
  let arms := (List.range 4).filter (fun n => v.testBit n && fitted (.arm n) d)
  let amp := bits v 4 8
  if !isSet TST_STAT_UNLOCKED d then d
  else if arms.any (fun n => servo n d != svParked || decide (budgetNow n d < amp + costNow n d)) then raise pgTst 2 d
  else wrs [(TST_SRVJIT_ARMS, (arms.map (fun n => 2 ^ n)).sum), (TST_SRVJIT_AMP, amp), (TST_STAT_SUSP, 0)] d

/-- SERVO_JITTER_SET. -/
def execServoJitterSet (v : Nat) (s : State) : Out := onDev (jitterSet v) s

/-- DMA_BACKPRESSURE_PERIOD: a period of TST_DMABP begins with its hold, or the hold ends and what was held goes on in order
(R390). -/
def dmaPeriod (hold : Bool) (d : Dev) : Dev :=
  if hold then
    if isSet TST_DMABP_DUTY d && (isSet TST_DMABP_RD d || isSet TST_DMABP_WR d) then onTst (fun t => { t with dmaHeld := true }) d
    else d
  else if d.tst.dmaHeld then dealerGo (onTst (fun t => { t with dmaHeld := false }) d) else d

/-- DMA_BACKPRESSURE_PERIOD. -/
def execDmaBackpressurePeriod (hold : Bool) (s : State) : Out := onDev (dmaPeriod hold) s

/-- Posted writes are held by back-pressure. -/
def postedHeld (d : Dev) : Bool := d.tst.dmaHeld && isSet TST_DMABP_WR d

/-- The entry at the head of the ordered queue is a completion entry that TST_CQDLY delays (R390). -/
def cqeDelayed (d : Dev) : Bool :=
  match d.host.out.head? with
  | some (.cqe _ _ q _ _ _ _) => isSet TST_CQDLY_DELAY d && q != 0
      && (rd TST_CQDLY_QID d == 0 || rd TST_CQDLY_QID d == (sq q d).cq)
  | _ => false

/-- COMPLETION_DELAY_EXPIRY: the completion entry at the head of the queue has stood there for DELAY µs, and it leaves (R390). -/
def delayExpiry (d : Dev) : Dev :=
  if cqeDelayed d && !postedHeld d && decide (d.host.headAt + rd TST_CQDLY_DELAY d * auxPerUs ≤ d.time) then sendOne d else d

/-- COMPLETION_DELAY_EXPIRY. -/
def execCompletionDelayExpiry (s : State) : Out := onDev delayExpiry s

/-! ## JTAG (R394, R395) -/

/-- Load an instruction; `dr` is what its data register holds. -/
def tapLoad (ir dr : Nat) : Dev → Dev := onTst (fun t => { t with ir := ir, dr := dr })

/-- The stop actions of EXTEST, CLAMP and HIGHZ (R395): every arm retracts, the spindle coasts, the endpoint stops. No vault
flush is made. -/
def tapStop (d : Dev) : Dev :=
  let d := retractAll .hub (onTst (fun t => { t with stopped := true }) d)
  let d := phasesOff d
  endpointStop d

/-- JTAG_TAP_RESET: the TAP resets, and IDCODE is selected. -/
def execJtagTapReset (s : State) : Out := always (tapLoad 1 0x1048063D) s

/-- JTAG_IDCODE. -/
def execJtagIdcode (s : State) : Out := always (tapLoad 1 0x1048063D) s

/-- JTAG_SAMPLE_PRELOAD: the boundary register takes a sample of the balls (`balls`) and is preloaded. -/
def execJtagSamplePreload (balls preload : Nat) (s : State) : Out :=
  always (fun d => onTst (fun t => { t with boundary := preload }) (tapLoad 2 balls d)) s

/-- JTAG_EXTEST: the balls are driven from the boundary register. -/
def execJtagExtest (s : State) : Out := always (fun d => tapStop (tapLoad 3 d.tst.boundary d)) s

/-- JTAG_CLAMP. -/
def execJtagClamp (s : State) : Out := always (fun d => tapStop (tapLoad 4 0 d)) s

/-- JTAG_HIGHZ. -/
def execJtagHighz (s : State) : Out := always (fun d => tapStop (tapLoad 5 0 d)) s

/-- JTAG_THMSTAT: the data register holds the image of THM_STAT. -/
def execJtagThmstat (s : State) : Out :=
  always (fun d => tapLoad 0x10 (wordOf ((rowFlds 0x117058 hubRows).getD []) d) d) s

/-- JTAG_BYPASS: instruction 0xFF or any code without a row selects bypass. -/
def execJtagBypass (code : Fin 256) (s : State) : Out :=
  always (fun d => if [1, 2, 3, 4, 5, 0x10].contains code.val then d else tapLoad code 0 d) s

end Sys2Proof.Machine
end

