-- ==== Sys2Proof/Machine/PowerStates.lean ====
section
/-!
DEFINITION. Machine/PowerStates.lean: power states (R356 to R361), PERST_N and the internal reset (R362 to R366), what
coincides with them (R367), and the arrival of speed-step notices (R163, R26).
-/
namespace Sys2Proof.Machine

def onPws (f : PowerStates → PowerStates) (d : Dev) : Dev := { d with pws := f d.pws }

/-- The present power state; a transition is in progress. -/
def psState (d : Dev) : Nat := rd PWS_PSSTAT_STATE d
def psBusy (d : Dev) : Bool := isSet PWS_PSSTAT_BUSY d

/-- A transition is refused (R357). -/
def psRefuse (r : Nat) (d : Dev) : Dev := raise pgPws 1 (wr PWS_PSSTAT_REASON r d)

/-- PWS_SAVEBASE names a valid save region (R359). -/
def saveBaseOk (d : Dev) : Bool :=
  let a := rd PWS_SAVEBASE_ADDR d * 128
  a != 0 && a % 0x100000 == 0 && memKind a d == some .sdram && usable a (129 * 0x100000) d

/-- Trump-class work is queued or running, or a quiesce or power-loss sequence runs (R357, reason 2). -/
def trumpBusy (d : Dev) : Bool :=
  (List.range 4).any (fun n => (hand n d).any (fun w => w.trump != 0)) || d.pws.quiesce.isSome || d.deal.ploss || !flushIdle d

/-- A transition in progress ends where it stands, refused (R357, reason 5). -/
def psFail (d : Dev) : Dev :=
  psRefuse 5 (onPws (fun p => { p with goal := psState d }) (wr PWS_PSSTAT_BUSY 0 d))

/-! ## Buffer save and restore (R359, R360) -/

/-- Bring home every dirty line that the hub cache holds of the buffer store (R360 step 1). -/
def cleanBuffer (d : Dev) : Dev :=
  let buf := fun (ln : Nat) (d : Dev) => memKind (ln * 128) d == some .buffer && memUp (ln * 128) d
  let d := d.cache.vb.foldl (fun d e => if e.line.dirty && buf e.line.ln d then homeWrite e.line.ln e.line.ws d else d)
    { d with cache := { d.cache with vb := d.cache.vb.filter (fun e => !(e.line.dirty && buf e.line.ln d)) } }
  d.cache.lines.foldl (fun d p =>
    match p.2 with
    | some l => if l.dirty && buf l.ln d then
        setWay (p.1 / 16) (p.1 % 16) (some { l with dirty := false }) (homeWrite l.ln l.ws d) else d
    | none => d) d

/-- What is counted of a line that is copied from memory `k` (R359). -/
def noteCopied (k : MemKind) (ln : Nat) (ws : List (Option Cw)) (d : Dev) : Dev :=
  match lineClass ln ws with
  | .ok n => if n = 0 then d else noteFixed k n d
  | .poisoned => bumpEv pgPws PWS_SAVECNT_POISONED 8 1 d
  | .newError w s => bumpEv pgPws PWS_SAVECNT_NEWUE 8 1 (noteError k 0 ln w s false d)

/-- PWS event bit 7, when a count of PWS_SAVECNT has risen since `old`. -/
def noteCounts (old d : Dev) : Dev :=
  let sum := fun (d : Dev) => rd PWS_SAVECNT_POISONED d + rd PWS_SAVECNT_NEWUE d
  if sum old < sum d then raise pgPws 7 d else d

/-- The lines of the direct and mirror areas of die `b` that something has written. -/
def dieLines (b : Nat) (d : Dev) : List Nat :=
  let lo := bufBase b / 128
  let hi := (victimArea b d).1 / 128
  let listed := (d.mem.words.map (fun p => p.1 / 16)).filter (fun ln => decide (lo ≤ ln) && decide (ln < hi))
  let zero := d.mem.zeroed.flatMap (fun r =>
    let a := max lo (r.1 / 16)
    (List.range (min hi ((r.2 + 15) / 16) - a)).map (fun k => a + k))
  (listed ++ zero).eraseDups

/-- Save one line; its written flag is set in the saved copy. -/
def saveOne (ln : Nat) (d : Dev) : Dev :=
  let ws := d.mem.line ln
  if ws.all Option.isNone then d
  else
    let d := noteCopied .buffer ln ws d
    let p := saveLine ln d
    putMemBit p.2.1 p.2.2 true { d with mem := d.mem.setLine p.1 (moveLine ln p.1 ws) }

/-- Save die `b`: its flags are cleared first, then each written line is copied. -/
def saveDie (b : Nat) (d : Dev) : Dev :=
  let f := (rd PWS_SAVEBASE_ADDR d * 128 + 0x8000000 + b * 0x10000) / 8
  let d := { d with mem := d.mem.fill f (f + 0x2000) }
  if dieUp (.buf b) d then (dieLines b d).foldl (fun d ln => saveOne ln d) d else d

/-- BUFFER_SAVE_DONE: on the way to PS3 the direct and mirror areas of the fitted buffer dies are in the save region; from
now on accesses to them go there (R359, R360). The victim areas are dropped. -/
def bufferSave (d : Dev) : Dev :=
  if psBusy d && psState d == 2 && decide (3 ≤ d.pws.goal) && d.part.bufs != 0 && !d.pws.saved && saveBaseOk d then
    let c := cleanBuffer d
    let e := noteCounts c (each d.part.bufs saveDie c)
    onPws (fun p => { p with saved := true }) { e with redirect := true, cache := { e.cache with areas := [] } }
  else d

/-- BUFFER_SAVE_DONE. -/
def execBufferSaveDone (s : State) : Out := onDev bufferSave s

/-- Restore one line from the save region. -/
def restoreOne (ln : Nat) (d : Dev) : Dev :=
  let src := (saveLine ln d).1
  let ws := d.mem.line src
  let d := noteCopied .sdram src ws d
  { d with mem := d.mem.setLine ln (moveLine src ln ws) }

/-- Restore die `b`: the lines whose saved flag is set; every other line stays unwritten. -/
def restoreDie (b : Nat) (d : Dev) : Dev :=
  let d := { d with mem := d.mem.forget (bufBase b / 8) (bufBase b / 8 + 0x800000) }
  if !dieUp (.buf b) d then d
  else
    each 0x2000 (fun j d =>
      match d.mem.word ((rd PWS_SAVEBASE_ADDR d * 128 + 0x8000000 + b * 0x10000) / 8 + j) with
      | none => d
      | some c => each 64 (fun k d => if c.d.toNat.testBit k then restoreOne (bufBase b / 128 + 64 * j + k) d else d) d) d

/-- The save region goes back to the dies, and the redirection ends (R360). -/
def restoreAll (d : Dev) : Dev :=
  onPws (fun p => { p with saved := false, restored := true })
    { noteCounts d (each d.part.bufs restoreDie d) with redirect := false }

/-- The links of the fitted arm and buffer dies have trained, or have failed to. -/
def linksSettled (d : Dev) : Bool := (List.range 6).all (fun l => !(link l d).training)

/-- BUFFER_RESTORE_DONE: on the exit from PS3 (R359, R360). -/
def bufferRestore (d : Dev) : Dev :=
  if psBusy d && psState d == 3 && decide (d.pws.goal ≤ 2) && d.redirect && linksSettled d then restoreAll d else d

/-- BUFFER_RESTORE_DONE. -/
def execBufferRestoreDone (s : State) : Out := onDev bufferRestore s

/-! ## Transitions -/

/-- The heads of the arms whose hands have no media operation in progress are unloaded, and runs end (R357, R187). -/
def parkIdle (d : Dev) : Dev :=
  each 4 (fun n d =>
    if !fitted (.arm n) d then d
    else
      let d := calAbandon n d
      if servoOn n d && !(hand n d).any (fun w => w.started) then retract n d else d) d

/-- Dies that come up again are powered, and their links train. -/
def diesOn (d : Dev) : Dev :=
  each 6 (fun l d => if fitted (dieAt l) d then onLink l (fun x => { x with training := true }) d else d) d

/-- The arm and buffer dies are power-gated (R356, R366): their registers and contents are lost, but for what the hub keeps
(R106); notices on the way to an arm are lost with it. DESIGN CHOICE (notes/assumptions/116): a link that goes down with the power
of its die raises no link-down event, and its next training is a first one. -/
def diesOff (d : Dev) : Dev :=
  let d := each 4 (fun n d => if fitted (.arm n) d then armClear n d else d) d
  let d := each 6 (fun l d => setLink l Link.reset (setLanes l 0 d)) d
  let d := each d.part.bufs (fun b d => { d with mem := d.mem.forget (bufBase b / 8) (bufBase b / 8 + 0x800000) }) d
  { d with pwr := { d.pwr with notices := Store.cut 0 4 d.pwr.notices } }

/-- What begins the way from the present state to the next one (R357, R361). `hall` is the Hall code now, for a spindle
start. -/
def legStart (hall : Nat) (d : Dev) : Dev :=
  let s := psState d
  if s < d.pws.goal then
    if s = 0 then stepPolicy d
    else if s = 1 then parkIdle d
    else if s = 2 then ifReach pgSpn spinStop (onPws (fun p => { p with saved := false }) d)
    else d
  else if d.pws.goal < s then
    if s = 3 then
      let d := ifReach pgSpn (spinStart hall) d
      if spState d = spSixStart ∨ spRunning d = true then diesOn (stepPolicy (onPws (fun p => { p with restored := false }) d))
      else psFail d
    else if s = 1 then stepPolicy d
    else d
  else d

/-- POWER_STATE_ORDER: a write of PWS_PSCTL (R357, R368). A GO while a transition is in progress is discarded; one that asks
for a deeper state is refused as well. -/
def psOrder (v hall : Nat) (d : Dev) : Dev :=
  let d := if bits v 0 3 ≤ 4 then wr PWS_PSCTL_TARGET (bits v 0 3) d else d
  let t := rd PWS_PSCTL_TARGET d
  let s := psState d
  let deeper := decide (s < t) && decide (2 ≤ t)
  if !bitOf v 3 then d
  else if psBusy d then (if deeper then psRefuse 4 d else d)
  else if deeper && isSet CMD_WBUSE_USED d then psRefuse 1 d
  else if deeper && trumpBusy d then psRefuse 2 d
  else if deeper && decide (3 ≤ t) && d.part.bufs != 0 && !saveBaseOk d then psRefuse 3 d
  else
    let d := onPws (fun p => { p with goal := t }) (wrs [(PWS_PSSTAT_FROM, s), (PWS_PSSTAT_REASON, 0)] d)
    if t = s then raise pgPws 0 d else legStart hall (wr PWS_PSSTAT_BUSY 1 d)

/-- POWER_STATE_ORDER. -/
def execPowerStateOrder (v hall : Nat) (s : State) : Out := onDev (psOrder v hall) s

/-- What the next state needs has come about (R356, R361). -/
def legDone (d : Dev) : Bool :=
  let s := psState d
  if s < d.pws.goal then
    if s = 0 then !isSet SPN_STAT_RAMP d && (!spRunning d || rd SPN_STAT_STEP d == limitStep (rd SPN_STEPLIM_MIN d) d)
    else if s = 1 then
      (List.range 4).all (fun n => !fitted (.arm n) d || !dieUp (.arm n) d
        || (servo n d == svParked && !(hand n d).any (fun w => w.started)))
    else if s = 2 then (spState d == spStopped || spState d == spFailed) && (d.part.bufs == 0 || d.pws.saved)
    else true
  else if s = 3 then
    linksSettled d && (d.part.bufs == 0 || d.pws.restored) && spRunning d && d.pwr.reached && !isSet SPN_STAT_RAMP d
  else if s = 1 then !isSet SPN_STAT_RAMP d
  else true

/-- POWER_STATE_REACHED: the transition reaches its next state (R357); at the last one it is complete. On the way to PS2 the
heads of an arm whose hand has finished its operation meanwhile unload first. A spindle start that fails on the exit from
PS3 ends the transition there. -/
def psReached (hall : Nat) (d : Dev) : Dev :=
  if !psBusy d then d
  else if psState d = 3 ∧ d.pws.goal < 3 ∧ spState d = spFailed then psFail d
  else if !legDone d then (if psState d = 1 ∧ 1 < d.pws.goal then parkIdle d else d)
  else
    let s := psState d
    let n := if s < d.pws.goal then s + 1 else s - 1
    let d := wr PWS_PSSTAT_STATE n d
    let d := if n = 3 ∧ s = 2 then diesOff d else if n = 4 then wr DRC_STAT_SREF 3 d
      else if n = 2 ∧ s = 3 then wr DRC_STAT_SREF 0 d else d
    if n = d.pws.goal then dealerGo (raise pgPws 0 (wr PWS_PSSTAT_BUSY 0 d)) else legStart hall d

/-- POWER_STATE_REACHED. -/
def execPowerStateReached (hall : Nat) (s : State) : Out := onDev (psReached hall) s

/-- PS4_WAKE: an event has been delivered to a core in PS4 (R356). -/
def ps4Wake (d : Dev) : Dev :=
  if psState d = 4 ∧ (List.range 8).any (fun c => !(core c d).pend.isEmpty) = true then
    onPws (fun p => { p with goal := if psBusy d then p.goal else 3 }) (wrs [(PWS_PSSTAT_STATE, 3), (PWS_PSSTAT_FROM, 4)] d)
  else d

/-- PS4_WAKE. -/
def execPs4Wake (s : State) : Out := onDev ps4Wake s

/-- A transition in progress is abandoned (R367); buffer dies that are still powered take back what was saved. -/
def psAbandon (d : Dev) : Dev :=
  if !psBusy d then d
  else
    let d := onPws (fun p => { p with goal := psState d }) (wr PWS_PSSTAT_BUSY 0 d)
    if d.redirect && decide (psState d ≤ 2) then restoreAll d else d

/-! ## Quiesce and internal reset (R362 to R366) -/

/-- Step 1 of quiesce (R362): the link goes down, fetching stops, what is not accepted is abandoned; a transition is
abandoned (R367), runs end (R187), the seek interface returns (R139), perturbations end and the TST page relocks (R389,
R392). The flush of step 4 follows the bursts in progress. -/
def quiesceStart (d : Dev) : Dev :=
  let d := psAbandon d
  let d := raise pgPws 3 (endpointStop (onPws (fun p => { p with quiesce := some d.time, late := false, vinc := false }) d))
  let d := each 4 (fun n d => if fitted (.arm n) d then calAbandon n (seekReturn n d) else d) d
  onVault (fun v => { v with want := v.want ++ [.quiesce] }) (relock (testSuspend d))

/-- PERST_ASSERT: PERST_N has been low for 1 µs (R362). A quiesce or power-loss sequence that runs goes on. -/
def perstAssert (d : Dev) : Dev :=
  let d := { d with host := { d.host with perst := true } }
  if d.pws.quiesce.isSome || d.deal.ploss || isSet THM_STAT_LATCHED d then d else quiesceStart d

/-- PERST_ASSERT. -/
def execPerstAssert (s : State) : Out := onDev perstAssert s

/-- PERST_DEASSERT: PERST_N is released; before the internal reset this has no effect on the quiesce (R363). -/
def execPerstDeassert (s : State) : Out := onDev (fun d => { d with host := { d.host with perst := false } }) s

/-- QUIESCE_TIMEOUT: steps 1 to 7 have not completed within 1.5 s (R363). -/
def quiesceTimeout (d : Dev) : Dev :=
  if d.pws.quiesce.any (fun t => decide (t + 1500 * auxPerMs ≤ d.time)) && !d.pws.late then
    raise pgPws 5 (wr PWS_RSTSTAT_QLATE 1 (onPws (fun p => { p with late := true }) d))
  else d

/-- QUIESCE_TIMEOUT. -/
def execQuiesceTimeout (s : State) : Out := onDev quiesceTimeout s

/-- The field under a key survives PERST_N (R366): RWS and RWL fields, GLB_HOSTACC.LOCK, what comes from
fuses (R220), excluded sensors (R344); on the power
die everything under PKEEP = 1, and what it measures in any case; in retaining form the SDRAM controller's state. The arm
dies' fields are left to `armClear`. -/
def survives (pkeep retain : Bool) (key : Nat) : Bool :=
  let off := key / 32
  let a := accAt key
  if 0x120000 ≤ off ∧ off < 0x160000 then true
  else a == some .rws || a == some .rwl || key == GLB_HOSTACC_LOCK.key || key == HEP_SSID_SVID.key || key == HEP_SSID_SSID.key
    || (List.range 48).any (fun n => key == (THM_TS_EXCL n).key)
    || (retain && (off == 0x112040 || off == 0x112044))
    || (decide (0x160000 ≤ off) && decide (off < 0x164000) && (pkeep || a == some .ro))

/-- A page header after PERST_N (R366): LOCK and the RWL fields of PG_ERRWIN stay; on the power die under PKEEP = 1 all of
it. Times count from the reset on. -/
def hdrSurvives (pkeep : Bool) (now : Nat) (base : Nat) (h : PageHdr) : PageHdr :=
  if 0x160000 ≤ base ∧ base < 0x164000 ∧ pkeep = true then
    { h with err := { h.err with stamps := h.err.stamps.map (fun t => t - now) } }
  else { PageHdr.reset base with lock := h.lock, window := h.window, thresh := h.thresh }

/-- Replace the headers of the pages outside the arm dies. -/
def hdrsReset (pkeep : Bool) (old : Dev) (d : Dev) : Dev :=
  allPages.foldl (fun d p =>
    if 0x120000 ≤ p.base ∧ p.base < 0x160000 then setPage p.base (page p.base old) d
    else setPage p.base (hdrSurvives pkeep (nowMs old) p.base (page p.base old)) d) d

/-- The device as step 8 of quiesce leaves it (R362, R366): the hub reset, the arm and buffer dies power-cycled and their
links trained anew at `lanes`, the capability chain as it was (R34), the power die as PKEEP says, PWS_RSTSTAT describing this reset. -/
def resetDev (since : Nat) (lanes : List Nat) (d : Dev) : Dev :=
  let pkeep := isSet SPN_CTL_PKEEP d
  let p := d.pws
  let d := if pkeep then d else ifReach pgSpn spinStop d
  let ms := min 0xFFFF ((d.time - since) / auxPerMs)
  let mem := (List.range 2).foldl (fun (m : Memory) b => m.forget (bufBase b / 8) (bufBase b / 8 + 0x800000)) d.mem
  let v := d.vault
  let new : Dev := { Dev.reset with
    part := d.part, regs := d.regs.filter (fun q => survives pkeep p.retain q.1), fresh := d.fresh, keys := d.keys,
    arms := d.arms, mem := mem,
    host := { HostSide.reset with cfg := d.host.cfg.filter (fun q => (cfgRow q.1).sticky), perst := d.host.perst },
    recd := { d.recd with queue := [], cycle := (0, 0), drops := min 0xFFFFFFFF (d.recd.drops + d.recd.queue.length), ctrDue := false, nor := none, ops := opsNow d, opsFrom := 0 },
    vault := { Vault.reset with
      area0 := v.area0, area1 := v.area1, placed := v.written, written := v.written, passed := v.written,
      retained := if p.retain then v.retained else [] },
    pwr := { d.pwr with
      notices := Store.cut 0 4 d.pwr.notices, started := d.pwr.started - d.time, retAt := (List.range 4).foldl (fun m n => Store.put 0 n (Store.get 0 n d.pwr.retAt - d.time) m) [], coreMv := coreMv d, coreAt := 0, rampEnd := d.pwr.rampEnd.map (fun t => t - d.time),
      demand := if pkeep then d.pwr.demand else [] },
    zon := { ZoneEng.reset with short := d.zon.short },
    kmu := { Keys.reset with srcFail := d.kmu.srcFail, slow := d.kmu.slow },
    tst := { TestState.reset with ir := d.tst.ir, dr := d.tst.dr, boundary := d.tst.boundary },
    sup := { d.sup with actAt := none } }
  let new := each 4 (fun n d => if fitted (.arm n) d then armClear n d else d) (hdrsReset pkeep d new)
  let new := wrs [(PWS_RSTSTAT_POR, 0), (PWS_RSTSTAT_PERST, 1), (PWS_RSTSTAT_QLATE, b2n p.late),
    (PWS_RSTSTAT_VINC, b2n p.vinc), (PWS_RSTSTAT_WDEXP, b2n (p.wdDone != 0)), (PWS_RSTSTAT_RETAIN, b2n p.retain),
    (PWS_RSTSTAT_QTIME, ms)] new
  { trainAll lanes new with chain := d.chain }

/-- Accepted writes remain that no vault arm can write (R364). -/
def mustRetain (d : Dev) : Bool := !canVault d && d.deal.blks.any (fun b => b.accepted && !b.heldEntry)

/-- The flush of step 4 is over, or no vault arm remains, and the NOR operation in progress has ended (R362, R363). -/
def quiesceOver (d : Dev) : Bool :=
  (flushIdle d || !canVault d) && !burstsOpen d && d.recd.nor.isNone && !d.deal.ploss && !isSet THM_STAT_LATCHED d

/-- INTERNAL_RESET: quiesce goes on after its flush (R362 steps 5 to 8): while heads are loaded, they retract; once they are
parked, the counter entry is written, and the internal reset follows. -/
def internalReset (lanes : List Nat) (d : Dev) : Dev :=
  match d.pws.quiesce with
  | none => d
  | some t =>
    if !quiesceOver d then d
    else if (List.range 4).any (fun n => fitted (.arm n) d && dieUp (.arm n) d && servo n d != svParked) then
      each 4 (fun n d => if servoOn n d then retract n d else d) d
    else
      let d := if mustRetain d then retainForm d else d
      let d := norDone true (logAppend (onRec (fun x => { x with ctrDue := true }) d))
      resetDev t lanes (raise pgPws 4 d)

/-- INTERNAL_RESET. -/
def execInternalReset (lanes : List Nat) (s : State) : Out := onDev (internalReset lanes) s

/-! ## Speed-step notices (R163) -/

/-- A power-loss notice reaches the hub (R168, R367): a transition is abandoned and a quiesce becomes the power-loss sequence;
fetching stops, what is not accepted is abandoned, the flush is wanted. Below PS1 nothing is vaulted. -/
def plossStart (d : Dev) : Dev :=
  if d.deal.ploss then d
  else
    let low := decide (2 ≤ psState d)
    let d := abandonAll (onDeal (fun x => { x with ploss := true }) (psAbandon d))
    let d := onRec (fun x => { x with ctrDue := true }) (testSuspend (wr CMD_STAT_NOFETCH 1 d))
    let running := d.vault.run == some .quiesce
    let d := onPws (fun p => { p with quiesce := none }) d
    onVault (fun v => { v with
      run := if running then some .powerLoss else v.run,
      want := v.want.filter (fun w => w != .quiesce) ++ (if low || running then [] else [.powerLoss]) }) d

/-- Normal operation after a power loss (R170): fetching goes on, unless a shutdown has stopped it; a PERST_N that is
asserted is seen now. -/
def plossEnd (d : Dev) : Dev :=
  let d := onDeal (fun x => { x with ploss := false }) d
  let d := if d.deal.stop then d else wr CMD_STAT_NOFETCH 0 d
  if d.host.perst then quiesceStart d else dealerGo d

/-- A notice at the hub: service-time estimates follow the target step (R26). -/
def noticeHub (nt : Notice) (d : Dev) : Dev :=
  let d := if nt.tgt ≤ 4 then onDeal (fun x => { x with step := nt.tgt }) d else d
  if nt.tgt = 7 then (if nt.start then plossStart d else d)
  else if d.deal.ploss then plossEnd d else d

/-- A notice at arm `n` (R139, R168, R187, R134): power loss ends every run and every operation in progress; a start notice
ends runs, and from the aligned wedge boundary at which the ramp starts the taps are those that the target step allows. -/
def noticeArm (n : Nat) (nt : Notice) (d : Dev) : Dev :=
  if nt.tgt = 7 then
    if nt.start then onArm n (fun a => { a with plossSeen := true }) (ladderAbandon n (calAbandon n (seekReturn n d))) else d
  else
    let d := onArm n (fun a => { a with ramping := nt.start, plossSeen := false }) d
    let d := if nt.start then calLeave n (calAbandonKind n 1 (calAbandonKind n 0 d)) else d
    let d := if nt.tgt ≤ 4 then onArm n (fun a => { a with stepSeen := nt.tgt }) d else d
    if unloaded n d then shedUpdate n d else d

/-- SPEED_STEP_NOTICE: the oldest notice on the way to arm `dest`, or to the hub (4), arrives (R26, R163); while a link on its
way is down it waits. -/
def noticeArrives (dest : Fin 5) (d : Dev) : Dev :=
  match Store.get [] dest.val d.pwr.notices with
  | [] => d
  | nt :: rest =>
    let up := dieUp .power d && (dest.val == 4 || !fitted (.arm dest) d || dieUp (.arm dest) d)
    if !up then d
    else
      let d := onPwr (fun p => { p with notices := Store.put [] dest.val rest p.notices }) d
      if dest.val = 4 then noticeHub nt d else if fitted (.arm dest) d then noticeArm dest nt d else d

/-- SPEED_STEP_NOTICE. -/
def execSpeedStepNotice (dest : Fin 5) (s : State) : Out := onDev (noticeArrives dest) s

end Sys2Proof.Machine
end

