-- ==== Sys2Proof/Machine/Pages.lean ====
section
/-!
DEFINITION. Machine/Pages.lean: the common page header as software reads and writes it (R28 to R34, R41), and the event
router (R36 to R40).
-/
namespace Sys2Proof.Machine

/-- BAR0 offset of the page in row `k` of R28. -/
def pageAt (k : PageNo) : Nat := ((allPages[k.val]?).map PageInfo.base).getD 0

/-! ## Event enables and status (R38) -/

/-- Deliver event `k` of a page now, to the cores, MSI-X and the log that its route entry names. -/
def deliverNow (base k : Nat) (d : Dev) : Dev :=
  if reach base d then
    let e := evBase base + k
    let sev := rd (EVT_ROUTE_SEV e) d
    let pay := generalPayload (page base d).raw (errCntWord (page base d) d)
    let d := deliver e sev (rd (EVT_ROUTE_CORES e) d) d
    if isSet (EVT_ROUTE_LOG e) d then queueRec ⟨e, sev, pay⟩ d else d
  else d

/-- The enable bits of a page that stand for events: the others are reserved. -/
def evenMask (base v : Nat) : Word := BitVec.ofNat 32 (v % 2 ^ nEvt base)

/-- PG_EVEN_WRITE: a newly set enable over a set status bit delivers the event once (R38). -/
def evenWrite (base v : Nat) (d : Dev) : Dev :=
  let h := page base d
  let new := evenMask base v
  let due := (List.range 32).filter (fun k => new.getLsbD k && !h.even.getLsbD k && h.stat.getLsbD k)
  due.foldl (fun d k => deliverNow base k d) (onPage base (fun h => { h with even := new }) d)

/-- PG_EVEN_WRITE. -/
def execPgEvenWrite (page : PageNo) (v : Nat) (s : State) : Out := onDev (ifReach (pageAt page) (evenWrite (pageAt page) v)) s

/-- PG_EVSTAT_CLEAR: a written 1 clears a status bit. Where the event occurs again in the same cycle (`again`), the bit
stays set and nothing is delivered (R40). -/
def evstatClear (base v again : Nat) (d : Dev) : Dev :=
  onPage base (fun h => { h with stat := h.stat &&& ~~~ (BitVec.ofNat 32 v &&& ~~~ BitVec.ofNat 32 again) }) d

/-- PG_EVSTAT_CLEAR. -/
def execPgEvstatClear (page : PageNo) (v again : Nat) (s : State) : Out :=
  onDev (ifReach (pageAt page) (evstatClear (pageAt page) v again)) s

/-! ## The router (R36, R39, R40) -/

/-- EVT_SWSET: each written 1 raises a software event with the severity and to the destinations of its route entry (R36). -/
def swSet (v : Nat) (d : Dev) : Dev :=
  each 32 (fun k d =>
    if v.testBit k then raiseFree (0x60 + k) (rd (EVT_ROUTE_SEV (0x60 + k)) d) (rd (EVT_ROUTE_CORES (0x60 + k)) d) d else d) d

/-- EVT_SWSET. -/
def execEvtSwset (v : Nat) (s : State) : Out := onDev (swSet v) s

/-- The event that a claim of core `c` returns: the highest severity, and within it the lowest number. -/
def claimOf (pend : List (Nat × Nat)) : Option (Nat × Nat) :=
  pend.foldl (fun b p => match b with
    | none => some p
    | some q => if q.2 < p.2 ∨ (q.2 = p.2 ∧ p.1 < q.1) then some p else b) none

/-- EVT_CLAIM: a read of EVT_CLAIMc takes that event out of core `c`'s pending set. -/
def claim (c : CoreId) (d : Dev) : Dev :=
  match claimOf (core c d).pend with
  | none => { d with rdata := 0 }
  | some p =>
    { onCore c (fun x => { x with pend := x.pend.filter (fun q => q != p) }) d with rdata := p.1 + p.2 * 2 ^ 15 + 2 ^ 31 }

/-- EVT_CLAIM. -/
def execEvtClaim (c : CoreId) (s : State) : Out := onDev (claim c) s

/-- EVT_ROUTE_WRITE: a write of EVT_ROUTEn (R40). Reserved values leave their field and raise event 0x040; a core that is
taken out of CORES loses the event from its pending set. -/
def routeWrite (n v : Nat) (d : Dev) : Dev :=
  if (page pgEvt d).lock then d
  else
    let old := rd (EVT_ROUTE_CORES n) d
    let new := bits v 8 8
    let badV := decide (64 < bits v 0 7)
    let badS := decide (4 < bits v 16 3)
    let d := wrs [(EVT_ROUTE_MSIX n, bits v 7 1), (EVT_ROUTE_CORES n, new), (EVT_ROUTE_LOG n, bits v 19 1)] d
    let d := if badV then d else wr (EVT_ROUTE_VECTOR n) (bits v 0 7) d
    let d := if badS then d else wr (EVT_ROUTE_SEV n) (bits v 16 3) d
    let d := each 8 (fun c d =>
      if old.testBit c && !new.testBit c then onCore c (fun x => { x with pend := x.pend.filter (fun p => p.1 != n) }) d else d) d
    if badV || badS then raise pgEvt 0 d else d

/-- EVT_ROUTE_WRITE. -/
def execEvtRouteWrite (n : Fin 768) (v : Nat) (s : State) : Out := onDev (routeWrite n v) s

/-- Word `w` of EVT_PEND: events delivered to a core and not claimed, or waiting on a masked MSI-X vector. -/
def pendWord (w : Nat) (d : Dev) : Nat :=
  (((List.range 32).filter (fun k =>
    (List.range 8).any (fun c => (core c d).pend.any (fun p => p.1 == 32 * w + k))
      || d.host.pba.any (fun p => p.2 == 32 * w + k))).map (fun k => 2 ^ k)).sum

/-! ## Error classes (R41) -/

/-- PG_ERRWIN_WRITE: the window and the threshold are set and the window is emptied; a locked page takes no write. -/
def errwinWrite (base v : Nat) (d : Dev) : Dev :=
  onPage base (fun h => if h.lock then h else
    { h with window := bits v 0 16, thresh := bits v 16 8, err := { h.err with stamps := [] } }) d

/-- PG_ERRWIN_WRITE. -/
def execPgErrwinWrite (page : PageNo) (v : Nat) (s : State) : Out := onDev (ifReach (pageAt page) (errwinWrite (pageAt page) v)) s

/-- An error class whose LASTING bit is cleared: promotion is armed again and the window is empty. -/
def ErrWin.rearm (e : ErrWin) : ErrWin := if e.lasting then ErrWin.empty else e

/-- LASTING_CLEAR: PG_ERRCNT.LASTING is cleared; no lasting action is undone. -/
def lastingClear (base : Nat) (d : Dev) : Dev := onPage base (fun h => { h with err := h.err.rearm }) d

/-- LASTING_CLEAR. -/
def execLastingClear (page : PageNo) (s : State) : Out := onDev (ifReach (pageAt page) (lastingClear (pageAt page))) s

/-- ERROR_WINDOW_EXPIRY: the errors whose age has reached WINDOW leave the window. -/
def windowExpiry (base : Nat) (d : Dev) : Dev :=
  onPage base (fun h => { h with err := { h.err with stamps := h.err.inside h.window (nowMs d) } }) d

/-- ERROR_WINDOW_EXPIRY. -/
def execErrorWindowExpiry (page : PageNo) (s : State) : Out := onDev (windowExpiry (pageAt page)) s

/-- PAGE_LOCK: PG_CTL.LOCK is set (R33); the TST page relocks as well (R389). -/
def pageLock (base : Nat) (d : Dev) : Dev :=
  let d := onPage base (fun h => { h with lock := true }) d
  if base = pgTst then relock d else d

/-- PAGE_LOCK. -/
def execPageLock (page : PageNo) (s : State) : Out := onDev (ifReach (pageAt page) (pageLock (pageAt page))) s

/-! ## The header as a whole -/

/-- A write of PG_CTL: GLB, CLK, PWS and EVT hold ENABLE at 1. -/
def pgctlWrite (base v : Nat) (d : Dev) : Dev :=
  let held := base == pgGlb || base == pgClk || base == pgPws || base == pgEvt
  let d := onPage base (fun h => { h with enable := held || bitOf v 0, freeze := bitOf v 1 }) d
  if bitOf v 31 then pageLock base d else d

/-- A write of header register `o` of a page. -/
def headerWrite (base o v : Nat) (d : Dev) : Dev :=
  match o with
  | 0x0C => pgctlWrite base v d
  | 0x18 => evenWrite base v d
  | 0x1C => evstatClear base v 0 d
  | 0x20 => errwinWrite base v d
  | 0x24 => if bitOf v 8 then lastingClear base d else d
  | _ => d

/-- The page after `base` in the chain (R34). -/
def chainNext (base : Nat) : List Nat → Nat
  | [] => 0
  | p :: ps => if p = base then ps.headD 0 else chainNext base ps

/-- What header register `o` of a page reads as. `permit`: the test-disable fuse is intact (R388). -/
def headerRead (permit : Bool) (base o : Nat) (d : Dev) : Nat :=
  let h := page base d
  let p := (pageInfo base).getD ⟨base, 0, 0, 0, 0⟩
  match o with
  | 0x00 => p.typ * 65536 + p.inst * 256 + 1
  | 0x04 => chainNext base d.chain
  | 0x08 => if base = pgTst ∧ permit = true then 1 else 0
  | 0x0C => b2n h.enable + 2 * b2n h.freeze + 2 ^ 31 * b2n h.lock
  | 0x10 => b2n h.ready + 2 * b2n h.fault + 4 * b2n h.degraded + 8 * b2n h.busy
  | 0x14 => h.raw.toNat
  | 0x18 => h.even.toNat
  | 0x1C => h.stat.toNat
  | 0x20 => h.window + h.thresh * 65536
  | 0x24 => errCntWord h d
  | 0x28 => p.evBase + p.nevt * 65536
  | _ => 0

end Sys2Proof.Machine
end

