-- ==== Sys2Proof/Machine/CoreRegs.lean ====
section
/-!
DEFINITION. Machine/CoreRegs.lean: the registers that control the Wiloz cores (R42, R46 to R48, R55): release, watchdogs,
the machine timer, the rollback counter and the revocation of a key slot.
-/
namespace Sys2Proof.Machine

/-- CORE_RELEASE: a write of GLB_CORERUN; a core whose bit is newly set starts in machine mode at its GLB_COREPC address. -/
def coreRelease (v : Nat) (d : Dev) : Dev :=
  each 8 (fun c d =>
    if v.testBit c && !coreRuns c d then
      setBit GLB_CORERUN_RUN c (onCore c (fun x =>
        { Core.reset with
          pc := rd (GLB_COREPC_PC c) d * 8, pend := x.pend, wdPeriod := x.wdPeriod, wdStart := x.wdStart }) d)
    else d) d

/-- CORE_RELEASE. -/
def execCoreRelease (v : Nat) (s : State) : Out := onDev (coreRelease v) s

/-! ## Watchdogs (R48) -/

/-- The watchdog of core `c` counts: it is enabled and has not expired. -/
def wdCounts (c : Nat) (d : Dev) : Bool := isSet (GLB_WDCTL_EN c) d && !d.pws.wdDone.testBit c

/-- The watchdog of core `c` expires: EXP, the non-maskable event at every other running core whose watchdog has not expired,
and CSTS.CFS. -/
def wdExpire (c : Nat) (d : Dev) : Dev :=
  let d := setBit EVT_WDSTAT_EXP c (onPws (fun p => { p with wdDone := p.wdDone ||| 2 ^ c }) d)
  let mask := (((List.range 8).filter (fun k => k != c && coreRuns k d && !d.pws.wdDone.testBit k)).map (fun k => 2 ^ k)).sum
  setCfs (raiseFree c 4 mask d)

/-- The period of core `c`'s watchdog has passed. -/
def wdDue (c : Nat) (d : Dev) : Bool := decide ((core c d).wdPeriod * auxPerMs ≤ d.time - (core c d).wdStart)

/-- WATCHDOG_KICK: a write of GLB_WDKICKc. One that comes when the period has passed is discarded, and the expiry takes
effect. -/
def wdKick (c : CoreId) (v : Nat) (d : Dev) : Dev :=
  if !wdCounts c d then d
  else if v = 0xA5C3 ∧ wdDue c d = false then onCore c (fun x => { x with wdStart := d.time, wdPeriod := rd (GLB_WDCTL_PERIOD c) d }) d
  else wdExpire c d

/-- WATCHDOG_KICK. -/
def execWatchdogKick (c : CoreId) (v : Nat) (s : State) : Out := onDev (wdKick c v) s

/-- WATCHDOG_EXPIRY. -/
def wdTimeout (c : CoreId) (d : Dev) : Dev := if wdCounts c d && wdDue c d then wdExpire c d else d

/-- WATCHDOG_EXPIRY. -/
def execWatchdogExpiry (c : CoreId) (s : State) : Out := onDev (wdTimeout c) s

/-- A write of GLB_WDCTLc: a PERIOD written while the watchdog is enabled waits for the next kick; EN starts it. -/
def wdctlWrite (c v : Nat) (d : Dev) : Dev :=
  let was := isSet (GLB_WDCTL_EN c) d
  let d := wr (GLB_WDCTL_DBGPAUSE c) (bits v 17 1) d
  let d := if bits v 0 16 = 0 then d else wr (GLB_WDCTL_PERIOD c) (bits v 0 16) d
  if was then d
  else
    let d := onCore c (fun x => { x with wdPeriod := rd (GLB_WDCTL_PERIOD c) d }) d
    if bitOf v 16 then onCore c (fun x => { x with wdStart := d.time }) (wr (GLB_WDCTL_EN c) 1 d) else d

/-! ## Machine timer (R46) -/

/-- The compare value of core `c`. -/
def mtcmp (c : Nat) (d : Dev) : Nat := rd (GLB_MTCMP_LO c) d + 2 ^ 32 * rd (GLB_MTCMP_HI c) d

/-- The machine timer interrupt of core `c` is asserted. -/
def timerPending (c : Nat) (d : Dev) : Bool := decide (mtcmp c d ≤ d.time)

/-- The machine external interrupt of core `c` is asserted; its non-maskable input is asserted (R39). -/
def externalPending (c : Nat) (d : Dev) : Bool := (core c d).pend.any (fun p => decide (p.2 ≤ 3))
def nmiPending (c : Nat) (d : Dev) : Bool := (core c d).pend.any (fun p => decide (4 ≤ p.2))

/-- The machine interrupt-pending bits of core `c`: MTIP (7) and MEIP (11). -/
def mipOf (c : Nat) (d : Dev) : Nat := 2 ^ 7 * b2n (timerPending c d) + 2 ^ 11 * b2n (externalPending c d)

/-- MACHINE_TIMER_INTERRUPT: the count has reached GLB_MTCMPc: a core that waits in WFI with the interrupt enabled wakes. -/
def timerAssert (c : CoreId) (d : Dev) : Dev :=
  if timerPending c d && (Store.get 0 0x304 (core c d).csr).testBit 7 && !(core c d).halted then
    onCore c (fun x => { x with wfi := false }) d
  else d

/-- MACHINE_TIMER_INTERRUPT. -/
def execMachineTimerInterrupt (c : CoreId) (s : State) : Out := onDev (timerAssert c) s

/-! ## Rollback counter and key revocation (R47) -/

/-- A GLB_ROLLBACK write is discarded: GO with a TARGET not above COUNT or above SECVER, or KEY0REV while the running image
was not verified by key-hash slot 1. -/
def rollbackBad (v : Nat) (s : State) : Bool :=
  (bitOf v 16 && !(decide (s.otp.rollback < bits v 8 8) && decide (bits v 8 8 ≤ rd GLB_BOOTSTAT_SECVER s.dev)))
    || (bitOf v 17 && !isSet GLB_BOOTSTAT_KEY s.dev)

/-- A write of GLB_ROLLBACK. -/
def rollbackWrite (v : Nat) (s : State) : State :=
  if rollbackBad v s then s
  else
    let d := wr GLB_ROLLBACK_TARGET (bits v 8 8) s.dev
    let d := if bitOf v 16 then wr GLB_ROLLBACK_GO 1 d else d
    { s with dev := d, otp := { s.otp with key0rev := s.otp.key0rev || bitOf v 17 } }

/-- ROLLBACK_BURN: GLB_ROLLBACK is written with GO and a TARGET. -/
def execRollbackBurn (target : Fin 256) (s : State) : Out := onState (rollbackWrite (target * 256 + 65536)) s

/-- ROLLBACK_BURN_COMPLETE: the burn reaches TARGET; the counter never falls. A TARGET written without GO while the burn runs
is the one it ends at. DESIGN CHOICE, notes/assumptions/97. -/
def burnDone (s : State) : State :=
  if isSet GLB_ROLLBACK_GO s.dev then
    { s with
      otp := { s.otp with rollback := max s.otp.rollback (rd GLB_ROLLBACK_TARGET s.dev) }
      dev := raise pgGlb 2 (wr GLB_ROLLBACK_GO 0 s.dev) }
  else s

/-- ROLLBACK_BURN_COMPLETE. -/
def execRollbackBurnComplete (s : State) : Out := onState burnDone s

/-- KEY0_REVOKE: GLB_ROLLBACK is written with KEY0REV and the TARGET it holds. -/
def execKey0Revoke (s : State) : Out :=
  onState (fun s => rollbackWrite (rd GLB_ROLLBACK_TARGET s.dev * 256 + 131072) s) s

end Sys2Proof.Machine
end

