-- ==== Sys2Proof/Machine/HubCache.lean ====
section
/-!
DEFINITION. Machine/HubCache.lean: the commands of the hub cache and the buffer store (R271 to R281): geometry, way
locks, zeroing a line, the range engine, the victim buffer and the areas of the buffer dies.
-/
namespace Sys2Proof.Machine

/-- Write every dirty line home and empty the whole cache, the core D-caches included (R271). -/
def flushCache (d : Dev) : Dev :=
  eachCore (fun x => { x with dlines := [] }) (each 16 cleanWay d)

/-- A write to HCC_WAYCFG (R271): accepted only while no way is locked. -/
def cacheReconfigure (v : Nat) (d : Dev) : Dev :=
  if rd HCC_LOCK_MASK d ≠ 0 then raise pgHcc 3 d
  else wrs [(HCC_WAYCFG_ASSOC, bits v 0 2), (HCC_WAYCFG_HASH, bits v 2 1)] (flushCache d)

/-- Number of set bits among the lowest `n`. -/
def popcount (v n : Nat) : Nat := ((List.range n).filter v.testBit).length

/-- The lock mask would leave a way group of the present mode without a way that is unlocked and not fenced (R274). -/
def starvesGroup (mask : Nat) (d : Dev) : Bool :=
  (List.range (16 / waysPerSet d)).any (fun g =>
    !(groupWays g d).any (fun w => !mask.testBit w && !wayFenced w d))

/-- A write to HCC_LOCK.MASK (R274): a newly locked way is cleaned and emptied first. -/
def wayLock (v : Nat) (d : Dev) : Dev :=
  let m := bits v 0 16
  if 12 < popcount m 16 ∨ starvesGroup m d ∨ isSet HCC_RCTL_BUSY d then raise pgHcc 3 d
  else
    let old := rd HCC_LOCK_MASK d
    wr HCC_LOCK_MASK m (each 16 (fun w d => when' (m.testBit w && !old.testBit w) (cleanWay w) d) d)

/-- Zero a line in the cache (R276): in place where it is present, else in a newly allocated way, dirty either way. -/
def zeroInCache (ln : Nat) (d : Dev) : Dev := lineStore ln (zeroLine ln) none d

/-- A write to HCC_CZERO (R276). A line outside usable memory is left alone. -/
def czero (v : Nat) (d : Dev) : Dev :=
  let ln := bits v 0 28
  if usable (ln * 128) 128 d then zeroInCache ln (noteAccess ln d) else d

/-- Drop a line wherever the cache holds it, dirty data included, with the D-cache copies (R277). -/
def dropLine (ln : Nat) (d : Dev) : Dev :=
  let d := dInval ln none d
  let d := match findWay ln d with | some w => setWay (setOf ln d).1 w none d | none => d
  match vbFind ln d with | some k => vbErase k d | none => d

/-- Write a dirty line of the cache home; it stays valid and clean (R277). One in the victim buffer goes to the next level. -/
def cleanLine (ln : Nat) (d : Dev) : Dev :=
  match findWay ln d with
  | none =>
    match vbFind ln d with
    | some k => if memUp (ln * 128) d then vbSettle k d else d
    | none => d
  | some w =>
    match wayLine (setOf ln d).1 w d with
    | some l => if l.dirty then setWay (setOf ln d).1 w (some { l with dirty := false }) (homeWrite ln l.ws d) else d
    | none => d

/-- LOCKFILL of one line into a locked way (R275, R283): a copy in another way moves there with its dirty state; an entry of the victim
buffer is accepted first; else the line comes from the victim area or its home. -/
def lockFillLine (way ln : Nat) (d : Dev) : Dev :=
  let row := (setOf ln d).1
  match findWay ln d with
  | some w =>
    if w = way then d
    else setWay row way (wayLine row w d) (setWay row w none d)
  | none =>
    let d := match vbFind ln d with | some k => vbSettle k d | none => d
    match Store.get none ln d.cache.areas with
    | some (_, ws) =>
      setWay row way (some ⟨ln, false, ws⟩) { d with cache := { d.cache with areas := Store.put none ln none d.cache.areas } }
    | none =>
      let r := homeRead ln false d
      setWay row way (some ⟨ln, false, r.2.1⟩) r.1

/-- LOCKZERO of one line: zeros in the locked way as a dirty line, any other copy dropped without writeback (R275). -/
def lockZeroLine (way ln : Nat) (d : Dev) : Dev :=
  let d := dropLine ln d
  setWay (setOf ln d).1 way (some ⟨ln, true, zeroLine ln⟩)
    { d with cache := { d.cache with areas := Store.put none ln none d.cache.areas } }

/-- The range engine skips the line (R277): outside usable memory, on a buffer die whose link is down, or, once
firmware is ready, in the write-data region for the operations that drop or zero. -/
def rangeSkips (op ln : Nat) (d : Dev) : Bool :=
  !usable (ln * 128) 128 d || !memUp (ln * 128) d
    || (fwReady d && inSpan (ln * 128) (wdRegion d) && (op == 0 || op == 2 || op == 3))

/-- What the range engine does to one line (R277). -/
def rangeLine (op way ln : Nat) (d : Dev) : Dev :=
  if op = 0 then dropLine ln d
  else if op = 1 then cleanLine ln d
  else if op = 2 then dropLine ln (cleanLine ln d)
  else if op = 3 then zeroInCache ln d
  else if op = 4 then lockFillLine way ln d
  else lockZeroLine way ln d

/-- A lock operation meets the requirements of R275. -/
def lockOpOk (way : Nat) (d : Dev) : Bool :=
  let ln := rd HCC_RBASE_ADDR d
  ln % 32768 == 0 && rd HCC_RLEN_LINES d == 32768 && wayLocked way d && (setOf ln d).2 == way / waysPerSet d

/-- The lines of the range, in ascending order, each handled whole (R277). -/
def rangeRun (op way : Nat) (d : Dev) : Dev :=
  let base := rd HCC_RBASE_ADDR d
  each (rd HCC_RLEN_LINES d) (fun k d =>
    let ln := base + k
    let d := if rangeSkips op ln d then { d with cache := { d.cache with skipped := true } } else rangeLine op way ln d
    wr HCC_RPROG_DONE (k + 1) d) d

/-- A write of HCC_RCTL with GO = 1 (R275, R277): discarded while BUSY = 1; a lock operation that misses a requirement
is refused; otherwise the operation starts and handles the range. -/
def rangeStart (op way : Nat) (d : Dev) : Dev :=
  if isSet HCC_RCTL_BUSY d then d
  else
    let d := wr HCC_RCTL_OP op d
    let d := if 4 ≤ op then wr HCC_RCTL_WAY way d else d
    if 4 ≤ op ∧ lockOpOk way d = false then raise pgHcc 2 (wr HCC_RCTL_REFUSED 1 d)
    else
      let d := wr HCC_RPROG_DONE 0 { d with cache := { d.cache with skipped := false } }
      wr HCC_RCTL_BUSY 1 (setBusy pgHcc true (rangeRun op way d))

/-- The range operation ends (R277). -/
def rangeDone (d : Dev) : Dev :=
  if isSet HCC_RCTL_BUSY d then
    let sk := d.cache.skipped
    let d := setBusy pgHcc false (wrs [(HCC_RCTL_BUSY, 0), (HCC_RCTL_DONE, 1)] d)
    let d := if sk then raise pgHcc 1 (wr HCC_RCTL_ERR 1 d) else d
    raise pgHcc 0 d
  else d

/-- A write to BUF_CFGd or BUF_MIRd (R278): discarded with BUF event 3 once firmware is ready or where the areas would
overlap; a new VICSZ marks every victim-area line of the die invalid. -/
def bufCfgWrite (mirror : Bool) (b v : Nat) (d : Dev) : Dev :=
  if fitted (.buf b) d then
    let vic := if mirror then rd (BUF_CFG_VICSZ b) d
      else if (BUF_CFG_VICSZ b).allows (bits v 0 6) then bits v 0 6 else rd (BUF_CFG_VICSZ b) d
    let base := if mirror then bits v 0 6 else rd (BUF_MIR_BASE b) d
    let size := if mirror && (BUF_MIR_SIZE b).allows (bits v 8 7) then bits v 8 7 else rd (BUF_MIR_SIZE b) d
    if fwReady d ∨ 64 < base + size + vic then raise pgBuf 3 d
    else
      let d := if vic = rd (BUF_CFG_VICSZ b) d then d
        else { d with cache := { d.cache with areas := d.cache.areas.filter (fun p => !p.2.any (fun q => q.1 == b)) } }
      wrs [(BUF_CFG_VICSZ b, vic), (BUF_MIR_BASE b, base), (BUF_MIR_SIZE b, size)] d
  else d

/-- CACHE_RECONFIGURE. -/
def execCacheReconfigure (v : Nat) (s : State) : Out := onDev (cacheReconfigure v) s
/-- WAY_LOCK. -/
def execWayLock (v : Nat) (s : State) : Out := onDev (wayLock v) s
/-- CZERO. -/
def execCzero (v : Nat) (s : State) : Out := onDev (czero v) s
/-- RANGE_INVALIDATE. -/
def execRangeInvalidate (s : State) : Out := onDev (rangeStart 0 0) s
/-- RANGE_CLEAN. -/
def execRangeClean (s : State) : Out := onDev (rangeStart 1 0) s
/-- RANGE_CLEANINV. -/
def execRangeCleaninv (s : State) : Out := onDev (rangeStart 2 0) s
/-- RANGE_ZERO. -/
def execRangeZero (s : State) : Out := onDev (rangeStart 3 0) s
/-- LOCKFILL. -/
def execLockfill (way : Fin 16) (s : State) : Out := onDev (rangeStart 4 way) s
/-- LOCKZERO. -/
def execLockzero (way : Fin 16) (s : State) : Out := onDev (rangeStart 5 way) s
/-- RANGE_OP_DONE. -/
def execRangeOpDone (s : State) : Out := onDev rangeDone s
/-- VICTIM_OFFER. -/
def execVictimOffer (k : Fin 8) (repl : Option Nat) (s : State) : Out := onDev (vbOffer k repl) s
/-- VICTIM_ACCEPTED. -/
def execVictimAccepted (k : Fin 8) (s : State) : Out := onDev (vbAccept k) s
/-- BUF_CFG_WRITE. -/
def execBufCfgWrite (mirror : Bool) (b : BufId) (v : Nat) (s : State) : Out := onDev (bufCfgWrite mirror b v) s

end Sys2Proof.Machine
end

