-- ==== Sys2Proof/Machine/MemProt.lean ====
section
/-!
DEFINITION. Machine/MemProt.lean: the commands of memory protection (R295 to R302): the fill engine, refresh, the end
of a scrub pass and the test mode.
-/
namespace Sys2Proof.Machine

/-- The line range, first and past the last, of a fill of `len` MiB; 0 is everything up to the end of usable SDRAM
(R304). -/
def fillSpan (len : Nat) (d : Dev) : Nat × Nat :=
  let a := rd DRC_FILLBASE_ADDR d * 128
  let top := sdramBase + sdramBytes d
  (a, if len = 0 then top else min top (a + len * 2 ^ 20))

/-- Zero a byte range of SDRAM in whole lines, dropping what the caches hold of it; reservations on it end (R295, R43, R44). -/
def fillRange (lo hi : Nat) (d : Dev) : Dev :=
  let out := fun (ln : Nat) => !(inSpan (ln * 128) (lo, hi))
  eachCore (fun x => { x with dlines := x.dlines.filter out, resv := x.resv.filter out }) { d with
    mem := d.mem.fill (lo / 8) (hi / 8)
    cache := { d.cache with
      lines := d.cache.lines.filter (fun p => p.2.any (fun l => out l.ln))
      vb := d.cache.vb.filter (fun e => out e.line.ln)
      areas := d.cache.areas.filter (fun p => out p.1) } }

/-- DRC_FILLCTL.GO (R295, R304): refused while firmware is ready and the range meets a region of R279. A start while a
fill runs is taken as discarded. DEDUCED, notes/assumptions/7. -/
def sdramFill (len : Nat) (d : Dev) : Dev :=
  if isSet DRC_FILLCTL_BUSY d then d
  else
    let d := wr DRC_FILLCTL_LEN len d
    let r := fillSpan (rd DRC_FILLCTL_LEN d) d
    if fwReady d && (dealerRegions d).any (meets r) then wr DRC_FILLCTL_ERR 1 d
    else wrs [(DRC_FILLCTL_BUSY, 1), (DRC_MAP_MAPLOCK, 1)] (fillRange r.1 r.2 d)

/-- The fill completes (R295). -/
def sdramFillDone (d : Dev) : Dev :=
  if isSet DRC_FILLCTL_BUSY d then
    raise pgDrc 4 (wrs [(DRC_FILLCTL_BUSY, 0), (DRC_FILLCTL_DONE, 1), (DRC_MAP_MAPLOCK, 1)] d)
  else d

/-- An SDRAM device reports a refresh-rate change (R297). -/
def refreshRateChange (ch : Nat) (doubled : Bool) (d : Dev) : Dev :=
  if doubled then raise pgDrc 3 (setBit DRC_STAT_REFX2 ch d) else clrBit DRC_STAT_REFX2 ch d

/-- A scrub loop completes its pass (R298). -/
def scrubPassEnd (sdram : Bool) (d : Dev) : Dev :=
  if isSet MEP_SCRCTL_EN d then raise pgMep (if sdram then 4 else 3) d else d

/-- The word address in MEP_TSTADDR. -/
def tstWord (d : Dev) : Nat := rd MEP_TSTADDR_ADDR d

/-- A test operation is refused (R302). -/
def testRefused (d : Dev) : Bool :=
  let a := tstWord d * 8
  !usable a 8 d || (fwReady d && (dealerRegions d).any (inSpan a))

/-- Clean and invalidate the line of the word under test (R302). -/
def testEvict (d : Dev) : Dev :=
  let ln := tstWord d / 16
  dropLine ln (cleanLine ln d)

/-- MEP_TSTCTL.GO with OP = 0 (R302): the word is written raw with the check bits of MEP_TSTCHK. GO is discarded while
EN = 0 or BUSY = 1. -/
def testRawWrite (d : Dev) : Dev :=
  if isSet MEP_TSTCTL_EN d && !isSet MEP_TSTCTL_BUSY d then
    let d := wr MEP_TSTCTL_OP 0 d
    if testRefused d then wr MEP_TSTCTL_ERR 1 d
    else
      let d := testEvict d
      let w := tstWord d
      let x := BitVec.ofNat 64 (rd MEP_TSTDATA0_DATA d + 2 ^ 32 * rd MEP_TSTDATA1_DATA d)
      let chk := BitVec.ofNat 8 (rd MEP_TSTCHK_CHK d)
      let c := if isSet MEP_TSTCHK_XOR d then checkBits x w ^^^ chk else chk
      raise pgMep 8 (wr MEP_TSTCTL_DONE 1 { d with mem := d.mem.setWord w (some ⟨x, c⟩) })
  else d

/-- MEP_TSTCTL.GO with OP = 1 (R302): the word and its check bits are read raw. -/
def testRawRead (d : Dev) : Dev :=
  if isSet MEP_TSTCTL_EN d && !isSet MEP_TSTCTL_BUSY d then
    let d := wr MEP_TSTCTL_OP 1 d
    if testRefused d then wr MEP_TSTCTL_ERR 1 d
    else
      let d := testEvict d
      let v := (d.mem.word (tstWord d)).getD
        ⟨Config.unwritten (tstWord d), BitVec.ofNat 8 (Config.unwrittenSynd (tstWord d))⟩
      raise pgMep 8 (wrs [(MEP_TSTDATA0_DATA, v.d.toNat), (MEP_TSTDATA1_DATA, v.d.toNat / 2 ^ 32),
        (MEP_TSTCHK_CHK, v.c.toNat), (MEP_TSTCTL_DONE, 1)] d)
  else d

/-- SDRAM_FILL. -/
def execSdramFill (len : Nat) (s : State) : Out := onDev (sdramFill len) s
/-- SDRAM_FILL_DONE. -/
def execSdramFillDone (s : State) : Out := onDev sdramFillDone s
/-- REFRESH_RATE_CHANGE. -/
def execRefreshRateChange (channel : Fin 2) (doubled : Bool) (s : State) : Out :=
  onDev (refreshRateChange channel doubled) s
/-- SCRUB_PASS_END. -/
def execScrubPassEnd (sdram : Bool) (s : State) : Out := onDev (scrubPassEnd sdram) s
/-- TEST_RAW_WRITE. -/
def execTestRawWrite (s : State) : Out := onDev testRawWrite s
/-- TEST_RAW_READ. -/
def execTestRawRead (s : State) : Out := onDev testRawRead s

end Sys2Proof.Machine
end

