-- ==== Sys2Proof/Machine/RegAccess.lean ====
section
/-!
DEFINITION. Machine/RegAccess.lean: an access of a requester to a register of a vendor page (R10, R11, R19, R30): what a
word written to any offset does and what a word read from it returns, each register with an effect of its own calling
that effect.
-/
namespace Sys2Proof.Machine

/-! ## Fields (R10, R11) -/

/-- A written word meets one field: read/write fields take an encoding that is not reserved, bits that clear by 1 clear; the
fields that a written 1 sets belong to the effects below. -/
def fieldWrite (lock : Bool) (v : Nat) (d : Dev) (f : Fld) : Dev :=
  let x := bits v f.lo f.w
  match f.acc with
  | .ro | .rc | .wo | .w1s => d
  | .rw | .rws => if f.allows x then wr f x d else d
  | .rwl => if lock || !f.allows x then d else wr f x d
  | .w1c => wr f (rd f d &&& (x ^^^ (2 ^ f.w - 1))) d

/-- A word written to the fields of a register. -/
def fieldsWrite (off v : Nat) (fs : List Fld) (d : Dev) : Dev := fs.foldl (fieldWrite (page (pageBase off) d).lock v) d

/-- A word written to the register at an offset, as its fields take it. -/
def plain (off v : Nat) (d : Dev) : Dev := fieldsWrite off v (fieldsAt off) d

/-- The written word holds a 1 at a one-bit field. -/
def hit (f : Fld) (v : Nat) : Bool := bitOf v f.lo

/-- A field as a written word would leave it. -/
def taking (f : Fld) (v : Nat) (d : Dev) : Nat := if f.allows (bits v f.lo f.w) then bits v f.lo f.w else rd f d

/-! ## Registers with rules of their own -/

/-- A write of a THM threshold register: the order of R349 holds afterwards, or the write is discarded with event bit 10. -/
def thresholdWrite (off v : Nat) (d : Dev) : Dev :=
  if (page pgThm d).lock then d
  else
    let n := plain off v d
    let t := fun (f : Fld) => rdInt f n
    if t THM_THR0_CSTOP < t THM_THR0_CWARN ∧ t THM_THR0_CWARN < t THM_THR1_HOT1 ∧ t THM_THR1_HOT1 < t THM_THR1_HOT2
        ∧ t THM_THR1_HOT2 < t THM_THR2_HOT3 ∧ t THM_THR2_HOT3 ≤ t THM_THR2_CRIT ∧ t THM_THR2_CRIT ≤ 500 then n
    else raise pgThm 10 d

/-- A write of THM_THRCTL: KEEP2 names two fitted arms and KEEP1 one of them (R350); HOLDREL clears HOLD (R348). -/
def thrctlWrite (v : Nat) (d : Dev) : Dev :=
  let keep2 := bits v THM_THRCTL_KEEP2.lo THM_THRCTL_KEEP2.w
  let keep1 := bits v THM_THRCTL_KEEP1.lo THM_THRCTL_KEEP1.w
  let two := (List.range 4).filter (fun n => keep2.testBit n)
  if two.length = 2 ∧ two.all (fun n => decide (n < d.part.arms)) = true ∧ keep2.testBit keep1 = true then
    let d := plain 0x117054 v d
    if hit THM_THRCTL_HOLDREL v then holdReleaseFw d else d
  else raise pgThm 10 d

/-- A register of a buffer die that is not fitted: it is reserved (R287). -/
def bufAbsent (off : Nat) (d : Dev) : Bool :=
  ((decide (0x113040 ≤ off) && decide (off < 0x113050)) || (decide (0x113060 ≤ off) && decide (off < 0x113070)))
    && !fitted (.buf (off / 4 % 2)) d

/-- A write of BUF_WDBASE or BUF_SDMIR: in concatenated mode the two regions lie in different halves (R295). -/
def regionWrite (off v : Nat) (d : Dev) : Dev :=
  let n := plain off v d
  let half := fun (a : Nat) => (a - sdramBase) / max 1 (sdramBytes d / 2)
  if rd DRC_MAP_ILV d = 0 ∧ half (wdRegion n).1 = half (sdMirRegion n).1 then raise pgBuf 3 d else n

/-- A write of TEN_NSCFG0 to 3 for the selected namespace (R257, R258): setting EN fills both buckets; reserved depths leave
their field. -/
def tenantWrite (k v : Nat) (d : Dev) : Dev :=
  let ns := rd TEN_NSSEL_NS d
  let t := tenant ns d
  let t' := match k with
    | 0 => { t with
        en := bitOf v 0, cls := bits v 1 2, ctxMax := bits v 16 14,
        ilev := if bitOf v 0 && !t.en then 1000 * t.iburst else t.ilev,
        blev := if bitOf v 0 && !t.en then 1000 * t.bburst else t.blev }
    | 1 => { t with irate := bits v 0 20 }
    | 2 => { t with brate := bits v 0 24 }
    | _ => { t with
        iburst := if bits v 0 12 = 0 then t.iburst else bits v 0 12,
        bburst := if bits v 12 20 = 0 then t.bburst else bits v 12 20 }
  dealerGo (setTenant ns t' d)

/-- What TEN_NSCFG0 to 3 read as for the selected namespace. -/
def tenantRead (k : Nat) (d : Dev) : Nat :=
  let t := tenant (rd TEN_NSSEL_NS d) d
  match k with
  | 0 => b2n t.en + 2 * t.cls + 65536 * t.ctxMax
  | 1 => t.irate
  | 2 => t.brate
  | _ => t.iburst + 4096 * t.bburst

/-- A write of a perturbation register (R387, R390): taken while the page is unlocked, of links and arms that are fitted; it
clears SUSP. A written LEFT counts anew; back-pressure that is switched off lets go what it holds. -/
def perturbWrite (off v : Nat) (d : Dev) : Dev :=
  let fit := if 0x118050 ≤ off ∧ off < 0x11806C then fitted (dieAt ((off - 0x118050) / 4)) d
    else if 0x118080 ≤ off ∧ off < 0x1180A0 then decide ((off - 0x118080) / 4 % 4 < d.part.arms) else true
  if !isSet TST_STAT_UNLOCKED d || !fit then d
  else if off = 0x118078 then jitterSet v d
  else
    let d := wr TST_STAT_SUSP 0 (plain off v d)
    if off = 0x118070 ∧ rd TST_DMABP_DUTY d = 0 then dmaPeriod false d
    else if 0x118090 ≤ off ∧ off < 0x1180A0 then
      onTst (fun t => { t with passed := Store.put 0 ((off - 0x118090) / 4) 0 t.passed }) d
    else d

/-- A write of SPN_GOV: DNTHR stays below UPTHR, or both keep their values. -/
def govWrite (v : Nat) (d : Dev) : Dev :=
  let n := plain 0x160064 v d
  if rd SPN_GOV_DNTHR n < rd SPN_GOV_UPTHR n then n
  else wrs [(SPN_GOV_UPTHR, rd SPN_GOV_UPTHR d), (SPN_GOV_DNTHR, rd SPN_GOV_DNTHR d)] n

/-- A write of SPN_CTL (R157). -/
def spnctlWrite (env : RegEnv) (v : Nat) (d : Dev) : Dev :=
  let d := spnCtl v d
  let d := if hit SPN_CTL_START v then spinStart env.hall d else d
  if hit SPN_CTL_STOP v then spinStop d else d

/-- A write of VCM_MAn: an output that is enabled again leaves 0 V (R179). -/
def maWrite (n v : Nat) (d : Dev) : Dev :=
  let was := isSet (VCM_MA_EN n) d
  let d := plain (0x161070 + 4 * n) v d
  if isSet (VCM_MA_EN n) d && !was then
    onPwr (fun p => { p with maHeld := if p.maHeld.testBit n then p.maHeld - 2 ^ n else p.maHeld }) d
  else d

/-- A write of VCM_CFGn (R177): a bridge that is not enabled is disabled, once it does not retract; enabled again it is off, or
parked. -/
def vcmCfgWrite (n v : Nat) (d : Dev) : Dev :=
  let d := plain (0x161040 + 4 * n) v d
  let st := rd (VCM_STAT_STATE n) d
  if !isSet (VCM_CFG_EN n) d && st != 2 then
    wr (VCM_STAT_STATE n) 4 (onPwr (fun p => { p with drives := Store.put 0 n 0 p.drives }) d)
  else if isSet (VCM_CFG_EN n) d && st == 4 then wr (VCM_STAT_STATE n) (if servoOn n d then 0 else 3) d
  else d

/-- A write of REG_CORECFG (R174): VDD_CORE goes on from where it is toward the set-point. -/
def coreCfgWrite (v : Nat) (d : Dev) : Dev := phasesNow (plain 0x163040 v (coreIs (coreMv d) d))

/-- A write of GLB_VLTCTL (R379, R381, R382). -/
def vltctlWrite (env : RegEnv) (v : Nat) (d : Dev) : Dev :=
  let d := plain 0x100280 v d
  let d := if hit GLB_VLTCTL_REPLAY v then replay env.bad env.places d else d
  if hit GLB_VLTCTL_RELEASE v then vaultRelease d else d

/-- A write of HEP_ASPMCTL (R223). -/
def aspmWrite (v : Nat) (d : Dev) : Dev :=
  ltrWrite (bits v HEP_ASPMCTL_LTRVAL.lo HEP_ASPMCTL_LTRVAL.w) (wr HEP_ASPMCTL_IDLE (taking HEP_ASPMCTL_IDLE v d) d)

/-- A write of CMD_RCCFG: LOG2 keeps its value while FWRDY = 1. -/
def rccfgWrite (v : Nat) (d : Dev) : Dev :=
  let n := plain 0x1090D4 v d
  if fwReady d then wr CMD_RCCFG_LOG2 (rd CMD_RCCFG_LOG2 d) n else n

/-- A write of HCC_RCTL (R275, R277). -/
def rctlWrite (v : Nat) (d : Dev) : Dev :=
  let d := plain 0x110058 v d
  if hit HCC_RCTL_GO v then rangeStart (rd HCC_RCTL_OP d) (rd HCC_RCTL_WAY d) d else d

/-- A write of MEP_TSTCTL (R302). -/
def tstctlWrite (v : Nat) (d : Dev) : Dev :=
  let d := plain 0x111060 v d
  if !hit MEP_TSTCTL_GO v then d else if rd MEP_TSTCTL_OP d = 0 then testRawWrite d else testRawRead d

/-- A write of CRY_RNGCTL (R323, R324). -/
def rngctlWrite (env : RegEnv) (v : Nat) (d : Dev) : Dev :=
  let d := if hit CRY_RNGCTL_REINIT v then drbgReinit env.rngOk d else d
  if hit CRY_RNGCTL_RESEED v then drbgReseed d else d

/-- A write of KMU_CMD by a requester (R318). -/
def kmucmdWrite (who : Who) (v : Nat) (d : Dev) : Dev :=
  let d := plain 0x115044 v d
  if hit KMU_CMD_GO v then kmuStart (rd KMU_CMD_OP d) who v d else d

/-- A write of GLB_REFCTL (R189). -/
def refctlWrite (v : Nat) (d : Dev) : Dev :=
  let d := plain 0x100200 v d
  let d := if hit GLB_REFCTL_CGO v then wrs [(GLB_REFCTL_CGO, 1), (GLB_REFCTL_BUSY, 1)] d else d
  if hit GLB_REFCTL_VGO v then wrs [(GLB_REFCTL_VGO, 1), (GLB_REFCTL_BUSY, 1)] d else d

/-- Two set bits name the arms of the vault (R170); any other write of BRK_VAULT is discarded. -/
def vaultArmsWrite (v : Nat) (d : Dev) : Dev := if popcount (v % 16) 4 = 2 then plain 0x162050 v d else d

/-- A write of BRK_RETCTL: each set bit retracts its arm (R171). -/
def retctlWrite (v : Nat) (d : Dev) : Dev :=
  each 4 (fun n d => if v.testBit n then retractFrom .power n d else d) d

/-! ## The hub's and the power die's registers -/

/-- The effect of a word written to a GLB register. -/
def glbWrite (env : RegEnv) (off v : Nat) (d : Dev) : Dev :=
  if off = 0x100104 then coreRelease v d
  else if 0x100140 ≤ off ∧ off < 0x100160 then wdctlWrite ((off - 0x100140) / 4) v d
  else if 0x100160 ≤ off ∧ off < 0x100180 then wdKick (Fin.ofNat 8 ((off - 0x100160) / 4)) v d
  else if off = 0x100200 then refctlWrite v d
  else if off = 0x100240 then if hit GLB_HOSTACC_LOCK v then wr GLB_HOSTACC_LOCK 1 d else d
  else if off = 0x100280 then vltctlWrite env v d
  else if off = 0x10029C then tailWrite v d
  else plain off v d

/-- The effect of a word written to a register of the CMD, TEN and ZON pages. -/
def dealerWrite (off v : Nat) (d : Dev) : Dev :=
  if off = 0x109040 then cmdCtl v d
  else if off = 0x109048 then dealerGo (plain off v d)
  else if off = 0x10908C then fwqTail v d
  else if off = 0x109090 then firmwareDone v d
  else if off = 0x1090D0 then if fwReady d then d else plain off v d
  else if off = 0x1090D4 then rccfgWrite v d
  else if 0x10A044 ≤ off ∧ off < 0x10A054 then tenantWrite ((off - 0x10A044) / 4) v d
  else if off = 0x10A064 then if hit TEN_LATCH_GO v then boundaryDue 1 d else d
  else if off = 0x10A070 then bankAck v d
  else if off = 0x10B050 then
    let d := plain off v d
    if hit ZON_CTL_LOAD v then tableLoad d else d
  else if off = 0x10B058 then relocOrder v d
  else if 0x10B080 ≤ off ∧ off < 0x10B090 then scanStart (Fin.ofNat 4 ((off - 0x10B080) / 4)) v d
  else plain off v d

/-- The effect of a word written to a register of the memory pages HCC, MEP, DRC and BUF. -/
def memoryWrite (off v : Nat) (d : Dev) : Dev :=
  if bufAbsent off d then d
  else if off = 0x110040 then cacheReconfigure v d
  else if off = 0x110044 then wayLock v d
  else if off = 0x110048 then if fwReady d then d else plain off v d
  else if off = 0x110058 then rctlWrite v d
  else if off = 0x110060 then czero v d
  else if off = 0x111060 then tstctlWrite v d
  else if off = 0x112040 then if isSet DRC_MAP_MAPLOCK d then d else plain off v d
  else if off = 0x11204C then
    let d := plain off v d
    if hit DRC_FILLCTL_GO v then sdramFill (rd DRC_FILLCTL_LEN d) d else d
  else if 0x113040 ≤ off ∧ off < 0x113048 then bufCfgWrite false ((off - 0x113040) / 4) v d
  else if 0x113048 ≤ off ∧ off < 0x113050 then bufCfgWrite true ((off - 0x113048) / 4) v d
  else if off = 0x113050 ∨ off = 0x113054 then regionWrite off v d
  else plain off v d

/-- The effect of a word written to a register of the CRY, KMU, LOG, THM and TST pages. -/
def serviceWrite (env : RegEnv) (who : Who) (off v : Nat) (d : Dev) : Dev :=
  if off = 0x114044 then nsBind v d
  else if off = 0x114048 then if fwReady d then d else plain off v d
  else if off = 0x114050 then rngctlWrite env v d
  else if off = 0x115040 then lockWrite who v d
  else if off = 0x115044 then kmucmdWrite who v d
  else if 0x115060 ≤ off ∧ off < 0x1150A8 then if rd KMU_LOCK_OWNER d = ownerCode who then plain off v d else d
  else if off = 0x116040 then if bitOf v 0 then compatFix d else d
  else if off = 0x116044 then kittyWrite v d
  else if off = 0x116070 then logRead v d
  else if off = 0x1160C0 then firmwareLog v d
  else if 0x117048 ≤ off ∧ off < 0x117054 then thresholdWrite off v d
  else if off = 0x117054 then thrctlWrite v d
  else if 0x118050 ≤ off ∧ off < 0x118100 then perturbWrite off v d
  else plain off v d

/-- The effect of a word written to a register of the power die. -/
def powerWrite (env : RegEnv) (off v : Nat) (d : Dev) : Dev :=
  if off = 0x160040 then spnctlWrite env v d
  else if off = 0x160044 then stepLimWrite v d
  else if off = 0x160064 then govWrite v d
  else if 0x161040 ≤ off ∧ off < 0x161050 then vcmCfgWrite ((off - 0x161040) / 4) v d
  else if off = 0x163040 then coreCfgWrite v d
  else if 0x161070 ≤ off ∧ off < 0x161080 then maWrite ((off - 0x161070) / 4) v d
  else if off = 0x162050 then vaultArmsWrite v d
  else if off = 0x162058 then retctlWrite v d
  else plain off v d

/-! ## An arm's registers -/

/-- A write of RCH_RUNGr: rungs 0 and 11 stay enabled, and rung 0 has one attempt. -/
def rungWrite (n : ArmId) (r v : Nat) (d : Dev) : Dev :=
  let off := 0x121060 + 0x10000 * n.val + 4 * r
  fieldsWrite off v ((fieldsAt off).filter (fun f => !((r == 0 || r == 11) && f.lo == 0) && !(r == 0 && f.lo == 4))) d

/-- A write of RCH_MODE in the joker's page: a joker at rest rests as SHADOWEN says. -/
def jokerModeWrite (n : ArmId) (v : Nat) (d : Dev) : Dev :=
  let d := plain (0x122040 + 0x10000 * n.val) v d
  if chMode n 1 d = chShadow ∨ chMode n 1 d = chOff then wr (RCH_MODE_MODE n 1) (restMode n d) d else d

/-- A write of RCH_SETCTL. -/
def setctlWrite (n : ArmId) (ch : Chan) (v : Nat) (d : Dev) : Dev :=
  let c := chanNo ch
  let d := plain (0x121058 + 0x10000 * n.val + 0x1000 * c) v d
  let d := if hit (RCH_SETCTL_COMMIT n c) v then setCommit n ch d else d
  if ch = .joker ∧ hit (RCH_SETCTL_COPYA n c) v = true then setCopy n d else d

/-- A write of RCH_RDRERRWIN empties the windows of both reader classes (R41). -/
def rdrWinWrite (n : ArmId) (v : Nat) (d : Dev) : Dev :=
  if (page (pgRch n 0) d).lock then d
  else
    onArm n (fun a => { a with ldrErr := { a.ldrErr with stamps := [] }, trrErr := { a.trrErr with stamps := [] } })
      (plain (0x121108 + 0x10000 * n.val) v d)

/-- A write of RCH_RDRERRCNT clears LASTING bits of the reader classes (R41). -/
def rdrCntWrite (n : ArmId) (v : Nat) (d : Dev) : Dev :=
  onArm n (fun a => { a with
    ldrErr := if bitOf v 8 then a.ldrErr.rearm else a.ldrErr, trrErr := if bitOf v 24 then a.trrErr.rearm else a.trrErr }) d

/-- What RCH_RDRERRCNT reads as. -/
def rdrCntRead (n : Nat) (d : Dev) : Nat :=
  let w := fun (e : ErrWin) => min 255 (e.inside (rd (RCH_RDRERRWIN_WINDOW n) d) (nowMs d)).length + 256 * b2n e.lasting
  w (arm n d).ldrErr + 65536 * w (arm n d).trrErr

/-- A write of ALK_ASSIST: TYPE is compared with what the preamplifier reports (R104). -/
def assistWrite (n : ArmId) (v : Nat) (d : Dev) : Dev :=
  if (page (pgAlk n) d).lock then d else assistCheck n (stbyFrame n (selHead n d) (plain (0x127040 + 0x10000 * n.val) v d))

/-- A write of CTL_FFCTL: the arm's own bit and those of arms that are not fitted are reserved. -/
def ffctlWrite (n : ArmId) (v : Nat) (d : Dev) : Dev :=
  wr (CTL_FFCTL_SRCEN n) (((List.range 4).filter (fun k => v.testBit k && k != n.val && fitted (.arm k) d)).map (fun k => 2 ^ k)).sum d

/-- The effect of a word written to the register at offset `o` of arm `n`'s pages. -/
def armWrite (n : ArmId) (o v : Nat) (d : Dev) : Dev :=
  let off := 0x120000 + 0x10000 * n.val + o
  if o = 0x44 then if hit (ARM_FMTCTL_LOAD n) v then bandRequest n d else d
  else if o = 0x2040 then jokerModeWrite n v d
  else if o = 0x1050 then setSelect n .a v d
  else if o = 0x2050 then setSelect n .joker v d
  else if o = 0x1054 then setData n .a (some v) d
  else if o = 0x2054 then setData n .joker (some v) d
  else if o = 0x1058 then setctlWrite n .a v d
  else if o = 0x2058 then setctlWrite n .joker v d
  else if 0x1060 ≤ o ∧ o < 0x1090 then rungWrite n ((o - 0x1060) / 4) v d
  else if o = 0x1108 then rdrWinWrite n v d
  else if o = 0x110C then rdrCntWrite n v d
  else if o = 0x3040 then inhibitFirmware n v d
  else if o = 0x3074 then pathUpdate n (plain off v d)
  else if 0x3400 ≤ o ∧ o < 0x3600 then writeParams n ((o - 0x3400) / 8) (plain off v d)
  else if o = 0x4040 then seekOwn n v d
  else if o = 0x4044 then seekOrder n v d
  else if o = 0x5040 then tableSelect n v d
  else if o = 0x5044 then tableData n (some v) d
  else if o = 0x5048 then tableCommit n v d
  else if o = 0x5050 then ffctlWrite n v d
  else if o = 0x506C then calAbandonKind n 1 (plain off v d)
  else if o = 0x50A4 then captureStart n v d
  else if o = 0x6044 then calOrder n v d
  else if o = 0x6080 then resSelect n v d
  else if o = 0x7040 then assistWrite n v d
  else if o = 0x7058 then
    let d := plain off v d
    if hit (ALK_FRMCTL_GO n) v then rawFrame n d else d
  else plain off v d

/-! ## One word -/

/-- The effect of a word that a requester writes to a register at an offset of a page (R30); the page can be reached. -/
def wordWrite (env : RegEnv) (who : Who) (off v : Nat) (d : Dev) : Dev :=
  let base := pageBase off
  if off - base < 0x40 then headerWrite base (off - base) v d
  else if base = pgEvt then
    if off = 0x104040 then swSet v d
    else if 0x104400 ≤ off ∧ off < 0x105000 then routeWrite ((off - 0x104400) / 4) v d
    else plain off v d
  else if base = pgGlb then glbWrite env off v d
  else if off = 0x102040 then psOrder v env.hall d
  else if off = 0x108044 then aspmWrite v d
  else if off = 0x108060 then
    let d := plain off v d
    if hit HEP_WINCOMMIT_GO v then windowCommit d else d
  else if base = pgCmd ∨ base = pgTen ∨ base = pgZon then dealerWrite off v d
  else if 0x110000 ≤ off ∧ off < 0x114000 then memoryWrite off v d
  else if 0x114000 ≤ off ∧ off < 0x119000 then serviceWrite env who off v d
  else if 0x120000 ≤ off ∧ off < 0x160000 then
    armWrite (Fin.ofNat 4 ((off - 0x120000) / 0x10000)) ((off - 0x120000) % 0x10000) v d
  else if 0x160000 ≤ off ∧ off < 0x164000 then powerWrite env off v d
  else plain off v d

/-- As `wordWrite`, with the registers that reach the fuses (R47, R387, R388). -/
def storeWord (env : RegEnv) (who : Who) (off v : Nat) (s : State) : State :=
  if off = 0x100180 then rollbackWrite v s
  else if off = 0x118040 then { s with dev := unlockKey (!s.otp.testDisabled) who v s.dev }
  else if off = 0x118048 then
    let s := if hit TST_CTL_DISFUSE v then fuseBurn s else s
    if hit TST_CTL_RELOCK v then { s with dev := relock s.dev } else s
  else { s with dev := wordWrite env who off v s.dev }

/-- The level of the GPIO balls (R400): those the device drives hold what it drives, GPIO7 is the VDDQ enable, and an input
reads what the board drives, a free value. -/
def gpioIn (d : Dev) : Dev × Nat :=
  let f := draw d
  let act := (List.range 4).any (fun n => (hand n d).any (fun w => w.started)) || d.sup.actAt.isSome
  let hold := decide (rd BRK_STAT_VHOLD d ≥ 550) && !isSet BRK_STAT_PLOSS d
  let pin := fun (g : Nat) =>
    if g = 7 then d.sup.vddq
    else if !(rd GLB_GPIO_OE d).testBit g then f.2.testBit g
    else if g = 0 ∧ isSet GLB_GPIO_FUNC0 d = true then act
    else if g = 1 ∧ isSet GLB_GPIO_FUNC1 d = true then hold
    else (rd GLB_GPIO_OUT d).testBit g
  (f.1, (((List.range 8).filter pin).map (fun g => 2 ^ g)).sum)

/-- State of an engine key slot as KMU_SLOTSTAT shows it. -/
def slotState (k : Nat) (d : Dev) : Nat :=
  if slotBusy k d then 3 else match keySlot k d with | .empty => 0 | .xts _ _ => 1 | .gcm _ => 2

/-- Sixteen 2-bit values in a word. -/
def pack2 (f : Nat → Nat) : Nat := ((List.range 16).map (fun i => f i * 4 ^ i)).sum

/-- What the register at an offset reads as where its value is computed when it is read. -/
def readNow (o : Otp) (off : Nat) (d : Dev) : Option (Dev × Nat) :=
  let word := wordOf (fieldsAt off) d
  if 0x104080 ≤ off ∧ off < 0x1040A0 then
    let d := claim (Fin.ofNat 8 ((off - 0x104080) / 4)) d
    some (d, d.rdata)
  else if 0x105000 ≤ off ∧ off < 0x105060 then some (d, pendWord ((off - 0x105000) / 4) d)
  else if 0x100080 ≤ off ∧ off < 0x10009C then
    let l := (off - 0x100080) / 4
    some (d, word + 2 * b2n (fitted (dieAt l) d) + 256 * rd (TST_FLXDLY_DELAY l) d)
  else if off = 0x100180 then some (d, word + o.rollback + 2 ^ 17 * b2n o.key0rev)
  else if off = 0x100240 then some (d, rd GLB_HOSTACC_LOCK d + 2 * b2n o.hostLock)
  else if off = 0x100290 then some (wr GLB_VLTCSNH_CSN d.deal.csnHigh d, word)
  else if off = 0x1002C0 then some ((gpioIn d).1, word + (gpioIn d).2 * 65536)
  else if 0x10A044 ≤ off ∧ off < 0x10A054 then some (d, tenantRead ((off - 0x10A044) / 4) d)
  else if off = 0x110064 then some (d, d.cache.vb.length)
  else if bufAbsent off d then some (d, 0)
  else if 0x113060 ≤ off ∧ off < 0x113068 then some (d, areaFree ((off - 0x113060) / 4) d)
  else if off = 0x114044 then
    let ns := rd CRY_NSSEL_NS d
    some (d, wordOf [CRY_NSBIND_SLOT ns, CRY_NSBIND_MODE ns, CRY_NSBIND_VALID ns] d)
  else if 0x1150C0 ≤ off ∧ off < 0x1150D0 then some (d, pack2 (fun i => o.usage ((off - 0x1150C0) / 4 * 16 + i)))
  else if 0x115100 ≤ off ∧ off < 0x115180 then some (d, pack2 (fun i => slotState ((off - 0x115100) / 4 * 16 + i) d))
  else if off = 0x116048 then some (d, word + 16 * d.recd.queue.length)
  else if off = 0x116060 then
    let d := opsecRead d
    some (d, d.rdata)
  else if off = 0x11606C then some (d, d.recd.drops)
  else if off = 0x118044 then some (wr TST_STAT_REFUSED 0 d, word + b2n (!o.testDisabled))
  else if 0x120000 ≤ off ∧ off < 0x160000 then
    let n : ArmId := Fin.ofNat 4 ((off - 0x120000) / 0x10000)
    let a := (off - 0x120000) % 0x10000
    if a = 0x1054 then
      let d := setData n .a none d
      some (d, d.rdata)
    else if a = 0x2054 then
      let d := setData n .joker none d
      some (d, d.rdata)
    else if a = 0x5044 then
      let d := tableData n none d
      some (d, d.rdata)
    else if a = 0x6084 then
      let d := resRead n d
      some (d, d.rdata)
    else if a = 0x504C then some (d, costNow n d + 65536 * budgetNow n d)
    else if a = 0x1090 ∨ a = 0x2090 then
      let d := ladStat n d
      some (d, wordOf (fieldsAt (0x121090 + 0x10000 * n.val)) d)
    else if a = 0x110C ∨ a = 0x210C then some (d, rdrCntRead n d)
    else if 0x2000 ≤ a ∧ a < 0x3000 ∧ (fieldsAt off).isEmpty = true then some (d, wordOf (fieldsAt (off - 0x1000)) d)
    else none
  else if off = 0x160068 then some (d, word + 2 ^ 17 * b2n (!dwellOver d))
  else if off = 0x161080 then
    let p := draw d
    let n := draw p.1
    some (n.1, word + 256 * (p.2 % 256) + 65536 * (n.2 % 256))
  else if off = 0x163044 then
    let x := draw d
    some (x.1, word + coreMv d / 5 + 256 * (if d.sup.coreOn then x.2 % 256 else 0))
  else none

/-- The value of the word at an offset of a page that can be reached, and what reading it does: an RC field clears (R10). -/
def loadWord (o : Otp) (off : Nat) (d : Dev) : Dev × Nat :=
  let base := pageBase off
  let d := if off = 0x161014 ∨ off = 0x161080 then pumpNow d else d
  if off - base < 0x40 then
    let v := headerRead (!o.testDisabled) base (off - base) d
    (if off - base = 0x24 then onPage base (fun h => { h with total := 0 }) d else d, v)
  else match readNow o off d with
    | some r => r
    | none =>
      let fs := fieldsAt off
      (fs.foldl (fun d f => if f.acc = .rc then wr f 0 d else d) d, wordOf (fs.filter (fun f => f.acc != .wo)) d)

/-! ## Accesses (R4, R19, R30) -/

/-- Where an offset of the vendor pages leads. -/
inductive RegPlace
  | page | unassigned | absent | linkDown
  deriving DecidableEq, Repr

/-- Where `off` leads: an offset that R28 does not list is unassigned; the pages of a die that is not fitted are absent (R4). -/
def regPlace (off : Nat) (d : Dev) : RegPlace :=
  let die := pageDie (pageBase off)
  if (pageInfo (pageBase off)).isNone then .unassigned
  else if !fitted die d then .absent
  else if dieUp die d then .page else .linkDown

/-- A core's access to an unassigned offset raises GLB event 0x008 (R30). -/
def unassignedNote (who : Who) (d : Dev) : Dev := match who with | .core _ => raise pgGlb 0 d | .host => d

/-- A requester writes one aligned word. -/
def storeReg (env : RegEnv) (who : Who) (off v : Nat) (s : State) : State :=
  match regPlace off s.dev with
  | .page => storeWord env who off (v % 2 ^ 32) s
  | .unassigned => { s with dev := unassignedNote who s.dev }
  | .absent | .linkDown => s

/-- A requester reads one aligned word. -/
def loadReg (who : Who) (off : Nat) (s : State) : State × Nat :=
  match regPlace off s.dev with
  | .page => let r := loadWord s.otp off s.dev; ({ s with dev := r.1 }, r.2)
  | .unassigned => ({ s with dev := unassignedNote who s.dev }, 0)
  | .absent => (s, 0)
  | .linkDown => (s, 2 ^ 32 - 1)

/-- A write of `n` bytes at an offset: words are written in rising order; a write that is not one or two whole aligned words
is discarded with GLB event 0x009. -/
def regWrite (env : RegEnv) (who : Who) (off n v : Nat) (s : State) : State :=
  if off % 4 = 0 ∧ n = 4 then storeReg env who off v s
  else if off % 4 = 0 ∧ n = 8 then storeReg env who (off + 4) (v / 2 ^ 32) (storeReg env who off v s)
  else match regPlace off s.dev with
    | .page | .linkDown => { s with dev := raise pgGlb 1 s.dev }
    | .unassigned => { s with dev := raise pgGlb 1 (unassignedNote who s.dev) }
    | .absent => s

/-- A read of `n` bytes at an offset, with the side effects of a full read of each word it touches. -/
def regRead (who : Who) (off n : Nat) (s : State) : State × Nat :=
  let w := off / 4 * 4
  let r := loadReg who w s
  if off % 4 + n ≤ 4 then (r.1, bits r.2 (8 * (off % 4)) (8 * n))
  else
    let q := loadReg who (w + 4) r.1
    (q.1, bits (r.2 + 2 ^ 32 * q.2) (8 * (off % 4)) (8 * n))

/-- Offsets of the vendor pages (R224). -/
def vendorOff (off : Nat) : Bool := decide (0x100000 ≤ off) && decide (off < 0x170000)

/-- The host may reach the vendor pages (R224, R225). -/
def hostMay (d : Dev) : Bool := !isSet GLB_HOSTACC_LOCK d

/-- Change the device of a state. -/
def inDev (f : Dev → Dev) (s : State) : State := { s with dev := f s.dev }

/-- A host request to an offset of the vendor pages is carried out by `f`, or is an Unsupported Request: memory requests are
off, or GLB_HOSTACC.LOCK = 1 (R224). Without a link nothing arrives. -/
def hostVendor (posted : Bool) (hdr : List Nat) (f : State → State) (s : State) : State :=
  if !linkIsUp s.dev then s
  else if memOn s.dev && hostMay s.dev then f (inDev (fun d => { linkL0 d with ur := false }) s)
  else inDev (unsupported posted hdr) s

/-- A read of a register by a requester; a host's read flushes the posted writes first (R227). -/
def readReg (who : Who) (off n : Nat) (s : State) : State :=
  let r := regRead who off n (if who = .host then inDev flushOut s else s)
  inDev (fun d => { d with rdata := r.2 }) r.1

end Sys2Proof.Machine
end

