-- ==== Sys2Proof/Machine/Supply.lean ====
section
/-!
DEFINITION. Machine/Supply.lean: supplies and the power-on reset (R399 to R401): the order in which the device's own rails
rise, the start from the reset state, brown-out, and the activity indicator's stretch.
-/
namespace Sys2Proof.Machine

/-- What the NOR holds after its supply was cut during an operation (R331, R334, R336): a record body without mark is torn;
`nor` says how far a mark, a counter entry (none: torn) or a block copy (records copied) had come. -/
def norCut (nor : Nat) (x : Recorder) : Recorder :=
  match x.nor with
  | none => x
  | some (.body s _ _ _ _ _) => { x with slots := Store.put .free s .torn x.slots }
  | some (.mark s seq pcc ops r _) =>
    { x with slots := Store.put .free s (if nor = 0 then .torn else slotOfRec seq pcc ops r) x.slots }
  | some (.copy b v seq pcc ops r _) =>
    let l := copyOut b v x.spare x
    putSlots ((l ++ [(64 * x.spare + l.length, slotOfRec seq pcc ops r)]).take nor) x
  | some (.counter _) =>
    { x with counters := Store.put none x.ctrNext (some (if nor = 0 then ⟨0, 0⟩ else ⟨x.pcc, x.ops⟩)) x.counters }

/-- The device as a power cycle leaves it (R366): its reset state, with what the NOR, the media and the fuses hold; the rail
monitors report what the rails are at. The recorder's counts of the power cycle that ends are those of its last counter entry. -/
def coldReset (nor : Nat) (o : Otp) (d : Dev) : Dev :=
  let x := norCut nor { d.recd with ops := opsNow d }
  let v := d.vault
  let new : Dev := { Dev.reset with
    part := d.part, fresh := d.fresh,
    recd := { Recorder.reset with
      base := x.base, size := x.size, slots := x.slots, spare := x.spare, retired := x.retired, counters := x.counters,
      ctrNext := x.ctrNext, newest := x.newest },
    zon := { ZoneEng.reset with short := d.zon.short },
    vault := { Vault.reset with
      area0 := v.area0, area1 := v.area1, placed := v.written, written := v.written, passed := v.written } }
  let new := each 8 (fun r x => wrs [(REG_MON_V r, rd (REG_MON_V r) d), (REG_MON_UV r, rd (REG_MON_UV r) d),
    (REG_MON_OV r, rd (REG_MON_OV r) d)] x) new
  wrs [(GLB_HOSTACC_LOCK, b2n o.hostLock), (HEP_SSID_SVID, o.svid), (HEP_SSID_SSID, o.ssid)] new

/-- POWER_UP: every rail is in range and the power-on reset releases (R399): the links of the dies train, at `lanes` by link,
the capability chain is built (R34), and the random generator's start-up tests run (R324). After a brown-out the shutdown
latch still holds; the removal of all supplies clears it (R353). -/
def powerUp (lanes : List Nat) (rng : Bool) (nor : Nat) (s : State) : State :=
  if !(s.dev.sup.coreOn && s.dev.sup.vddq) then s
  else
    let latched := s.dev.sup.brown && isSet THM_STAT_LATCHED s.dev
    let d := phasesNow (wrB THM_STAT_LATCHED latched (coldReset nor s.otp s.dev))
    { s with dev := startupTests rng (buildChain (trainAll lanes d)) }

/-- POWER_UP. -/
def execPowerUp (lanes : List Nat) (rng : Bool) (nor : Nat) (s : State) : Out := .next (powerUp lanes rng nor s)

/-- The rail monitors of group 3 report in range (R399). -/
def group3Ok (d : Dev) : Bool := [2, 4, 5, 7].all (fun r => !isSet (REG_MON_UV r) d && !isSet (REG_MON_OV r) d)

/-- CORE_REGULATOR_START (R399): the enabled phases switch, VDD_CORE is at the set-point (R174). -/
def coreStart (d : Dev) : Dev :=
  if group3Ok d then
    setRaw pgReg 0 false (phasesNow (coreIs (rd REG_CORECFG_VSET d * 5) { d with sup := { d.sup with coreOn := true } }))
  else d

/-- CORE_REGULATOR_START. -/
def execCoreRegulatorStart (s : State) : Out := always coreStart s

/-- VDDQ_ENABLE: GPIO7 goes high, VDD_CORE having been in range for 1 ms (R400). -/
def vddqEnable (d : Dev) : Dev := if d.sup.coreOn then { d with sup := { d.sup with vddq := true } } else d

/-- VDDQ_ENABLE. -/
def execVddqEnable (s : State) : Out := always vddqEnable s

/-- VDD_CORE_FALL: below 90 % of its set-point VDD_CORE is out of regulation (R179); GPIO7 goes low (R400). -/
def coreFall (d : Dev) : Dev := setRaw pgReg 0 true { d with sup := { d.sup with vddq := false } }

/-- VDD_CORE_FALL. -/
def execVddCoreFall (s : State) : Out := always coreFall s

/-- BROWN_OUT: the device is reset as at power-up, and nothing is vaulted (R401). It stays in reset until its rails have come
up again. -/
def brownOut (nor : Nat) (s : State) : State :=
  let latched := isSet THM_STAT_LATCHED s.dev
  let d := wrB THM_STAT_LATCHED latched (coldReset nor s.otp s.dev)
  { s with dev := coreIs 0 (phasesNow { d with sup := ⟨false, false, none, true⟩ }) }

/-- BROWN_OUT. -/
def execBrownOut (nor : Nat) (s : State) : Out := .next (brownOut nor s)

/-- ACTIVITY_STRETCH_EXPIRY: the stretch of the activity indicator has lasted 50 ms (R400). -/
def stretchEnd (d : Dev) : Dev :=
  if d.sup.actAt.any (fun t => decide (t + 50 * auxPerMs ≤ d.time)) then { d with sup := { d.sup with actAt := none } } else d

/-- ACTIVITY_STRETCH_EXPIRY. -/
def execActivityStretchExpiry (s : State) : Out := onDev stretchEnd s

end Sys2Proof.Machine
end

