-- ==== Sys2Proof/Machine/HostBar.lean ====
section
/-!
DEFINITION. Machine/HostBar.lean: requests of the host to BAR0 (R224, R227): the NVMe controller registers and doorbells,
the MSI-X table and its pending bits, and the vendor pages.
-/
namespace Sys2Proof.Machine

/-! ## NVMe controller registers (R224, R237, R240) -/

/-- CMBLOC and CMBSZ: the window in force as the controller memory buffer (R237), in units of 4 KiB. -/
def cmbLoc (d : Dev) : Nat := match cmbWin d with | some w => 2 + w.base / 4096 * 4096 | none => 0
def cmbSize (d : Dev) : Nat :=
  match cmbWin d with
  | some w => b2n d.host.act.cmbSqs + 24 * b2n d.host.act.cmbData + 2 ^ w.log2 / 4096 * 4096
  | none => 0

/-- A controller register word below 0x1000. -/
def nvmeReg (o : Nat) (d : Dev) : Nat :=
  match o with
  | 0x00 => nvmeCap % 2 ^ 32
  | 0x04 => nvmeCap / 2 ^ 32
  | 0x08 => nvmeVs
  | 0x14 => ccWord d
  | 0x1C => wordOf [NVME_CSTS_RDY, NVME_CSTS_CFS, NVME_CSTS_SHST] d
  | 0x24 => wordOf [NVME_AQA_ASQS, NVME_AQA_ACQS] d
  | 0x28 => wordOf [NVME_ASQ_LO] d
  | 0x2C => wordOf [NVME_ASQ_HI] d
  | 0x30 => wordOf [NVME_ACQ_LO] d
  | 0x34 => wordOf [NVME_ACQ_HI] d
  | 0x38 => cmbLoc d
  | 0x3C => cmbSize d
  | _ => 0

/-- The effect of a word written to a controller register below 0x1000. -/
def nvmeRegWrite (o v : Nat) (d : Dev) : Dev :=
  match o with
  | 0x14 => ccWrite v d
  | 0x24 => wrs [(NVME_AQA_ASQS, bits v 0 12), (NVME_AQA_ACQS, bits v 16 12)] d
  | 0x28 => wr NVME_ASQ_LO (bits v 12 20) d
  | 0x2C => wr NVME_ASQ_HI v d
  | 0x30 => wr NVME_ACQ_LO (bits v 12 20) d
  | 0x34 => wr NVME_ACQ_HI v d
  | _ => d

/-! ## MSI-X table and pending bits (R221, R224) -/

/-- Word `w` of entry `v` of the MSI-X table. -/
def msixWord (v w : Nat) (d : Dev) : Nat :=
  let e := Store.get MsixEntry.reset v d.host.msix
  match w with
  | 0 => e.addr % 2 ^ 32
  | 1 => e.addr / 2 ^ 32
  | 2 => e.data
  | _ => b2n e.masked

/-- A word written to entry `v` of the MSI-X table; what was pending for a vector that is unmasked is sent (R39). -/
def msixWrite (v w x : Nat) (d : Dev) : Dev :=
  let e := Store.get MsixEntry.reset v d.host.msix
  let e := match w with
    | 0 => { e with addr := e.addr / 2 ^ 32 * 2 ^ 32 + x / 4 * 4 }
    | 1 => { e with addr := e.addr % 2 ^ 32 + x * 2 ^ 32 }
    | 2 => { e with data := x }
    | _ => { e with masked := bitOf x 0 }
  msixFlush { d with host := { d.host with msix := Store.put MsixEntry.reset v e d.host.msix } }

/-- Word `w` of the MSI-X pending bits: vectors 0 to 64. -/
def pbaWord (w : Nat) (d : Dev) : Nat :=
  (((List.range 32).filter (fun k => d.host.pba.any (fun p => p.1 == 32 * w + k))).map (fun k => 2 ^ k)).sum

/-! ## Offsets below 0x10000 -/

/-- The offset is that of a doorbell: the admin pair or one of 128 I/O pairs. -/
def isDoorbell (off : Nat) : Bool := decide (0x1000 ≤ off) && decide (off < 0x1408)

/-- The word at an aligned offset below 0x10000. What a doorbell reads as NVM Express leaves to the device: a free value
(notes/assumptions/15). -/
def lowWord (off : Nat) (d : Dev) : Dev × Nat :=
  if off < 0x1000 then (d, nvmeReg off d)
  else if isDoorbell off then
    let f := draw d
    (f.1, f.2 % 2 ^ 32)
  else if 0x2000 ≤ off ∧ off < 0x2410 then (d, msixWord ((off - 0x2000) / 16) (off % 16 / 4) d)
  else if 0x3000 ≤ off ∧ off < 0x3010 then (d, pbaWord ((off - 0x3000) / 4) d)
  else (d, 0)

/-- The effect of a whole word written at an aligned offset below 0x10000. -/
def lowWrite (off v : Nat) (d : Dev) : Dev :=
  if off < 0x1000 then nvmeRegWrite off v d
  else if isDoorbell off then doorbell ((off - 0x1000) / 4) v d
  else if 0x2000 ≤ off ∧ off < 0x2410 then msixWrite ((off - 0x2000) / 16) (off % 16 / 4) v d
  else d

/-- `n` bytes of `v` at byte `k` of a word that holds `old`. -/
def mergeBytes (old k n v : Nat) : Nat := old - bits old (8 * k) (8 * n) * 2 ^ (8 * k) + bits v 0 (8 * n) * 2 ^ (8 * k)

/-- A write of `n` bytes that lie in one word: part of a controller register or of the MSI-X table merges into it, part of a
doorbell is discarded. -/
def lowPart (off n v : Nat) (d : Dev) : Dev :=
  if off % 4 = 0 ∧ n = 4 then lowWrite off (v % 2 ^ 32) d
  else if isDoorbell off then d
  else
    let w := off / 4 * 4
    lowWrite w (mergeBytes (lowWord w d).2 (off % 4) n v) d

/-- A write of `n` bytes below 0x10000. One that is wider than a word is no whole doorbell. -/
def lowStore (off n v : Nat) (d : Dev) : Dev :=
  let k := 4 - off % 4
  if n ≤ k then lowPart off n v d
  else if isDoorbell off then d
  else lowPart (off + k) (n - k) (v / 2 ^ (8 * k)) (lowPart off k v d)

/-- A read of `n` bytes below 0x10000. -/
def lowLoad (off n : Nat) (d : Dev) : Dev × Nat :=
  let w := off / 4 * 4
  let a := lowWord w d
  let b := if off % 4 + n ≤ 4 then (a.1, 0) else lowWord (w + 4) a.1
  (b.1, bits (a.2 + 2 ^ 32 * b.2) (8 * (off % 4)) (8 * n))

/-! ## The request -/

/-- A memory read (no value) or write of `n` bytes at an offset of BAR0 is carried out. -/
def barDo (off n : Nat) (data : Option Nat) (env : RegEnv) (s : State) : State :=
  let legal := decide (n ≤ 8) && decide (off % 8 + n ≤ 8) && memOn s.dev && decide (off < 0x10000)
  if decide (n ≤ 8) && decide (off % 8 + n ≤ 8) && vendorOff off then
    match data with
    | some v => hostVendor true env.hdr (regWrite env .host off n v) s
    | none => hostVendor false env.hdr (readReg .host off n) s
  else if !legal then inDev (unsupported data.isSome env.hdr) s
  else
    inDev (fun d =>
      let d := { linkL0 d with ur := false }
      match data with
      | some v => lowStore off n v d
      | none =>
        let r := lowLoad off n (flushOut d)
        { r.1 with rdata := r.2 }) s

/-- HOST_BAR0_REQUEST: requests to BAR0 and BAR2 are carried out in one sequence, and those after a commit point wait for
the new mapping (R227, R235). -/
def barRequest (off n : Nat) (data : Option Nat) (env : RegEnv) (s : State) : State :=
  if !linkIsUp s.dev then s
  else if isSet HEP_WINCOMMIT_BUSY s.dev then
    inDev (fun d => { d with host := { d.host with held := d.host.held ++ [.bar off n data env] } }) s
  else barDo off n data env s

/-- HOST_BAR0_REQUEST. -/
def execHostBar0Request (off n : Nat) (data : Option Nat) (env : RegEnv) (s : State) : Out :=
  onState (barRequest off n data env) s

/-- A request that waited is carried out, or waits again for a commit that one before it began. -/
def carryHeld (r : HeldReq) (s : State) : State :=
  match r with
  | .bar off n data env => barRequest off n data env s
  | .win r => inDev (windowRequest r) s

/-- WINDOW_COMMIT_INSTALL: the new mapping is installed and the requests that waited are carried out in their order (R235);
a link that has gone down meanwhile has taken them with it (R238; notes/assumptions/121). -/
def commitInstall (s : State) : State :=
  match s.dev.host.next with
  | none => s
  | some m =>
    s.dev.host.held.foldl (fun s r => carryHeld r s)
      (inDev (fun d => windowInstall m { d with host := { d.host with held := [] } }) s)

/-- WINDOW_COMMIT_INSTALL. -/
def execWindowCommitInstall (s : State) : Out := onState commitInstall s

/-! ## REGISTER_WRITE and RC_READ (R10, R30) -/

/-- REGISTER_WRITE: a requester writes `size` bytes at an offset of BAR0: a core through its register window (R31), the host
by a memory request (R224). -/
def registerWrite (who : Who) (off : Nat) (size : MemSize) (v : Nat) (env : RegEnv) (s : State) : State :=
  match who with
  | .host => barRequest off size.bytes (some v) env s
  | .core _ => if off < 0x10000 then inDev (lowStore off size.bytes v) s else regWrite env who off size.bytes v s

/-- REGISTER_WRITE. -/
def execRegisterWrite (who : Who) (off : Nat) (size : MemSize) (v : Nat) (env : RegEnv) (s : State) : Out :=
  onState (registerWrite who off size v env) s

/-- RC_READ: a requester reads `size` bytes at an offset of BAR0. -/
def registerRead (who : Who) (off : Nat) (size : MemSize) (hdr : List Nat) (s : State) : State :=
  match who with
  | .host => barRequest off size.bytes none ⟨0, [], [], true, hdr⟩ s
  | .core _ =>
    if off < 0x10000 then inDev (fun d => let r := lowLoad off size.bytes d; { r.1 with rdata := r.2 }) s
    else readReg who off size.bytes s

/-- RC_READ. -/
def execRcRead (who : Who) (off : Nat) (size : MemSize) (hdr : List Nat) (s : State) : Out :=
  onState (registerRead who off size hdr) s

end Sys2Proof.Machine
end

