-- ==== Sys2Proof/Machine/BootRom.lean ====
section
/-!
DEFINITION. Machine/BootRom.lean: the Boot ROM sequence on core 0 (R49 to R53).
-/
namespace Sys2Proof.Machine

/-- Boot ROM runs on core 0: since the last reset it has neither started an image nor failed, and PERST_N has not stopped it
(R53). -/
def booting (d : Dev) : Bool :=
  rd GLB_BOOTSTAT_CODE d == 0 && !(core 0 d).halted && d.pws.quiesce.isNone && !(d.host.perst && (d.deal.ploss || isSet THM_STAT_LATCHED d))

/-- Boot ROM fails with CODE `code` (R53): CSTS.CFS, GLB event 0x00C with severity 4, CODE on the debug UART, core 0 halted in
WFI. Without a valid directory the recorder stops appending. A record of severity 4 is queued whatever the route's LOG holds,
and the event is delivered with the route's severity. DESIGN CHOICE, notes/assumptions/98. -/
def bootFail (code : Nat) (d : Dev) : Dev :=
  let d := setCfs (wr GLB_BOOTSTAT_CODE code d)
  let d := raiseRec pgGlb 4 4 (generalPayload ((page pgGlb d).raw ||| evMask 4) (errCntWord (page pgGlb d) d)) d
  let d := if code ≤ 3 then wr LOG_STAT_STOPPED 1 d else d
  { onCore 0 (fun x => { x with wfi := true, halted := true }) d with uart := d.uart ++ [code] }

/-- The regions that the retention index names (R364), if its header passes: write data, SDRAM mirror, vault staging, and the
index itself. -/
def retained (d : Dev) : Dev × List (Nat × Nat) :=
  if !isSet PWS_RSTSTAT_RETAIN d then (d, [])
  else
    let r := memRead (retRegion d).1 4096 d
    match r.2 with
    | none => (r.1, [])
    | some h =>
      let at' := fun k => leNat ((h.drop k).take 4)
      if at' 0 = 0x54455252 ∧ at' 4092 = crc32c (h.take 4092) ∧ at' 4 ≤ 65536 then
        (r.1, [spanAt (at' 8) 7 0x10000000, spanAt (at' 12) 7 0x10000000, spanAt (at' 16) 7 0x1000000, retRegion d])
      else (r.1, [])

/-- A range without what lies in others. -/
def without (r : Nat × Nat) (ex : List (Nat × Nat)) : List (Nat × Nat) :=
  ex.foldl (fun l e => l.flatMap (fun p => [(p.1, min p.2 e.1), (max p.1 e.2, p.2)].filter (fun q => q.1 < q.2))) [r]

/-! ## The NOR directory (R49) and the image slots (R50, R51) -/

/-- The `n`-byte little-endian number at byte `k`. -/
def leAt (bs : List Nat) (k n : Nat) : Nat := leNat ((bs.drop k).take n)

/-- A directory copy is correct: DMAGIC and DCRC. -/
def dirCorrect (b : List Nat) : Bool := b.length == 64 && leAt b 0 4 == 0x31524944 && leAt b 60 4 == crc32c (b.take 60)

/-- The first correct copy of the directory. -/
def dirUsed (b : BootInput) : Option (List Nat) :=
  if dirCorrect b.dir0 then some b.dir0 else if dirCorrect b.dir1 then some b.dir1 else none

/-- Fields of the directory: the NOR offsets of image slots A and B, of the memory configuration record (0: none) and of the
calibration record, and the log partition. -/
def dirSlotA (dir : List Nat) : Nat := leAt dir 4 4
def dirSlotB (dir : List Nat) : Nat := leAt dir 8 4
def dirMcr (dir : List Nat) : Nat := leAt dir 12 4
def dirCalrec (dir : List Nat) : Nat := leAt dir 16 4
def dirLogBase (dir : List Nat) : Nat := leAt dir 20 4
def dirLogSize (dir : List Nat) : Nat := leAt dir 24 4

/-- The memory configuration record is present and passes its own CRC-32C. -/
def mcrPasses (dir mcr : List Nat) : Bool :=
  dirMcr dir != 0 && decide (4 < mcr.length) && leAt mcr (mcr.length - 4) 4 == crc32c (mcr.take (mcr.length - 4))

/-- Fields of an image header (R50). -/
def hdrSecver (h : List Nat) : Nat := leAt h 0x00C 4
def hdrLoad (h : List Nat) : Nat := leAt h 0x010 8
def hdrEntry (h : List Nat) : Nat := leAt h 0x018 8
def hdrPaylen (h : List Nat) : Nat := leAt h 0x020 4
def hdrPayhash (h : List Nat) : List Nat := (h.drop 0x028).take 48
def hdrPubkey (h : List Nat) : List Nat := (h.drop 0x058).take 97
def hdrSig (h : List Nat) : List Nat := (h.drop 0x180).take 96

/-- MAGIC, HDRVER and HDRLEN hold their values, and every reserved byte is 0 (R51). -/
def headerLaid (h : List Nat) : Bool :=
  h.length == 512 && leAt h 0 4 == 0x38345A57 && leAt h 4 2 == 1 && leAt h 8 4 == 0x200
    && ([(0x006, 2), (0x024, 4), (0x0B9, 199), (0x1E0, 32)].all (fun r => ((h.drop r.1).take r.2).all (· == 0)))

/-- The payload is where R50 lets a header place it: 128-byte aligned, a multiple of 128 bytes, at most 32 MiB. Boot ROM does
not check it (R51); a header that a builder makes keeps it. -/
def headerPlaced (h : List Nat) : Bool := hdrLoad h % 128 == 0 && hdrPaylen h % 128 == 0 && decide (hdrPaylen h ≤ 0x2000000)

/-- The key-hash slot that verifies the public key (R51): slot 0, or slot 1 when slot 0 is revoked or does not match. -/
def hashSlot (o : Otp) (h : List Nat) : Option Nat :=
  let k := sha384 (hdrPubkey h)
  if k == o.keyHash0 && !o.key0rev then some 0 else if k == o.keyHash1 then some 1 else none

/-- SIG verifies under PUBKEY over the header's first 0x180 bytes (R50, R51). -/
def sigVerifies (h : List Nat) : Bool := ecdsaOk (hdrPubkey h) (h.take 0x180) (hdrSig h)

/-- SHA-384 of the payload equals PAYHASH (R51). -/
def payloadVerifies (x : SlotImage) : Bool := sha384 x.payload == hdrPayhash x.header

/-- The checks of R51 that come before the payload is loaded. -/
def headerPasses (o : Otp) (x : SlotImage) (d : Dev) : Bool :=
  let h := x.header
  headerLaid h && (hashSlot o h).isSome && sigVerifies h && decide (o.rollback ≤ hdrSecver h) && decide (hdrSecver h ≤ 128)
    && decide (sdramBase ≤ hdrLoad h) && decide (hdrLoad h + hdrPaylen h ≤ sdramBase + sdramBytes d)
    && decide (hdrLoad h ≤ hdrEntry h) && decide (hdrEntry h < hdrLoad h + hdrPaylen h) && hdrPaylen h == x.payload.length

/-! ## The steps (R52) -/

/-- Step 5: LP5X trained from the memory configuration record or the defaults; training state that was retained is kept, and
SDRAM leaves self-refresh. -/
def trainSdram (b : BootInput) (d : Dev) : Dev :=
  let ok := mcrPasses d.dir b.mcr
  if isSet PWS_RSTSTAT_RETAIN d then wr DRC_STAT_SREF 0 d
  else wrs [(GLB_BOOTSTAT_DEFMCR, b2n (!ok)), (DRC_MAP_ILV, if ok then b.ilv else 12), (DRC_MAP_CHGIB, b.chgib),
    (DRC_MAP_RANKS, b.ranks), (DRC_STAT_MTS, if ok then b.mts else 3200), (DRC_STAT_TRAINED, 1), (DRC_STAT_SREF, 0)] d

/-- Step 6: the fill engine zeroes usable SDRAM, but for what the retention index names. -/
def fillSdram (d : Dev) : Dev :=
  let r := retained d
  let d := (without (sdramBase, sdramBase + sdramBytes r.1) r.2).foldl (fun d p => fillRange p.1 p.2 d) r.1
  raise pgDrc 4 (wrs [(DRC_FILLCTL_DONE, 1), (DRC_MAP_MAPLOCK, 1)] d)

/-- Check and load a slot (R51). -/
def trySlot (o : Otp) (x : SlotImage) (d : Dev) : Dev × Bool :=
  if headerPasses o x d then (memWrite (hdrLoad x.header) x.payload (some 0) d, payloadVerifies x) else (d, false)

/-- Steps 8 and 9: the image starts in machine mode with the PMP off and a0 = 0x4010_0000. What Boot ROM leaves in the other
integer registers the spec does not state: free values. -/
def startImage (o : Otp) (slot : Nat) (fallback : Bool) (h : List Nat) (d : Dev) : Dev :=
  let d := wrs [(GLB_BOOTSTAT_SLOT, slot), (GLB_BOOTSTAT_KEY, (hashSlot o h).getD 0), (GLB_BOOTSTAT_FALLBACK, b2n fallback),
    (GLB_BOOTSTAT_SECVER, hdrSecver h), (GLB_BOOTSTAT_CODE, 1)] d
  let d := if fallback then raise pgGlb 3 d else d
  let xs := (List.range 31).foldl (fun m k => Store.put 0 (k + 1) (Config.free (d.fresh + k) % 2 ^ 64) m) ([] : Store Nat)
  onCore 0 (fun y => { y with
    x := Store.put 0 10 0x40100000 xs, pc := hdrEntry h, user := false, icache := [], pmp := [] }) { d with fresh := d.fresh + 31 }

/-- Steps 7 to 9: the slot with the higher security version first, slot A when they are equal. -/
def loadImage (o : Otp) (b : BootInput) (d : Dev) : Dev :=
  let first := if hdrSecver b.slotA.header < hdrSecver b.slotB.header then 1 else 0
  let slot := fun k => if k = 0 then b.slotA else b.slotB
  let r := trySlot o (slot first) d
  if r.2 then startImage o first false (slot first).header r.1
  else
    let q := trySlot o (slot (1 - first)) r.1
    if q.2 then startImage o (1 - first) true (slot (1 - first)).header q.1 else bootFail 5 q.1

/-- Steps 5 to 9, with a correct directory. -/
def bootWith (o : Otp) (b : BootInput) (dir : List Nat) (d : Dev) : Dev :=
  let d := { onRec (fun x => if x.fixed then { x with dirOk := true }
    else { x with dirOk := true, base := dirLogBase dir, size := dirLogSize dir }) d with dir := dir }
  if !isSet PWS_RSTSTAT_RETAIN d && !b.trainOk then bootFail 4 (wr GLB_BOOTSTAT_DEFMCR (b2n (!mcrPasses dir b.mcr)) d)
  else loadImage o b (fillSdram (trainSdram b d))

/-- BOOT_ROM_RUN: the steps of R52 in order. -/
def bootRun (b : BootInput) (s : State) : State :=
  if !booting s.dev then s
  else
    let d := fillRange 0x08100000 0x08200000 s.dev
    let e :=
      if !b.norOk then bootFail 2 d
      else
        let d := if b.erase4k then d else wr LOG_STAT_NOERASE 1 d
        match dirUsed b with
        | none => bootFail 3 d
        | some dir => bootWith s.otp b dir d
    { s with dev := e }

/-- BOOT_ROM_RUN. -/
def execBootRomRun (b : BootInput) (s : State) : Out := onState (bootRun b) s

end Sys2Proof.Machine
end

