-- ==== Sys2Proof/Machine/Wiloz.lean ====
section
/-!
DEFINITION. Machine/Wiloz.lean: the parts of a Wiloz core (R42 to R46): integer registers and arithmetic, traps, the control
and status registers, the PMP and the core's memory map. The meaning of RV64IMAC, Zicsr and the machine-level registers is
the RISC-V architecture's, which R42 and R45 name. PRESUMED, notes/assumptions/67.
-/
namespace Sys2Proof.Machine

/-! ## Integer registers and arithmetic -/

/-- Integer register `r` of core `c`; x0 reads 0. -/
def xr (c : Nat) (r : Fin 32) (d : Dev) : Nat := if r = 0 then 0 else Store.get 0 r.val (core c d).x

/-- Write integer register `r` of core `c`; a write of x0 is discarded. -/
def setX (c : Nat) (r : Fin 32) (v : Nat) (d : Dev) : Dev :=
  if r = 0 then d else onCore c (fun y => { y with x := Store.put 0 r.val (v % 2 ^ 64) y.x }) d

/-- The second operand. -/
def srcVal (c : Nat) (x : Src) (d : Dev) : Nat := match x with | .reg r => xr c r d | .imm v => toField 64 v

/-- An integer operation on operands of `w` bits. -/
def aluFn (op : AluOp) {w : Nat} (a b : BitVec w) : BitVec w :=
  match op with
  | .add => a + b
  | .sub => a - b
  | .sll => a <<< (b.toNat % w)
  | .slt => if a.slt b then 1 else 0
  | .sltu => if a.ult b then 1 else 0
  | .xor => a ^^^ b
  | .srl => a >>> (b.toNat % w)
  | .sra => a.sshiftRight (b.toNat % w)
  | .or => a ||| b
  | .and => a &&& b
  | .mul => a * b
  | .mulh => BitVec.ofInt w (a.toInt * b.toInt / 2 ^ w)
  | .mulhsu => BitVec.ofInt w (a.toInt * b.toNat / 2 ^ w)
  | .mulhu => BitVec.ofNat w (a.toNat * b.toNat / 2 ^ w)
  | .div => if b = 0 then -1 else a.sdiv b
  | .divu => if b = 0 then -1 else a / b
  | .rem => if b = 0 then a else a.srem b
  | .remu => if b = 0 then a else a % b

/-- An integer operation on 64 bits, or on the low 32 bits with a sign-extended result. -/
def alu (op : AluOp) (word : Bool) (a b : Nat) : Nat :=
  if word then ((aluFn op (BitVec.ofNat 32 a) (BitVec.ofNat 32 b)).signExtend 64).toNat
  else (aluFn op (BitVec.ofNat 64 a) (BitVec.ofNat 64 b)).toNat

/-- The set has the operation in this form: word forms and immediate forms exist for some operations only. -/
def aluLegal (op : AluOp) (word : Bool) (src : Src) : Bool :=
  let wordOp := [AluOp.add, .sub, .sll, .srl, .sra, .mul, .div, .divu, .rem, .remu].contains op
  let immOp := [AluOp.add, .slt, .sltu, .xor, .or, .and, .sll, .srl, .sra].contains op
  (!word || wordOp) && (match src with | .reg _ => true | .imm _ => immOp)

/-- The condition of a branch. -/
def branchTaken (op : BrOp) (a b : Nat) : Bool :=
  let x := BitVec.ofNat 64 a
  let y := BitVec.ofNat 64 b
  match op with
  | .eq => x == y | .ne => x != y | .lt => x.slt y | .ge => !x.slt y | .ltu => x.ult y | .geu => !x.ult y

/-- A 64-bit address from a base and an offset. -/
def addrOf (a : Nat) (off : Int) : Nat := toField 64 ((a : Int) + off)

/-- A value of `n` bytes as a load or an atomic leaves it in a register. -/
def extend (sext : Bool) (n v : Nat) : Nat := if sext then toField 64 (signed (8 * n) v) else v

/-! ## Traps -/

/-- A CSR of core `c` as stored. -/
def csrRaw (c num : Nat) (d : Dev) : Nat := Store.get 0 num (core c d).csr
def setCsr (c num v : Nat) (d : Dev) : Dev := onCore c (fun y => { y with csr := Store.put 0 num v y.csr }) d

/-- Core `c` takes a trap: mepc, mcause, mtval, the interrupt-enable stack, machine mode, and the vector of mtvec. -/
def trap (c cause tval : Nat) (intr : Bool) (d : Dev) : Dev :=
  let y := core c d
  let tvec := csrRaw c 0x305 d
  let entry := tvec / 4 * 4 + (if intr && tvec % 4 == 1 then 4 * cause else 0)
  let d := setCsr c 0x343 tval (setCsr c 0x342 (cause + (if intr then 2 ^ 63 else 0)) (setCsr c 0x341 y.pc d))
  onCore c (fun y => { y with mpie := y.mie, mie := false, mppUser := y.user, user := false, pc := entry % 2 ^ 64 }) d

/-- A non-maskable interrupt of core `c` (R39). Where it enters and what mcause then holds the spec does not say: free. -/
def nmiTrap (c : Nat) (d : Dev) : Dev :=
  let f := draw d
  let d := setCsr c 0x343 0 (setCsr c 0x342 (f.2 % 2 ^ 64) (setCsr c 0x341 (core c d).pc f.1))
  onCore c (fun y => { y with mpie := y.mie, mie := false, mppUser := y.user, user := false, pc := Config.nmiVector c % 2 ^ 64 }) d

/-- An illegal instruction; mtval is 0 or the instruction, which the architecture leaves open. -/
def illegal (c : Nat) (d : Dev) : Dev :=
  let f := draw d
  trap c 2 (f.2 % 2 ^ 32) false f.1

/-- Interrupts of core `c` that are enabled one by one and pending. -/
def enabledPending (c : Nat) (d : Dev) : Nat := csrRaw c 0x304 d &&& mipOf c d

/-- Core `c` takes the pending interrupt that comes first: the non-maskable one, then external, then timer. -/
def takeInterrupt (c : Nat) (d : Dev) : Dev :=
  let y := core c d
  let e := enabledPending c d
  if nmiPending c d then nmiTrap c d
  else if !(y.mie || y.user) || e == 0 then d
  else trap c (if e.testBit 11 then 11 else 7) 0 true d

/-! ## PMP (R45) -/

def pmpEntry (c i : Nat) (d : Dev) : PmpEntry := Store.get PmpEntry.off i (core c d).pmp
def setPmp (c i : Nat) (e : PmpEntry) (d : Dev) : Dev := onCore c (fun y => { y with pmp := Store.put PmpEntry.off i e y.pmp }) d

/-- Trailing ones of a pmpaddr value, at most 54. -/
def trailOnes : Nat → Nat → Nat
  | 0, _ => 0
  | n + 1, v => if v % 2 = 1 then trailOnes n (v / 2) + 1 else 0

/-- The address range of PMP entry `i`, with a grain of 4 KiB. -/
def pmpRange (c i : Nat) (d : Dev) : Option (Nat × Nat) :=
  let e := pmpEntry c i d
  match e.mode with
  | 0 => none
  | 1 => some (if i = 0 then 0 else (pmpEntry c (i - 1) d).addr / 2 ^ 10 * 2 ^ 12, e.addr / 2 ^ 10 * 2 ^ 12)
  | _ =>
    let v := e.addr ||| 0x1FF
    let t := trailOnes 54 v
    some (v / 2 ^ (t + 1) * 2 ^ (t + 3), v / 2 ^ (t + 1) * 2 ^ (t + 3) + 2 ^ (t + 3))

/-- The kinds of access the PMP tells apart. -/
inductive AccKind
  | read | write | fetch | amo
  deriving DecidableEq, Repr

/-- What an entry permits. -/
def PmpEntry.permits (e : PmpEntry) : AccKind → Bool
  | .read => e.r
  | .write => e.w
  | .fetch => e.x
  | .amo => e.r && e.w

/-- The PMP allows an access of `n` bytes at `a`: the lowest-numbered entry that matches any byte decides; without one
machine mode passes and user mode does not. -/
def pmpAllows (c : Nat) (user : Bool) (k : AccKind) (a n : Nat) (d : Dev) : Bool :=
  match (List.range 16).find? (fun i => (pmpRange c i d).any (fun r => meets r (a, a + n))) with
  | none => !user
  | some i =>
    (pmpRange c i d).any (fun r => decide (r.1 ≤ a) && decide (a + n ≤ r.2))
      && ((!user && !(pmpEntry c i d).locked) || (pmpEntry c i d).permits k)

/-- The privilege a load or store is checked with (mstatus.MPRV). -/
def dataUser (c : Nat) (d : Dev) : Bool :=
  let y := core c d
  if y.mprv && !y.user then y.mppUser else y.user

/-- One configuration byte of the PMP as it reads. -/
def pmpCfg (c i : Nat) (d : Dev) : Nat :=
  let e := pmpEntry c i d
  b2n e.r + 2 * b2n e.w + 4 * b2n e.x + 8 * e.mode + 128 * b2n e.locked

/-- A configuration byte is written: a locked entry keeps all, NA4 keeps the mode, and R = 0 with W = 1 keeps both. -/
def pmpCfgWrite (c i v : Nat) (d : Dev) : Dev :=
  let e := pmpEntry c i d
  if e.locked then d
  else
    let rw := bitOf v 0 || !bitOf v 1
    setPmp c i { e with
      mode := if bits v 3 2 = 2 then e.mode else bits v 3 2, r := if rw then bitOf v 0 else e.r,
      w := if rw then bitOf v 1 else e.w, x := bitOf v 2, locked := bitOf v 7 } d

/-- pmpaddr as it reads with a grain of 4 KiB. -/
def pmpAddr (c i : Nat) (d : Dev) : Nat :=
  let e := pmpEntry c i d
  if e.mode = 3 then e.addr ||| 0x1FF else e.addr / 2 ^ 10 * 2 ^ 10

/-- pmpaddr is written: not where the entry is locked, or the next one is locked in mode TOR. -/
def pmpAddrWrite (c i v : Nat) (d : Dev) : Dev :=
  let e := pmpEntry c i d
  let n := pmpEntry c (i + 1) d
  if e.locked || (n.locked && n.mode == 1) then d else setPmp c i { e with addr := v % 2 ^ 54 } d

/-! ## Control and status registers -/

/-- mstatus of a core with machine and user mode. -/
def mstatus (c : Nat) (d : Dev) : Nat :=
  let y := core c d
  8 * b2n y.mie + 128 * b2n y.mpie + 0x1800 * b2n (!y.mppUser) + 2 ^ 17 * b2n y.mprv + 2 ^ 21 * b2n y.tw + 2 ^ 33

/-- misa: RV64IMAC with user mode. -/
def misa : Nat := 2 ^ 63 + 2 ^ 0 + 2 ^ 2 + 2 ^ 8 + 2 ^ 12 + 2 ^ 20

/-- What a CSR reads, if core `c` has it. Cycle counts are not modelled: free values. -/
def csrRead (c num : Nat) (d : Dev) : Option (Dev × Nat) :=
  let hpm := num % 0x20
  if num = 0x300 then some (d, mstatus c d)
  else if num = 0x301 then some (d, misa)
  else if num = 0x344 then some (d, mipOf c d)
  else if num ∈ [0x304, 0x305, 0x306, 0x320, 0x340, 0x341, 0x342, 0x343, 0xB02] then some (d, csrRaw c num d)
  else if num = 0xC02 then some (d, csrRaw c 0xB02 d)
  else if num = 0xC01 then some (d, d.time % 2 ^ 64)
  else if num = 0xB00 ∨ num = 0xC00 then
    let f := draw d
    some (f.1, f.2 % 2 ^ 64)
  else if num = 0x3A0 ∨ num = 0x3A2 then
    let k := if num = 0x3A0 then 0 else 8
    some (d, ((List.range 8).map (fun i => pmpCfg c (k + i) d * 256 ^ i)).sum)
  else if 0x3B0 ≤ num ∧ num < 0x3C0 then some (d, pmpAddr c (num - 0x3B0) d)
  else if num = 0xF14 then some (d, c)
  else if 0xF11 ≤ num ∧ num < 0xF14 then some (d, Config.coreIdent num % 2 ^ 64)
  else if (num / 0x20 = 0xB00 / 0x20 ∨ num / 0x20 = 0xC00 / 0x20 ∨ num / 0x20 = 0x320 / 0x20) ∧ 3 ≤ hpm then some (d, 0)
  else none

/-- A value written to a CSR that core `c` has and that is not read-only. -/
def csrWrite (c num v : Nat) (d : Dev) : Dev :=
  match num with
  | 0x300 => onCore c (fun y => { y with
      mie := bitOf v 3, mpie := bitOf v 7,
      mppUser := if bits v 11 2 = 0 then true else if bits v 11 2 = 3 then false else y.mppUser,
      mprv := bitOf v 17, tw := bitOf v 21 }) d
  | 0x304 => setCsr c num (v &&& 0x880) d
  | 0x305 => setCsr c num (if v % 4 < 2 then v else v / 4 * 4 + csrRaw c num d % 4) d
  | 0x306 => setCsr c num (v &&& 7) d
  | 0x320 => setCsr c num (v &&& 5) d
  | 0x340 => setCsr c num v d
  | 0x341 => setCsr c num (v / 2 * 2) d
  | 0x342 => setCsr c num v d
  | 0x343 => setCsr c num v d
  | 0xB02 => setCsr c num v d
  | 0x3A0 => each 8 (fun i d => pmpCfgWrite c i (byteOf v i) d) d
  | 0x3A2 => each 8 (fun i d => pmpCfgWrite c (8 + i) (byteOf v i) d) d
  | _ => if 0x3B0 ≤ num ∧ num < 0x3C0 then pmpAddrWrite c (num - 0x3B0) v d else d

/-- The core's mode may access the CSR: user mode reads the counters that mcounteren allows. -/
def csrMode (c num : Nat) (d : Dev) : Bool :=
  !(core c d).user || (num / 0x20 == 0xC00 / 0x20 && (csrRaw c 0x306 d).testBit (num % 0x20))

/-- A CSR instruction: setting or clearing with x0 or an immediate of 0 writes nothing; a write of a read-only CSR is illegal.
Nothing is answered where it is illegal. -/
def csrExec (c : Nat) (k : CsrKind) (rdst : Fin 32) (num : Nat) (src : Src) (d : Dev) : Option Dev :=
  let writes := k == .write || (match src with | .reg r => r != 0 | .imm v => v != 0)
  match csrRead c num d with
  | none => none
  | some r =>
    if !csrMode c num d || (writes && num / 0x400 == 3) then none
    else
      let v := srcVal c src d
      let new := match k with
        | .write => v
        | .set => r.2 ||| v
        | .clear => r.2 ^^^ (r.2 &&& v)
      some (setX c rdst r.2 (if writes then csrWrite c num new r.1 else r.1))

/-! ## Memory as a core sees it (R31) -/

/-- Where an address of the core map leads. -/
inductive CorePlace
  | rom (off : Nat) | mem (a : Nat) | reg (off : Nat) | nowhere
  deriving DecidableEq, Repr

/-- Where `n` bytes at an address of core `c`'s map lie. -/
def coreMap (c a n : Nat) (d : Dev) : CorePlace :=
  if a + n ≤ 0x40000 then .rom a
  else if 0x08000000 ≤ a ∧ a + n ≤ 0x08020000 then .mem (localBase c + (a - 0x08000000))
  else if 0x40000000 ≤ a ∧ a + n ≤ 0x41000000 then .reg (a - 0x40000000)
  else if usable a n d then .mem a else .nowhere

/-- The address is cacheable in the cores (R31). -/
def cacheable (a : Nat) (d : Dev) : Bool := memKind a d == some .buffer || memKind a d == some .sdram

/-- `n` bytes of Boot ROM. -/
def romBytes (off n : Nat) : List Nat := (List.range n).map (fun k => Config.bootRom (off + k) % 256)

/-- Line `ln` comes into core `c`'s D-cache. A full cache gives up one line (R6); which one is a free value. -/
def dFill (c ln : Nat) (d : Dev) : Dev :=
  let full := decide (coreLines ≤ (core c d).dlines.length)
  let r := if full then draw d else (d, 0)
  onCore c (fun y => { y with dlines := ln :: (if full then y.dlines.eraseIdx (r.2 % coreLines) else y.dlines) }) r.1

/-- The bytes of line `ln` come into core `c`'s I-cache, as into its D-cache. -/
def iFill (c ln : Nat) (bs : List Nat) (d : Dev) : Dev :=
  let full := decide (coreLines ≤ (core c d).icache.length)
  let r := if full then draw d else (d, 0)
  onCore c (fun y => { y with icache := Store.put [] ln bs (if full then y.icache.eraseIdx (r.2 % coreLines) else y.icache) }) r.1

/-- A load of `n` bytes by core `c` that the PMP allows; nothing is answered where it faults. A buffer die without a link gives
a free value (notes/assumptions/48). -/
def coreLoad (c a n : Nat) (s : State) : State × Option Nat :=
  match coreMap c a n s.dev with
  | .rom off => (s, some (leNat (romBytes off n)))
  | .mem b =>
    if memUp b s.dev then
      let m := memRead b n s.dev
      let keep := m.2.isSome && cacheable b s.dev && !(core c m.1).dlines.contains (b / 128)
      (inDev (fun _ => if keep then dFill c (b / 128) m.1 else m.1) s, m.2.map leNat)
    else
      let f := draw s.dev
      (inDev (fun _ => f.1) s, some (f.2 % 2 ^ (8 * n)))
  | .reg off =>
    if off < 0x10000 then
      let r := lowLoad off n s.dev
      (inDev (fun _ => r.1) s, some r.2)
    else
      let r := regRead (.core (Fin.ofNat 8 c)) off n s
      (r.1, some r.2)
  | .nowhere => (s, none)

/-- A store of `n` bytes by core `c` that the PMP allows; false where it faults. Boot ROM takes no store. -/
def coreStore (env : RegEnv) (c a n v : Nat) (s : State) : State × Bool :=
  match coreMap c a n s.dev with
  | .mem b => (if memUp b s.dev then inDev (memWrite b (leBytes v n) (some c)) s else s, true)
  | .reg off =>
    (if off < 0x10000 then inDev (lowStore off n v) s else regWrite env (.core (Fin.ofNat 8 c)) off n v s, true)
  | .rom _ | .nowhere => (s, false)

/-- Core `c` fetches the two bytes at `a`; false where the fetch faults (R31, R45, R291). A line of cacheable memory comes into
its I-cache and stays as it was fetched until FENCE.I (R44). -/
def fetchParcel (c a : Nat) (d : Dev) : Dev × Bool :=
  if !pmpAllows c (core c d).user .fetch a 2 d then (d, false)
  else match coreMap c a 2 d with
    | .rom _ => (d, true)
    | .mem b =>
      if !memUp b d then (d, true)
      else if cacheable b d then
        if (Store.get [] (b / 128) (core c d).icache).isEmpty then
          let m := memRead (b / 128 * 128) 128 d
          match m.2 with
          | some bs => (iFill c (b / 128) bs m.1, true)
          | none => (m.1, false)
        else (d, true)
      else
        let m := memRead b 2 d
        (m.1, m.2.isSome)
    | .reg _ | .nowhere => (d, false)

/-- Core `c` fetches an instruction of 2 or 4 bytes at its pc; the address that faults, if one does. -/
def coreFetch (c : Nat) (short : Bool) (d : Dev) : Dev × Option Nat :=
  let pc := (core c d).pc
  let a := fetchParcel c pc d
  if !a.2 then (a.1, some pc)
  else if short then (a.1, none)
  else
    let b := fetchParcel c (pc + 2) a.1
    (b.1, if b.2 then none else some (pc + 2))

/-- The instruction is complete: the pc advances and minstret counts. -/
def retire (c : Nat) (d : Dev) : Dev :=
  if (csrRaw c 0x320 d).testBit 2 then d else setCsr c 0xB02 ((csrRaw c 0xB02 d + 1) % 2 ^ 64) d
def advance (c : Nat) (short : Bool) (d : Dev) : Dev :=
  retire c (onCore c (fun y => { y with pc := (y.pc + if short then 2 else 4) % 2 ^ 64 }) d)
def jumpTo (c a : Nat) (d : Dev) : Dev := retire c (onCore c (fun y => { y with pc := a }) d)

/-- Core `c` executes instructions now: it is released and not halted, Boot ROM has handed over (core 0), its clock runs
(R356), and it does not wait in WFI, or an enabled interrupt or a non-maskable one ends the wait. -/
def coreLive (c : Nat) (d : Dev) : Bool :=
  coreRuns c d && !(core c d).halted && (c != 0 || rd GLB_BOOTSTAT_CODE d == 1) && rd PWS_PSSTAT_STATE d != 4
    && (!(core c d).wfi || nmiPending c d || enabledPending c d != 0)

end Sys2Proof.Machine
end

