-- ==== Sys2Proof/Machine/CoreExec.lean ====
section
/-!
DEFINITION. Machine/CoreExec.lean: what a Wiloz core's instructions do (R42 to R46). The command carries the instruction as
decoded; the core fetches it, and takes the exceptions that the fetch and the access meet.
-/
namespace Sys2Proof.Machine

/-- A load of core `c` (R43): misaligned, then access faults, then its value goes to `rdst`. -/
def execLoad (c : Nat) (short : Bool) (n : Nat) (sext : Bool) (rdst : Fin 32) (a : Nat) (s : State) : State :=
  if a % n ≠ 0 then inDev (trap c 4 a false) s
  else if !pmpAllows c (dataUser c s.dev) .read a n s.dev then inDev (trap c 5 a false) s
  else
    let r := coreLoad c a n s
    match r.2 with
    | none => inDev (trap c 5 a false) r.1
    | some v => inDev (fun d => advance c short (setX c rdst (extend sext n v) d)) r.1

/-- A store of core `c` (R43). -/
def execStore (env : RegEnv) (c : Nat) (short : Bool) (n a v : Nat) (s : State) : State :=
  if a % n ≠ 0 then inDev (trap c 6 a false) s
  else if !pmpAllows c (dataUser c s.dev) .write a n s.dev then inDev (trap c 7 a false) s
  else
    let r := coreStore env c a n (v % 2 ^ (8 * n)) s
    if r.2 then inDev (advance c short) r.1 else inDev (trap c 7 a false) r.1

/-- WFI: the core waits; in user mode with mstatus.TW = 1 it is illegal. -/
def execWfi (c : Nat) (short : Bool) (d : Dev) : Dev :=
  if (core c d).user && (core c d).tw then illegal c d else onCore c (fun y => { y with wfi := true }) (advance c short d)

/-- MRET: back to the mode and the interrupt enable that the last trap saved. -/
def execMret (c : Nat) (d : Dev) : Dev :=
  if (core c d).user then illegal c d
  else
    jumpTo c (csrRaw c 0x341 d) (onCore c (fun y => { y with
      mie := y.mpie, mpie := true, user := y.mppUser, mppUser := true, mprv := y.mprv && !y.mppUser }) d)

/-- The effect of an instruction that core `c` has fetched. -/
def coreOp (c : Nat) (short : Bool) (op : CoreOp) (env : RegEnv) (s : State) : State :=
  let d := s.dev
  let pc := (core c d).pc
  let len := if short then 2 else 4
  match op with
  | .illegal => inDev (illegal c) s
  | .interrupt => s
  | .alu f word rdst rs src =>
    inDev (fun d => if aluLegal f word src then advance c short (setX c rdst (alu f word (xr c rs d) (srcVal c src d)) d)
      else illegal c d) s
  | .lui rdst imm => inDev (fun d => advance c short (setX c rdst (toField 64 imm) d)) s
  | .auipc rdst imm => inDev (fun d => advance c short (setX c rdst (addrOf pc imm) d)) s
  | .jal rdst off => inDev (fun d => jumpTo c (addrOf pc off) (setX c rdst (pc + len) d)) s
  | .jalr rdst rs off => inDev (fun d => jumpTo c (addrOf (xr c rs d) off / 2 * 2) (setX c rdst (pc + len) d)) s
  | .branch f r1 r2 off =>
    inDev (fun d => if branchTaken f (xr c r1 d) (xr c r2 d) then jumpTo c (addrOf pc off) d else advance c short d) s
  | .load size sext rdst rs off => execLoad c short size.bytes sext rdst (addrOf (xr c rs d) off) s
  | .store size r2 rs off => execStore env c short size.bytes (addrOf (xr c rs d) off) (xr c r2 d) s
  | .fence => inDev (advance c short) s
  | .csr k rdst num src =>
    inDev (fun d => match csrExec c k rdst num src d with | some e => advance c short e | none => illegal c d) s
  | .ecall => inDev (fun d => trap c (if (core c d).user then 8 else 11) 0 false d) s
  | .ebreak => inDev (fun d => let f := draw d; trap c 3 (if f.2 % 2 = 1 then pc else 0) false f.1) s
  | .mret => inDev (execMret c) s
  | .wfi => inDev (execWfi c short) s

/-- What an instruction does once its core runs: the fetch, its exception, or the instruction. -/
def onFetch (c : Nat) (short : Bool) (f : State → State) (s : State) : State :=
  if !coreLive c s.dev then s
  else
    let r := coreFetch c short (onCore c (fun y => { y with wfi := false }) s.dev)
    match r.2 with
    | some a => { s with dev := trap c 1 a false r.1 }
    | none => f { s with dev := r.1 }

/-- CORE_INSTRUCTION: core `c` executes an instruction of 4 bytes, or of 2 (`short`), or takes a pending interrupt. -/
def coreInstr (c : CoreId) (short : Bool) (op : CoreOp) (env : RegEnv) (s : State) : State :=
  if op = .interrupt then
    if coreLive c s.dev then inDev (fun d => takeInterrupt c (onCore c (fun y => { y with wfi := false }) d)) s else s
  else onFetch c short (coreOp c short op env) s

/-- CORE_INSTRUCTION. -/
def execCoreInstruction (c : CoreId) (short : Bool) (op : CoreOp) (env : RegEnv) (s : State) : Out :=
  onState (coreInstr c short op env) s

/-- The result of an atomic memory operation on `n` bytes. -/
def amoFn (op : AmoOp) {w : Nat} (a b : BitVec w) : BitVec w :=
  match op with
  | .swap => b
  | .add => a + b
  | .xor => a ^^^ b
  | .and => a &&& b
  | .or => a ||| b
  | .min => if a.slt b then a else b
  | .max => if a.slt b then b else a
  | .minu => if a.ult b then a else b
  | .maxu => if a.ult b then b else a

/-- The outcomes a memory access carries for registers do not arise in memory. -/
def noEnv : RegEnv := ⟨0, [], [], true, []⟩

/-- LR at address `a` of the core, memory address `b`: the value, and a reservation of the line. -/
def atomLr (c n : Nat) (rdst : Fin 32) (a b : Nat) (s : State) : State :=
  let r := coreLoad c a n s
  match r.2 with
  | none => inDev (trap c 5 a false) r.1
  | some x =>
    inDev (fun d => advance c false (setX c rdst (extend true n x) (onCore c (fun y => { y with resv := some (b / 128) }) d))) r.1

/-- SC: the store takes place while the reservation holds the line; the reservation ends. -/
def atomSc (c n : Nat) (rdst : Fin 32) (a b v : Nat) (s : State) : State :=
  let free := inDev (onCore c (fun y => { y with resv := none })) s
  if (core c s.dev).resv = some (b / 128) then
    inDev (fun d => advance c false (setX c rdst 0 d)) (coreStore noEnv c a n v free).1
  else inDev (fun d => advance c false (setX c rdst 1 d)) free

/-- AMO: the old value goes to `rdst`, the result to memory. -/
def atomAmo (f : AmoOp) (c n : Nat) (rdst : Fin 32) (a v : Nat) (s : State) : State :=
  let r := coreLoad c a n s
  match r.2 with
  | none => inDev (trap c 7 a false) r.1
  | some x =>
    let new := (amoFn f (BitVec.ofNat (8 * n) x) (BitVec.ofNat (8 * n) v)).toNat
    inDev (fun d => advance c false (setX c rdst (extend true n x) d)) (coreStore noEnv c a n new r.1).1

/-- The access an LR, SC or AMO makes, and the causes of its exceptions. -/
def atomKind : AtomOp → AccKind
  | .lr => .read
  | .sc => .write
  | .amo _ => .amo
def atomMisaligned (op : AtomOp) : Nat := if op = .lr then 4 else 6
def atomFault (op : AtomOp) : Nat := if op = .lr then 5 else 7

/-- LR, SC or AMO of core `c` on `n` = 4 or 8 bytes (R43): on core-local memory, buffer store and SDRAM; elsewhere an access
fault. The reservation granule is a line. -/
def atomOp (c : Nat) (op : AtomOp) (n : Nat) (rdst rs1 rs2 : Fin 32) (s : State) : State :=
  let a := xr c rs1 s.dev
  let v := xr c rs2 s.dev % 2 ^ (8 * n)
  if a % n ≠ 0 then inDev (trap c (atomMisaligned op) a false) s
  else if !pmpAllows c (dataUser c s.dev) (atomKind op) a n s.dev then inDev (trap c (atomFault op) a false) s
  else match coreMap c a n s.dev with
    | .mem b =>
      match op with
      | .lr => atomLr c n rdst a b s
      | .sc => atomSc c n rdst a b v s
      | .amo f => atomAmo f c n rdst a v s
    | _ => inDev (trap c (atomFault op) a false) s

/-- LR_SC_AMO: `dbl` for the 64-bit form. -/
def execLrScAmo (c : CoreId) (op : AtomOp) (dbl : Bool) (rdst rs1 rs2 : Fin 32) (s : State) : Out :=
  onState (onFetch c false (atomOp c op (if dbl then 8 else 4) rdst rs1 rs2)) s

/-- FENCE_I: core `c`'s I-cache forgets what it fetched (R44). -/
def fenceI (c : Nat) (d : Dev) : Dev := advance c false (onCore c (fun y => { y with icache := [] }) d)

/-- FENCE_I. -/
def execFenceI (c : CoreId) (s : State) : Out := onState (onFetch c false (inDev (fenceI c))) s

end Sys2Proof.Machine
end

