-- ==== Sys2Proof/Machine/Dispatch.lean ====
section
/-!
DEFINITION. Machine/Dispatch.lean: which meaning each command has, one arm per constructor of Instr.
-/
namespace Sys2Proof.Machine

def exec (i : Instr) (s : State) : Host.Outcome State Fault Refusal :=
  match i with
  | .powerUp lanes rng nor => Sys2Proof.Machine.execPowerUp lanes rng nor s
  | .coreRegulatorStart => Sys2Proof.Machine.execCoreRegulatorStart s
  | .vddqEnable => Sys2Proof.Machine.execVddqEnable s
  | .vddCoreFall => Sys2Proof.Machine.execVddCoreFall s
  | .brownOut nor => Sys2Proof.Machine.execBrownOut nor s
  | .railOutOfRange r mv uv => Sys2Proof.Machine.execRailOutOfRange r mv uv s
  | .regPhaseFault p => Sys2Proof.Machine.execRegPhaseFault p s
  | .bootRomRun b => Sys2Proof.Machine.execBootRomRun b s
  | .coreInstruction c short op env => Sys2Proof.Machine.execCoreInstruction c short op env s
  | .lrScAmo c op dbl rdst rs1 rs2 => Sys2Proof.Machine.execLrScAmo c op dbl rdst rs1 rs2 s
  | .fenceI c => Sys2Proof.Machine.execFenceI c s
  | .machineTimerInterrupt c => Sys2Proof.Machine.execMachineTimerInterrupt c s
  | .registerWrite who off size v env => Sys2Proof.Machine.execRegisterWrite who off size v env s
  | .rcRead who off size hdr => Sys2Proof.Machine.execRcRead who off size hdr s
  | .pgEvenWrite page v => Sys2Proof.Machine.execPgEvenWrite page v s
  | .pgEvstatClear page v again => Sys2Proof.Machine.execPgEvstatClear page v again s
  | .evtSwset v => Sys2Proof.Machine.execEvtSwset v s
  | .evtClaim c => Sys2Proof.Machine.execEvtClaim c s
  | .evtRouteWrite n v => Sys2Proof.Machine.execEvtRouteWrite n v s
  | .pgErrwinWrite page v => Sys2Proof.Machine.execPgErrwinWrite page v s
  | .lastingClear page => Sys2Proof.Machine.execLastingClear page s
  | .errorWindowExpiry page => Sys2Proof.Machine.execErrorWindowExpiry page s
  | .pageLock page => Sys2Proof.Machine.execPageLock page s
  | .coreRelease v => Sys2Proof.Machine.execCoreRelease v s
  | .watchdogKick c v => Sys2Proof.Machine.execWatchdogKick c v s
  | .watchdogExpiry c => Sys2Proof.Machine.execWatchdogExpiry c s
  | .rollbackBurn target => Sys2Proof.Machine.execRollbackBurn target s
  | .rollbackBurnComplete => Sys2Proof.Machine.execRollbackBurnComplete s
  | .key0Revoke => Sys2Proof.Machine.execKey0Revoke s
  | .flitReceive l c no crcOk => Sys2Proof.Machine.execFlitReceive l c no crcOk s
  | .linkTrainingTimeout l => Sys2Proof.Machine.execLinkTrainingTimeout l s
  | .linkRetrainRetry l => Sys2Proof.Machine.execLinkRetrainRetry l s
  | .linkDown l => Sys2Proof.Machine.execLinkDown l s
  | .linkUp l lanes => Sys2Proof.Machine.execLinkUp l lanes s
  | .secondCopyRebuild keep to' => Sys2Proof.Machine.execSecondCopyRebuild keep to' s
  | .vcmCurrentCommand n => Sys2Proof.Machine.execVcmCurrentCommand n s
  | .missedCurrentCommands n => Sys2Proof.Machine.execMissedCurrentCommands n s
  | .currentSample n i1 slew => Sys2Proof.Machine.execCurrentSample n i1 slew s
  | .reactionBusSample src dst => Sys2Proof.Machine.execReactionBusSample src dst s
  | .speedStepNotice dest => Sys2Proof.Machine.execSpeedStepNotice dest s
  | .wedgeBoundary n w => Sys2Proof.Machine.execWedgeBoundary n w s
  | .synthUnlock n => Sys2Proof.Machine.execSynthUnlock n s
  | .synthRelock n => Sys2Proof.Machine.execSynthRelock n s
  | .revolutionIndex n pt => Sys2Proof.Machine.execRevolutionIndex n pt s
  | .bandTableLoadRequest n => Sys2Proof.Machine.execBandTableLoadRequest n s
  | .l0Sample n q io => Sys2Proof.Machine.execL0Sample n q io s
  | .ffSourceDrop n src => Sys2Proof.Machine.execFfSourceDrop n src s
  | .ffSourceRestore n src => Sys2Proof.Machine.execFfSourceRestore n src s
  | .sectorBoundary n => Sys2Proof.Machine.execSectorBoundary n s
  | .sectorRead n io => Sys2Proof.Machine.execSectorRead n io s
  | .sectorDecodeDone n x => Sys2Proof.Machine.execSectorDecodeDone n x s
  | .ladderAttemptDone n x => Sys2Proof.Machine.execLadderAttemptDone n x s
  | .selftestDone n ch pass => Sys2Proof.Machine.execSelftestDone n ch pass s
  | .setSelect n ch v => Sys2Proof.Machine.execSetSelect n ch v s
  | .setDataAccess n ch w => Sys2Proof.Machine.execSetDataAccess n ch w s
  | .setCommit n ch => Sys2Proof.Machine.execSetCommit n ch s
  | .setCopy n => Sys2Proof.Machine.execSetCopy n s
  | .setCopyDone n => Sys2Proof.Machine.execSetCopyDone n s
  | .handDispatch n mc => Sys2Proof.Machine.execHandDispatch n mc s
  | .writeBurstStart n => Sys2Proof.Machine.execWriteBurstStart n s
  | .preampFrame n => Sys2Proof.Machine.execPreampFrame n s
  | .preampFrameResponse n x => Sys2Proof.Machine.execPreampFrameResponse n x s
  | .rawFrameQueue n => Sys2Proof.Machine.execRawFrameQueue n s
  | .preampIdleTimeout n => Sys2Proof.Machine.execPreampIdleTimeout n s
  | .writeInhibitFirmware n v => Sys2Proof.Machine.execWriteInhibitFirmware n v s
  | .assistDutyTrip n => Sys2Proof.Machine.execAssistDutyTrip n s
  | .assistOntimeTrip n => Sys2Proof.Machine.execAssistOntimeTrip n s
  | .rawResult n x => Sys2Proof.Machine.execRawResult n x s
  | .deferredVerifyRead n xs => Sys2Proof.Machine.execDeferredVerifyRead n xs s
  | .fltNAssert n status => Sys2Proof.Machine.execFltNAssert n status s
  | .fltNRelease n => Sys2Proof.Machine.execFltNRelease n s
  | .fltNPersist n => Sys2Proof.Machine.execFltNPersist n s
  | .armDiePowerUp n caps => Sys2Proof.Machine.execArmDiePowerUp n caps s
  | .seekOwnershipRequest n v => Sys2Proof.Machine.execSeekOwnershipRequest n v s
  | .seekInterfaceHandover n => Sys2Proof.Machine.execSeekInterfaceHandover n s
  | .seekOrder n v => Sys2Proof.Machine.execSeekOrder n v s
  | .headLoadTimeout n => Sys2Proof.Machine.execHeadLoadTimeout n s
  | .armSettled n => Sys2Proof.Machine.execArmSettled n s
  | .settleTimeout n => Sys2Proof.Machine.execSettleTimeout n s
  | .tableSelect n v => Sys2Proof.Machine.execTableSelect n v s
  | .tableDataAccess n w => Sys2Proof.Machine.execTableDataAccess n w s
  | .tableCommit n v => Sys2Proof.Machine.execTableCommit n v s
  | .currentLoopFault n => Sys2Proof.Machine.execCurrentLoopFault n s
  | .followingErrorInhibit n => Sys2Proof.Machine.execFollowingErrorInhibit n s
  | .frozenFeedbackRetract n => Sys2Proof.Machine.execFrozenFeedbackRetract n s
  | .holdEntry n => Sys2Proof.Machine.execHoldEntry n s
  | .holdExit n => Sys2Proof.Machine.execHoldExit n s
  | .feedbackLossRetract n => Sys2Proof.Machine.execFeedbackLossRetract n s
  | .captureStart n v => Sys2Proof.Machine.execCaptureStart n v s
  | .captureDone n => Sys2Proof.Machine.execCaptureDone n s
  | .spindleStart v hall => Sys2Proof.Machine.execSpindleStart v hall s
  | .spindleStop v => Sys2Proof.Machine.execSpindleStop v s
  | .hallEdge h => Sys2Proof.Machine.execHallEdge h s
  | .atspeedReached => Sys2Proof.Machine.execAtspeedReached s
  | .spinStartTimeout => Sys2Proof.Machine.execSpinStartTimeout s
  | .lossOfSync ang acc flux => Sys2Proof.Machine.execLossOfSync ang acc flux s
  | .focReacquire => Sys2Proof.Machine.execFocReacquire s
  | .dealerGovernorTick => Sys2Proof.Machine.execDealerGovernorTick s
  | .paceGovernorDecision => Sys2Proof.Machine.execPaceGovernorDecision s
  | .rampEnd => Sys2Proof.Machine.execRampEnd s
  | .steplimWrite v => Sys2Proof.Machine.execSteplimWrite v s
  | .chopperOn v => Sys2Proof.Machine.execChopperOn v s
  | .chopperOff v => Sys2Proof.Machine.execChopperOff v s
  | .chopperFault => Sys2Proof.Machine.execChopperFault s
  | .lowSideShort v => Sys2Proof.Machine.execLowSideShort v s
  | .lowSideShortRelease v => Sys2Proof.Machine.execLowSideShortRelease v s
  | .outputDisconnect v => Sys2Proof.Machine.execOutputDisconnect v s
  | .outputReconnect v => Sys2Proof.Machine.execOutputReconnect v s
  | .powerLossDetect v12 v5 => Sys2Proof.Machine.execPowerLossDetect v12 v5 s
  | .spindleBelowVaultSpeed => Sys2Proof.Machine.execSpindleBelowVaultSpeed s
  | .vaultFlushComplete => Sys2Proof.Machine.execVaultFlushComplete s
  | .supplyReturn => Sys2Proof.Machine.execSupplyReturn s
  | .retractOrder n => Sys2Proof.Machine.execRetractOrder n s
  | .retractPhaseEnd n => Sys2Proof.Machine.execRetractPhaseEnd n s
  | .retractComplete n => Sys2Proof.Machine.execRetractComplete n s
  | .vcmTrip n => Sys2Proof.Machine.execVcmTrip n s
  | .openCoil n => Sys2Proof.Machine.execOpenCoil n s
  | .chargePumpFault => Sys2Proof.Machine.execChargePumpFault s
  | .maOvercurrent n => Sys2Proof.Machine.execMaOvercurrent n s
  | .calIntervalTrigger n => Sys2Proof.Machine.execCalIntervalTrigger n s
  | .calOrder n v => Sys2Proof.Machine.execCalOrder n v s
  | .calRunStart n => Sys2Proof.Machine.execCalRunStart n s
  | .chAdaptEnd n sets => Sys2Proof.Machine.execChAdaptEnd n sets s
  | .srvCalFit n rcoil lcoil => Sys2Proof.Machine.execSrvCalFit n rcoil lcoil s
  | .srvCalTimeout n => Sys2Proof.Machine.execSrvCalTimeout n s
  | .refClockMeasure => Sys2Proof.Machine.execRefClockMeasure s
  | .refVoltageMeasure => Sys2Proof.Machine.execRefVoltageMeasure s
  | .refMeasureDone r => Sys2Proof.Machine.execRefMeasureDone r s
  | .calResultSelect n v => Sys2Proof.Machine.execCalResultSelect n v s
  | .calResultRead n => Sys2Proof.Machine.execCalResultRead n s
  | .zoneTableLoad => Sys2Proof.Machine.execZoneTableLoad s
  | .zoneReset zi => Sys2Proof.Machine.execZoneReset zi s
  | .zoneFinish zi => Sys2Proof.Machine.execZoneFinish zi s
  | .zoneOpen zi => Sys2Proof.Machine.execZoneOpen zi s
  | .zoneClose zi => Sys2Proof.Machine.execZoneClose zi s
  | .zoneFinishByDevice zi => Sys2Proof.Machine.execZoneFinishByDevice zi s
  | .relocationOrder v => Sys2Proof.Machine.execRelocationOrder v s
  | .relocationStart => Sys2Proof.Machine.execRelocationStart s
  | .relocationCommit => Sys2Proof.Machine.execRelocationCommit s
  | .zoneReconstruct n => Sys2Proof.Machine.execZoneReconstruct n s
  | .zoneReconstructDone n read => Sys2Proof.Machine.execZoneReconstructDone n read s
  | .mediaCacheEntryComplete => Sys2Proof.Machine.execMediaCacheEntryComplete s
  | .scanStart n v => Sys2Proof.Machine.execScanStart n v s
  | .scanEnd n => Sys2Proof.Machine.execScanEnd n s
  | .dlUp width rev => Sys2Proof.Machine.execDlUp width rev s
  | .dlDown => Sys2Proof.Machine.execDlDown s
  | .hotReset => Sys2Proof.Machine.execHotReset s
  | .linkRetrain speed width => Sys2Proof.Machine.execLinkRetrain speed width s
  | .aspmL1Entry => Sys2Proof.Machine.execAspmL1Entry s
  | .ltrSend v => Sys2Proof.Machine.execLtrSend v s
  | .configRequest off w => Sys2Proof.Machine.execConfigRequest off w s
  | .hostBar0Request off n data env => Sys2Proof.Machine.execHostBar0Request off n data env s
  | .doorbellWrite k v => Sys2Proof.Machine.execDoorbellWrite k v s
  | .ccEnable v => Sys2Proof.Machine.execCcEnable v s
  | .ccDisable => Sys2Proof.Machine.execCcDisable s
  | .ccShutdown abrupt => Sys2Proof.Machine.execCcShutdown abrupt s
  | .shutdownComplete => Sys2Proof.Machine.execShutdownComplete s
  | .windowRequest r => Sys2Proof.Machine.execWindowRequest r s
  | .windowCommit => Sys2Proof.Machine.execWindowCommit s
  | .windowCommitInstall => Sys2Proof.Machine.execWindowCommitInstall s
  | .hostAccessLock => Sys2Proof.Machine.execHostAccessLock s
  | .completionReceived tag status ep bytes hdr => Sys2Proof.Machine.execCompletionReceived tag status ep bytes hdr s
  | .completionTimeout tag => Sys2Proof.Machine.execCompletionTimeout tag s
  | .receivedTlpError e hdr => Sys2Proof.Machine.execReceivedTlpError e hdr s
  | .submissionFetch => Sys2Proof.Machine.execSubmissionFetch s
  | .nvmRead i1 => Sys2Proof.Machine.execNvmRead i1 s
  | .nvmWrite i1 => Sys2Proof.Machine.execNvmWrite i1 s
  | .writeZeroes i1 => Sys2Proof.Machine.execWriteZeroes i1 s
  | .zoneAppend i1 => Sys2Proof.Machine.execZoneAppend i1 s
  | .flush i1 => Sys2Proof.Machine.execFlush i1 s
  | .abort i1 => Sys2Proof.Machine.execAbort i1 s
  | .firmwarePathCommand i1 => Sys2Proof.Machine.execFirmwarePathCommand i1 s
  | .setFeaturesTimestamp i1 data => Sys2Proof.Machine.execSetFeaturesTimestamp i1 data s
  | .getLogPageC8 i1 spans => Sys2Proof.Machine.execGetLogPageC8 i1 spans s
  | .firmwareCompletion v => Sys2Proof.Machine.execFirmwareCompletion v s
  | .firmwareReady => Sys2Proof.Machine.execFirmwareReady s
  | .tokenBucketTick => Sys2Proof.Machine.execTokenBucketTick s
  | .budgetCheckPass places => Sys2Proof.Machine.execBudgetCheckPass places s
  | .writeAccept i1 => Sys2Proof.Machine.execWriteAccept i1 s
  | .billingTick => Sys2Proof.Machine.execBillingTick s
  | .billingLatch => Sys2Proof.Machine.execBillingLatch s
  | .bankWriteDone => Sys2Proof.Machine.execBankWriteDone s
  | .bankAck v => Sys2Proof.Machine.execBankAck v s
  | .namespaceBind v => Sys2Proof.Machine.execNamespaceBind v s
  | .cacheReconfigure v => Sys2Proof.Machine.execCacheReconfigure v s
  | .wayLock v => Sys2Proof.Machine.execWayLock v s
  | .czero v => Sys2Proof.Machine.execCzero v s
  | .rangeInvalidate => Sys2Proof.Machine.execRangeInvalidate s
  | .rangeClean => Sys2Proof.Machine.execRangeClean s
  | .rangeCleaninv => Sys2Proof.Machine.execRangeCleaninv s
  | .rangeZero => Sys2Proof.Machine.execRangeZero s
  | .lockfill way => Sys2Proof.Machine.execLockfill way s
  | .lockzero way => Sys2Proof.Machine.execLockzero way s
  | .rangeOpDone => Sys2Proof.Machine.execRangeOpDone s
  | .victimOffer k repl => Sys2Proof.Machine.execVictimOffer k repl s
  | .victimAccepted k => Sys2Proof.Machine.execVictimAccepted k s
  | .bufCfgWrite mirror b v => Sys2Proof.Machine.execBufCfgWrite mirror b v s
  | .scrubRead p flips => Sys2Proof.Machine.execScrubRead p flips s
  | .scrubPassEnd sdram => Sys2Proof.Machine.execScrubPassEnd sdram s
  | .copyRestore a => Sys2Proof.Machine.execCopyRestore a s
  | .testRawWrite => Sys2Proof.Machine.execTestRawWrite s
  | .testRawRead => Sys2Proof.Machine.execTestRawRead s
  | .sdramFill len => Sys2Proof.Machine.execSdramFill len s
  | .sdramFillDone => Sys2Proof.Machine.execSdramFillDone s
  | .refreshRateChange channel doubled => Sys2Proof.Machine.execRefreshRateChange channel doubled s
  | .selfRefreshEntry => Sys2Proof.Machine.execSelfRefreshEntry s
  | .sealedUnitDecrypted i1 => Sys2Proof.Machine.execSealedUnitDecrypted i1 s
  | .kmuLoadwrap who v => Sys2Proof.Machine.execKmuLoadwrap who v s
  | .kmuLoadverom who v => Sys2Proof.Machine.execKmuLoadverom who v s
  | .kmuGenerate who v => Sys2Proof.Machine.execKmuGenerate who v s
  | .kmuClear who v => Sys2Proof.Machine.execKmuClear who v s
  | .kmuRevoke who v => Sys2Proof.Machine.execKmuRevoke who v s
  | .kmuOpComplete drawn => Sys2Proof.Machine.execKmuOpComplete drawn s
  | .kmuLockAcquire who v => Sys2Proof.Machine.execKmuLockAcquire who v s
  | .kmuLockRelease who => Sys2Proof.Machine.execKmuLockRelease who s
  | .kmuLockExpiry => Sys2Proof.Machine.execKmuLockExpiry s
  | .entropySample ok => Sys2Proof.Machine.execEntropySample ok s
  | .drbgReseed => Sys2Proof.Machine.execDrbgReseed s
  | .drbgReseedDue => Sys2Proof.Machine.execDrbgReseedDue s
  | .drbgReinit pass => Sys2Proof.Machine.execDrbgReinit pass s
  | .logScan => Sys2Proof.Machine.execLogScan s
  | .logScanDone => Sys2Proof.Machine.execLogScanDone s
  | .logAppend => Sys2Proof.Machine.execLogAppend s
  | .norOperationDone ok => Sys2Proof.Machine.execNorOperationDone ok s
  | .counterEntryTick => Sys2Proof.Machine.execCounterEntryTick s
  | .compatModeFix => Sys2Proof.Machine.execCompatModeFix s
  | .logRead v => Sys2Proof.Machine.execLogRead v s
  | .logOpsecRead => Sys2Proof.Machine.execLogOpsecRead s
  | .firmwareLogAppend v => Sys2Proof.Machine.execFirmwareLogAppend v s
  | .norAccessRefused a n prog => Sys2Proof.Machine.execNorAccessRefused a n prog s
  | .thermalConversion ns => Sys2Proof.Machine.execThermalConversion ns s
  | .throttleStepRelease which => Sys2Proof.Machine.execThrottleStepRelease which s
  | .sensorExclude n => Sys2Proof.Machine.execSensorExclude n s
  | .holdRelease => Sys2Proof.Machine.execHoldRelease s
  | .holdReleaseFirmware => Sys2Proof.Machine.execHoldReleaseFirmware s
  | .shutdownLatch => Sys2Proof.Machine.execShutdownLatch s
  | .powerStateOrder v hall => Sys2Proof.Machine.execPowerStateOrder v hall s
  | .bufferSaveDone => Sys2Proof.Machine.execBufferSaveDone s
  | .bufferRestoreDone => Sys2Proof.Machine.execBufferRestoreDone s
  | .powerStateReached hall => Sys2Proof.Machine.execPowerStateReached hall s
  | .ps4Wake => Sys2Proof.Machine.execPs4Wake s
  | .perstAssert => Sys2Proof.Machine.execPerstAssert s
  | .quiesceTimeout => Sys2Proof.Machine.execQuiesceTimeout s
  | .internalReset lanes => Sys2Proof.Machine.execInternalReset lanes s
  | .vaultFlushStart => Sys2Proof.Machine.execVaultFlushStart s
  | .vaultEndMark a => Sys2Proof.Machine.execVaultEndMark a s
  | .vaultReplay bad places => Sys2Proof.Machine.execVaultReplay bad places s
  | .replayDone => Sys2Proof.Machine.execReplayDone s
  | .vaultRelease => Sys2Proof.Machine.execVaultRelease s
  | .vaultZonesReset => Sys2Proof.Machine.execVaultZonesReset s
  | .journalTailWrite v => Sys2Proof.Machine.execJournalTailWrite v s
  | .testUnlockKey who v => Sys2Proof.Machine.execTestUnlockKey who v s
  | .testUnlockWindowExpiry => Sys2Proof.Machine.execTestUnlockWindowExpiry s
  | .testRelock => Sys2Proof.Machine.execTestRelock s
  | .testFuseBurn => Sys2Proof.Machine.execTestFuseBurn s
  | .servoJitterSet v => Sys2Proof.Machine.execServoJitterSet v s
  | .dmaBackpressurePeriod hold => Sys2Proof.Machine.execDmaBackpressurePeriod hold s
  | .completionDelayExpiry => Sys2Proof.Machine.execCompletionDelayExpiry s
  | .jtagTapReset => Sys2Proof.Machine.execJtagTapReset s
  | .jtagIdcode => Sys2Proof.Machine.execJtagIdcode s
  | .jtagSamplePreload balls preload => Sys2Proof.Machine.execJtagSamplePreload balls preload s
  | .jtagExtest => Sys2Proof.Machine.execJtagExtest s
  | .jtagClamp => Sys2Proof.Machine.execJtagClamp s
  | .jtagHighz => Sys2Proof.Machine.execJtagHighz s
  | .jtagThmstat => Sys2Proof.Machine.execJtagThmstat s
  | .jtagBypass code => Sys2Proof.Machine.execJtagBypass code s
  | .activityStretchExpiry => Sys2Proof.Machine.execActivityStretchExpiry s
  | .spindleStandstill => Sys2Proof.Machine.execSpindleStandstill s
  | .readDeadlineExpiry n => Sys2Proof.Machine.execReadDeadlineExpiry n s
  | .perstDeassert => Sys2Proof.Machine.execPerstDeassert s

end Sys2Proof.Machine
end

