-- ==== Sys2Proof/Machine/Tick.lean ====
section
/-!
DEFINITION. Machine/Tick.lean: what happens in one CLK_AUX cycle in which no command is carried out: the common time count
(R46), the oldest posted write (R226), and the times that the dealer keeps (R240, R256, R259, R262).
-/
namespace Sys2Proof.Machine

/-- Media busy time of arm `n` accrues: for the governor, for the arm, and for the tenant of the operation in progress
(R255, R256, R262); and the time of a scan (R214). -/
def busyTick (n : Nat) (d : Dev) : Dev :=
  match (hand n d).find? (fun w => goesOn n w d) with
  | none => d
  | some w =>
    let d := onDeal (fun y => { y with busyAcc := Store.put 0 n (Store.get 0 n y.busyAcc + 1) y.busyAcc }) d
    let d := countArm n (fun x => { x with busy := x.busy + 1 }) d
    let d := if w.kind = .scanRead then
        { d with zon := { d.zon with scanUse := Store.put (0, 0) n (d.time / auxPerS, scanUsed n d + 1) d.zon.scanUse } }
      else d
    if w.trump = 0 ∧ nsValid w.ns = true ∧ (page pgTen d).freeze = false then
      onNsStat w.ns (fun x => { x with busy := x.busy + 1 }) d
    else d

/-- Trump work runs in a hand that holds work of command `i`, or a throttle step is in force (R259). -/
def trumpHolds (i : Nat) (d : Dev) : Bool :=
  isSet THM_STAT_STEP d || (List.range 4).any (fun n =>
    (hand n d).any (fun w => w.ctx == some i) && (hand n d).any (fun w => w.started && w.trump != 0))

/-- The trump-caused time of the admitted commands accrues (R259). -/
def trumpTick (d : Dev) : Dev :=
  onDeal (fun y => { y with ctxs := y.ctxs.map (fun p => (p.1, p.2.map (fun x =>
    if x.stage = .fetched ∨ x.stage = .tokens ∨ trumpHolds p.1 d = false then x else { x with trump := x.trump + 1 }))) }) d

/-- One CLK_AUX cycle. -/
def tick (d : Dev) : Dev :=
  let d := messagesDue (trumpTick (each 4 busyTick { d with time := d.time + 1 }))
  let d := if d.host.out.isEmpty then { d with host := { d.host with headAt := d.time } } else d
  if postedHeld d || cqeDelayed d then d else sendOne d

end Sys2Proof.Machine
end

