-- ==== Sys2Proof/WellFormed.lean ====
section
/-!
DEFINITION. WellFormed.lean: which commands can be sent: every operand lies in what the wire, the register or the line that
carries it can hold. A meaning does not depend on it.
-/
namespace Sys2Proof

/-- A 32-bit register word (R30). -/
def word (v : Nat) : Bool := decide (v < 2 ^ 32)

/-- A byte. -/
def byte (v : Nat) : Bool := decide (v < 256)

/-- Link widths that PCI Express names for this endpoint (R218). -/
def widthCode (w : Nat) : Bool := [0, 1, 2, 4].contains w

/-- The outcomes that accompany a register write. -/
def RegEnv.wf (e : RegEnv) : Bool := decide (e.hall < 8) && e.hdr.all word

/-- A BAR2 request: the bytes written are as many as the request names. -/
def WinReq.wf (r : WinReq) : Bool :=
  decide (r.len ≤ 4096) && r.data.all (fun bs => bs.length == r.len && bs.all byte) && r.hdr.all word

/-- A header is 512 bytes; a payload is whole bytes, a multiple of 128 of them, at most 32 MiB (R50). -/
def SlotImage.wf (x : SlotImage) : Bool :=
  x.header.length == 512 && x.header.all byte
    && x.payload.length % 128 == 0 && decide (x.payload.length ≤ 0x2000000) && x.payload.all byte

/-- LP5X as R297 supports it: 1 to 8 GiB and one or two ranks per channel, 3,200 to 8,533 MT/s; directory copies of 64 bytes
(R49). -/
def BootInput.wf (b : BootInput) : Bool :=
  decide (1 ≤ b.chgib) && decide (b.chgib ≤ 8) && decide (1 ≤ b.ranks) && decide (b.ranks ≤ 2)
    && decide (3200 ≤ b.mts) && decide (b.mts ≤ 8533) && (b.ilv == 0 || (decide (12 ≤ b.ilv) && decide (b.ilv ≤ 20)))
    && b.dir0.length == 64 && b.dir0.all byte && b.dir1.length == 64 && b.dir1.all byte && b.mcr.all byte
    && b.slotA.wf && b.slotB.wf

/-- An immediate of `w` bits, signed. -/
def immFits (w : Nat) (v : Int) : Bool := decide (-(2 ^ (w - 1) : Int) ≤ v) && decide (v < 2 ^ (w - 1))

/-- A decoded instruction has an encoding: its immediates fit, jump targets are even, and instructions without a compressed
form are not short. -/
def CoreOp.wf (short : Bool) : CoreOp → Bool
  | .illegal => true
  | .alu _ _ _ _ src => match src with | .reg _ => true | .imm v => immFits 12 v
  | .lui _ imm => immFits 32 imm && imm % 4096 == 0
  | .auipc _ imm => immFits 32 imm && imm % 4096 == 0 && !short
  | .jal _ off => immFits 21 off && off % 2 == 0
  | .jalr _ _ off => immFits 12 off
  | .branch _ _ _ off => immFits 13 off && off % 2 == 0
  | .load _ _ _ _ off => immFits 12 off
  | .store _ _ _ off => immFits 12 off
  | .fence => !short
  | .csr _ _ num src => !short && decide (num < 0x1000) && (match src with | .reg _ => true | .imm v => decide (0 ≤ v) && decide (v < 32))
  | .ecall => !short
  | .ebreak => true
  | .mret => !short
  | .wfi => !short
  | .interrupt => true

/-- Samples of one sector of one reader: 7-bit codes, from 128 bits before its first bit to its last (R72, R73). -/
def samplesFit (xs : List Int) : Bool := xs.length == 37280 && xs.all (fun x => decide (-64 ≤ x) && decide (x < 64))
def SectorIn.wf (x : SectorIn) : Bool := samplesFit x.l && samplesFit x.t

/-- Hard decisions are those of the 36,960 bits of a codeword. -/
def flipsFit (xs : List Nat) : Bool := xs.all (fun b => decide (b < 36960))

/-- The samples of a ladder attempt and of rung 9's further revolutions. -/
def AttemptIn.wf (x : AttemptIn) : Bool := x.io.wf && x.more.all (fun p => samplesFit p.1 && samplesFit p.2) && flipsFit x.flips
def RawIn.wf (x : RawIn) : Bool := x.io.wf && flipsFit x.flips

/-- The fields of a response frame (R114) are bytes. -/
def FrameRsp.wf (x : FrameRsp) : Bool := decide (x.data < 2 ^ 16) && byte x.status && byte x.crc

/-- The command can be sent. -/
def Instr.wf : Instr → Bool
  | .powerUp _ _ _ => true
  | .coreRegulatorStart => true
  | .vddqEnable => true
  | .vddCoreFall => true
  | .brownOut _ => true
  | .railOutOfRange _ _ _ => true
  | .regPhaseFault _ => true
  | .bootRomRun b => b.wf
  | .coreInstruction _ short op env => op.wf short && env.wf
  | .lrScAmo _ _ _ _ _ _ => true
  | .fenceI _ => true
  | .machineTimerInterrupt _ => true
  | .registerWrite _ off size v env => decide (off < 0x1000000) && decide (v < 256 ^ size.bytes) && env.wf
  | .rcRead _ off _ hdr => decide (off < 0x1000000) && hdr.all word
  | .pgEvenWrite _ v => word v
  | .pgEvstatClear _ v again => word v && word again
  | .evtSwset v => word v
  | .evtClaim _ => true
  | .evtRouteWrite _ v => word v
  | .pgErrwinWrite _ v => word v
  | .lastingClear _ => true
  | .errorWindowExpiry _ => true
  | .pageLock _ => true
  | .coreRelease v => word v
  | .watchdogKick _ v => word v
  | .watchdogExpiry _ => true
  | .rollbackBurn _ => true
  | .rollbackBurnComplete => true
  | .key0Revoke => true
  | .flitReceive _ _ _ _ => true
  | .linkTrainingTimeout _ => true
  | .linkRetrainRetry _ => true
  | .linkDown _ => true
  | .linkUp _ _ => true
  | .secondCopyRebuild _ _ => true
  | .vcmCurrentCommand _ => true
  | .missedCurrentCommands _ => true
  | .currentSample _ _ _ => true
  | .reactionBusSample _ _ => true
  | .speedStepNotice _ => true
  | .wedgeBoundary _ _ => true
  | .synthUnlock _ => true
  | .synthRelock _ => true
  | .revolutionIndex _ _ => true
  | .bandTableLoadRequest _ => true
  | .l0Sample _ _ _ => true
  | .ffSourceDrop _ _ => true
  | .ffSourceRestore _ _ => true
  | .sectorBoundary _ => true
  | .sectorRead _ io => io.wf
  | .sectorDecodeDone _ x => flipsFit x.flips
  | .ladderAttemptDone _ xs => xs.all AttemptIn.wf
  | .selftestDone _ _ _ => true
  | .setSelect _ _ v => word v
  | .setDataAccess _ _ w => w.all word
  | .setCommit _ _ => true
  | .setCopy _ => true
  | .setCopyDone _ => true
  | .handDispatch _ _ => true
  | .writeBurstStart _ => true
  | .preampFrame _ => true
  | .preampFrameResponse _ x => x.all FrameRsp.wf
  | .rawFrameQueue _ => true
  | .preampIdleTimeout _ => true
  | .writeInhibitFirmware _ v => word v
  | .assistDutyTrip _ => true
  | .assistOntimeTrip _ => true
  | .rawResult _ x => x.wf
  | .deferredVerifyRead _ xs => xs.all RawIn.wf
  | .fltNAssert _ status => decide (status < 2 ^ 16)
  | .fltNRelease _ => true
  | .fltNPersist _ => true
  | .armDiePowerUp _ _ => true
  | .seekOwnershipRequest _ v => word v
  | .seekInterfaceHandover _ => true
  | .seekOrder _ v => word v
  | .headLoadTimeout _ => true
  | .armSettled _ => true
  | .settleTimeout _ => true
  | .tableSelect _ v => word v
  | .tableDataAccess _ w => w.all word
  | .tableCommit _ v => word v
  | .currentLoopFault _ => true
  | .followingErrorInhibit _ => true
  | .frozenFeedbackRetract _ => true
  | .holdEntry _ => true
  | .holdExit _ => true
  | .feedbackLossRetract _ => true
  | .captureStart _ v => word v
  | .captureDone _ => true
  | .spindleStart v hall => word v && decide (hall < 8)
  | .spindleStop v => word v
  | .hallEdge _ => true
  | .atspeedReached => true
  | .spinStartTimeout => true
  | .lossOfSync _ _ _ => true
  | .focReacquire => true
  | .dealerGovernorTick => true
  | .paceGovernorDecision => true
  | .rampEnd => true
  | .steplimWrite v => word v
  | .chopperOn v => word v
  | .chopperOff v => word v
  | .chopperFault => true
  | .lowSideShort v => word v
  | .lowSideShortRelease v => word v
  | .outputDisconnect v => word v
  | .outputReconnect v => word v
  | .powerLossDetect _ _ => true
  | .spindleBelowVaultSpeed => true
  | .vaultFlushComplete => true
  | .supplyReturn => true
  | .retractOrder _ => true
  | .retractPhaseEnd _ => true
  | .retractComplete _ => true
  | .vcmTrip _ => true
  | .openCoil _ => true
  | .chargePumpFault => true
  | .maOvercurrent _ => true
  | .calIntervalTrigger _ => true
  | .calOrder _ v => word v
  | .calRunStart _ => true
  | .chAdaptEnd _ _ => true
  | .srvCalFit _ _ _ => true
  | .srvCalTimeout _ => true
  | .refClockMeasure => true
  | .refVoltageMeasure => true
  | .refMeasureDone _ => true
  | .calResultSelect _ v => word v
  | .calResultRead _ => true
  | .zoneTableLoad => true
  | .zoneReset zi => decide (zi < 0x80000)
  | .zoneFinish zi => decide (zi < 0x80000)
  | .zoneOpen zi => decide (zi < 0x80000)
  | .zoneClose zi => decide (zi < 0x80000)
  | .zoneFinishByDevice zi => decide (zi < 0x80000)
  | .relocationOrder v => word v
  | .relocationStart => true
  | .relocationCommit => true
  | .zoneReconstruct _ => true
  | .zoneReconstructDone _ read => read.all (fun r => r.bytes.length == 4112 && r.bytes.all byte)
  | .mediaCacheEntryComplete => true
  | .scanStart _ v => word v
  | .scanEnd _ => true
  | .dlUp width _ => widthCode width
  | .dlDown => true
  | .hotReset => true
  | .linkRetrain speed width => decide (speed < 8) && widthCode width
  | .aspmL1Entry => true
  | .ltrSend v => word v
  | .configRequest off w => decide (off < 0x1000) && w.all (fun p => word p.1)
  | .hostBar0Request off n data env => decide (off < 0x1000000) && data.all (fun v => decide (v < 256 ^ n)) && env.wf
  | .doorbellWrite _ v => word v
  | .ccEnable v => word v
  | .ccDisable => true
  | .ccShutdown _ => true
  | .shutdownComplete => true
  | .windowRequest r => r.wf
  | .windowCommit => true
  | .windowCommitInstall => true
  | .hostAccessLock => true
  | .completionReceived tag _ _ bytes hdr => decide (tag < 256) && bytes.all byte && hdr.all word
  | .completionTimeout tag => decide (tag < 256)
  | .receivedTlpError _ hdr => hdr.all word
  | .submissionFetch => true
  | .nvmRead i => decide (i < 16384)
  | .nvmWrite i => decide (i < 16384)
  | .writeZeroes i => decide (i < 16384)
  | .zoneAppend i => decide (i < 16384)
  | .flush i => decide (i < 16384)
  | .abort i => decide (i < 16384)
  | .firmwarePathCommand i => decide (i < 16384)
  | .setFeaturesTimestamp i data => decide (i < 16384) && data.all byte
  | .getLogPageC8 i _ => decide (i < 16384)
  | .firmwareCompletion v => word v
  | .firmwareReady => true
  | .tokenBucketTick => true
  | .budgetCheckPass _ => true
  | .writeAccept i => decide (i < 16384)
  | .billingTick => true
  | .billingLatch => true
  | .bankWriteDone => true
  | .bankAck v => word v
  | .namespaceBind v => word v
  | .cacheReconfigure v => word v
  | .wayLock v => word v
  | .czero v => word v
  | .rangeInvalidate => true
  | .rangeClean => true
  | .rangeCleaninv => true
  | .rangeZero => true
  | .lockfill _ => true
  | .lockzero _ => true
  | .rangeOpDone => true
  | .victimOffer _ _ => true
  | .victimAccepted _ => true
  | .bufCfgWrite _ _ v => word v
  | .scrubRead _ _ => true
  | .scrubPassEnd _ => true
  | .copyRestore _ => true
  | .testRawWrite => true
  | .testRawRead => true
  | .sdramFill _ => true
  | .sdramFillDone => true
  | .refreshRateChange _ _ => true
  | .selfRefreshEntry => true
  | .sealedUnitDecrypted i => decide (i < 16384)
  | .kmuLoadwrap _ v => word v
  | .kmuLoadverom _ v => word v
  | .kmuGenerate _ v => word v
  | .kmuClear _ v => word v
  | .kmuRevoke _ v => word v
  | .kmuOpComplete drawn => drawn.all byte
  | .kmuLockAcquire _ _ => true
  | .kmuLockRelease _ => true
  | .kmuLockExpiry => true
  | .entropySample _ => true
  | .drbgReseed => true
  | .drbgReseedDue => true
  | .drbgReinit _ => true
  | .logScan => true
  | .logScanDone => true
  | .logAppend => true
  | .norOperationDone _ => true
  | .counterEntryTick => true
  | .compatModeFix => true
  | .logRead v => word v
  | .logOpsecRead => true
  | .firmwareLogAppend v => word v
  | .norAccessRefused _ _ prog => prog.all (fun bs => bs.all byte)
  | .thermalConversion _ => true
  | .throttleStepRelease _ => true
  | .sensorExclude _ => true
  | .holdRelease => true
  | .holdReleaseFirmware => true
  | .shutdownLatch => true
  | .powerStateOrder v hall => word v && decide (hall < 8)
  | .bufferSaveDone => true
  | .bufferRestoreDone => true
  | .powerStateReached hall => decide (hall < 8)
  | .ps4Wake => true
  | .perstAssert => true
  | .quiesceTimeout => true
  | .internalReset _ => true
  | .vaultFlushStart => true
  | .vaultEndMark _ => true
  | .vaultReplay _ _ => true
  | .replayDone => true
  | .vaultRelease => true
  | .vaultZonesReset => true
  | .journalTailWrite v => word v
  | .testUnlockKey _ v => word v
  | .testUnlockWindowExpiry => true
  | .testRelock => true
  | .testFuseBurn => true
  | .servoJitterSet v => word v
  | .dmaBackpressurePeriod _ => true
  | .completionDelayExpiry => true
  | .jtagTapReset => true
  | .jtagIdcode => true
  | .jtagSamplePreload _ _ => true
  | .jtagExtest => true
  | .jtagClamp => true
  | .jtagHighz => true
  | .jtagThmstat => true
  | .jtagBypass _ => true
  | .activityStretchExpiry => true
  | .spindleStandstill => true
  | .readDeadlineExpiry _ => true
  | .perstDeassert => true

end Sys2Proof
end

