-- ==== Sys2Proof/Safety.lean ====
section
/-!
DEFINITION. Safety.lean: the terms in which statements are made: a device whose clocks run, what a command answers, and what
an effect leaves alone.
-/
namespace Sys2Proof.Machine

/-- The clocks of the device run: no brown-out holds it in reset and no shutdown has stopped it (R353, R401). -/
def running (s : State) : Prop := halted s.dev = false

/-- The command answers a next state, of which `P` holds. -/
def Answers (c : Instr) (s : State) (P : State → Prop) : Prop := ∃ t, exec c s = .next t ∧ P t

/-- Of the registers, at most the listed fields change; nothing else of the device does. -/
def OnlyFields (fs : List Fld) (d e : Dev) : Prop :=
  e = { d with regs := e.regs } ∧ ∀ g : Fld, g.key ∉ fs.map Fld.key → rd g e = rd g d

/-- Of the registers, at most the listed fields change; apart from them only what an event touches does: page headers, the
cores' pending sets, MSI-X and the recorder's queue (R33, R38). -/
def OnlyFieldsAndEvents (fs : List Fld) (d e : Dev) : Prop :=
  e = { d with regs := e.regs, pages := e.pages, cores := e.cores, host := e.host, recd := e.recd }
    ∧ ∀ g : Fld, g.key ∉ fs.map Fld.key → rd g e = rd g d

/-- Event `e` is pending at core `c` (R39). -/
def pendingAt (c e : Nat) (d : Dev) : Prop := (core c d).pend.any (fun p => p.1 == e) = true

/-- The dealer has nothing to go on with: no write waits for its turn in its zone, no request to the host waits to be sent. -/
def dealerRests (d : Dev) : Prop :=
  (∀ p ∈ ctxList d, ¬ (p.2.stage = .pulling ∧ p.2.phase = 5)) ∧ d.host.todo = []

/-- The memories behind the hub cache and what the cache holds of them. -/
def SameMemory (d e : Dev) : Prop := e.mem = d.mem ∧ e.cache = d.cache

/-- The arm dies, their hands and the zones. -/
def SameArms (d e : Dev) : Prop := e.arms = d.arms ∧ e.hands = d.hands ∧ e.zon = d.zon

/-- The power die beyond its registers, the supplies, and the vault. -/
def SamePower (d e : Dev) : Prop := e.pwr = d.pwr ∧ e.sup = d.sup ∧ e.vault = d.vault

/-- The dealer and the cipher engine's keys. -/
def SameDealer (d e : Dev) : Prop := e.deal = d.deal ∧ e.keys = d.keys ∧ e.kmu = d.kmu

/-- A zone record changes as R198 has it: with the journal ready, one journal record more is appended; otherwise the change, of
which `P` holds, waits its turn. -/
def RecordChanges (zi : Nat) (P : Zone → Prop) (d e : Dev) : Prop :=
  (jnlReady d = true → d.zon.jwait = [] → e.zon.jwait = [] ∧ e.zon.jnext = d.zon.jnext.map (· + 1)
    ∧ rd GLB_JNLHEAD_HEAD e = (rd GLB_JNLHEAD_HEAD d + 1) % 131072)
  ∧ (jnlReady d = false ∨ d.zon.jwait ≠ [] →
      ∃ z, P z ∧ e.zon.jwait = d.zon.jwait ++ [⟨zi, z, 0, [], []⟩] ∧ e.zon.jnext = d.zon.jnext)

/-- The command in context `i` has completed with status `st` (R243): its context is free, its completion entry is in the ordered
queue, and its completion queue has moved on by one. -/
def Completed (i st : Nat) (x : Ctx) (d e : Dev) : Prop :=
  let s := sq x.sqid d
  let q := cq s.cq d
  ctx i e = none ∧ (cq s.cq e).tail = (q.tail + 1) % q.size
    ∧ ∃ dw0 dw1, OutTlp.cqe (q.base + 16 * q.tail) x.cid x.sqid s.head (st * 2 + b2n q.phase) dw0 dw1 ∈ e.host.out

/-- The completion queue of a command has room (R261). -/
def completionRoom (x : Ctx) (d : Dev) : Prop := cqRoom (cq (sq x.sqid d).cq d) = true

/-- The fuses only ever go one way (R47, R225, R388): the host-lock fuse stays as made, a burnt test-disable fuse stays
burnt, the rollback counter does not fall, a revoked key slot stays revoked. -/
def FusesForward (a b : Otp) : Prop :=
  b.hostLock = a.hostLock ∧ (a.testDisabled = true → b.testDisabled = true) ∧ a.rollback ≤ b.rollback
    ∧ (a.key0rev = true → b.key0rev = true) ∧ b.svid = a.svid ∧ b.ssid = a.ssid

end Sys2Proof.Machine
end

