-- ==== Sys2Proof/Certificates/Slice0/Obligations.lean ====
section
/-!
DEFINITION. Certificates/Slice0/Obligations.lean: the statements for the provers, family by family. Where a statement rests on
a choice of the model, its docstring names the log entry.
-/
open Sys2Proof Sys2Proof.Machine

/-! ## The machine as a whole -/

/-- A step carries out the command at the front of the queue, with the rest of the queue in place. -/
def Obligations.StepRunsFrontCommand : Prop :=
  ∀ (c : Instr) (rest : List Instr) (s : State), s.pending = c :: rest → step s = exec c { s with pending := rest }

/-- On an empty queue one CLK_AUX cycle passes: `time` counts (R46). With no posted write waiting, no register changes, nor
do fuses, queue or memories. That an idle step is a cycle is the model's choice (notes/assumptions/5). -/
def Obligations.IdleStepCountsTime : Prop :=
  ∀ s : State, s.pending = [] → running s → s.dev.host.out = [] →
    ∃ t, step s = .next t ∧ t.dev.time = s.dev.time + 1 ∧ t.dev.regs = s.dev.regs ∧ t.dev.mem = s.dev.mem
      ∧ t.otp = s.otp ∧ t.pending = []

/-- Every command answers a next state, and the commands that wait behind it still wait, in their order. -/
def Obligations.EveryCommandAnswersAndKeepsQueue : Prop :=
  ∀ (c : Instr) (s : State), ∃ t, exec c s = .next t ∧ t.pending = s.pending

/-- While the clocks are stopped (R353), a command of the device's own pages changes nothing. -/
def Obligations.StoppedDeviceKeepsState : Prop :=
  ∀ (s : State), halted s.dev = true →
    (∀ who off size v env, exec (.registerWrite who off size v env) s = .next s)
    ∧ (∀ off n data env, exec (.hostBar0Request off n data env) s = .next s)
    ∧ (∀ c short op env, exec (.coreInstruction c short op env) s = .next s)
    ∧ exec .submissionFetch s = .next s ∧ exec .logAppend s = .next s

/-- No step un-burns a fuse, lowers the rollback counter or restores a revoked key slot. -/
def Obligations.FusesNeverGoBack : Prop :=
  ∀ s t : State, step s = .next t → FusesForward s.otp t.otp

/-- The invariant that every step keeps: the list that holds the memories is in its one canonical form (strictly rising addresses,
nothing listed that reads as unlisted memory does), so that equal memories are equal data. The form is the model's own
(notes/assumptions/4). -/
def Obligations.MemoryStaysCanonical : Prop :=
  ∀ s t : State, s.dev.mem.wf = true → step s = .next t → t.dev.mem.wf = true

/-- The machine right after reset: the values that the spec's register tables give for what identifies the reset, the boot
state, the core release and the power state (R46, R52, R356), and nothing waiting. -/
def Obligations.ResetValues : Prop :=
  let s := State.reset
  rd PWS_RSTSTAT_POR s.dev = 1 ∧ rd PWS_RSTSTAT_PERST s.dev = 0 ∧ rd GLB_BOOTSTAT_CODE s.dev = 0
    ∧ rd GLB_CORERUN_RUN s.dev = 1 ∧ rd PWS_PSSTAT_STATE s.dev = 0 ∧ rd SPN_CTL_AUTO s.dev = 1
    ∧ (∀ c, c < 8 → mtcmp c s.dev = 2 ^ 64 - 1) ∧ rd DRC_MAP_ILV s.dev = 12 ∧ isSet NVME_CSTS_RDY s.dev = false
    ∧ s.dev.time = 0 ∧ s.pending = [] ∧ halted s.dev = false ∧ s.dev.mem.wf = true

/-! ## Page headers, events and error classes (R33 to R41) -/

/-- PG_EVEN and PG_EVSTAT (R38, R40): a written enable stands for the events the page has; each event whose status bit is set
and which is newly enabled is delivered to every core its route entry names; a written 1 clears a status bit unless the event
occurs again in that cycle. Beyond headers and deliveries nothing changes. -/
def Obligations.EnableAndStatusBits : Prop :=
  ∀ (p : PageNo) (v again : Nat) (s : State), running s → reach (pageAt p) s.dev = true →
    Answers (.pgEvenWrite p v) s (fun t =>
      (page (pageAt p) t.dev).even = BitVec.ofNat 32 (v % 2 ^ nEvt (pageAt p))
        ∧ (∀ k c, k < 32 → (page (pageAt p) t.dev).even.getLsbD k = true → (page (pageAt p) s.dev).even.getLsbD k = false →
            (page (pageAt p) s.dev).stat.getLsbD k = true → c < 8 →
            (rd (EVT_ROUTE_CORES (evBase (pageAt p) + k)) s.dev).testBit c = true → pendingAt c (evBase (pageAt p) + k) t.dev)
        ∧ OnlyFieldsAndEvents [] s.dev t.dev)
    ∧ Answers (.pgEvstatClear p v again) s (fun t =>
      (∀ k, k < 32 → (page (pageAt p) t.dev).stat.getLsbD k
          = ((page (pageAt p) s.dev).stat.getLsbD k && (!v.testBit k || again.testBit k)))
        ∧ t.dev = { s.dev with pages := t.dev.pages } ∧ ∀ b, b ≠ pageAt p → page b t.dev = page b s.dev)

/-- The error class of a page (R41): a PG_ERRWIN write sets WINDOW and THRESH and empties the window, unless the page is locked;
clearing LASTING empties the window and arms promotion again; a locked page stays locked (R33); errors whose age has reached WINDOW leave, and WINCNT reads the
same before and after they do. The total stays, and so does everything beyond this header. -/
def Obligations.ErrorClassRegisters : Prop :=
  ∀ (p : PageNo) (v : Nat) (s : State), running s → reach (pageAt p) s.dev = true →
    let b := pageAt p
    Answers (.pgErrwinWrite p v) s (fun t =>
      (page b s.dev).lock = true ∧ page b t.dev = page b s.dev
        ∨ (page b s.dev).lock = false ∧ page b t.dev = { page b s.dev with
            window := bits v 0 16, thresh := bits v 16 8, err := ⟨[], (page b s.dev).err.lasting⟩ })
    ∧ Answers (.lastingClear p) s (fun t =>
      (page b t.dev).err.lasting = false ∧ ((page b s.dev).err.lasting = true → winCnt (page b t.dev) t.dev = 0)
        ∧ ((page b s.dev).err.lasting = false → page b t.dev = page b s.dev) ∧ (page b t.dev).total = (page b s.dev).total
        ∧ t.dev = { s.dev with pages := t.dev.pages } ∧ ∀ x, x ≠ b → page x t.dev = page x s.dev)
    ∧ Answers (.errorWindowExpiry p) s (fun t =>
      (∀ a ∈ (page b t.dev).err.stamps, (page b s.dev).window = 0 ∨ (nowMs s.dev : Int) - a < (page b s.dev).window)
        ∧ winCnt (page b t.dev) t.dev = winCnt (page b s.dev) s.dev ∧ (page b t.dev).total = (page b s.dev).total
        ∧ t.dev = { s.dev with pages := t.dev.pages } ∧ ∀ x, x ≠ b → page x t.dev = page x s.dev)
    ∧ ((b = pgTst → isSet TST_STAT_UNLOCKED s.dev = false) → Answers (.pageLock p) s (fun t =>
        page b t.dev = { page b s.dev with lock := true } ∧ t.dev = { s.dev with pages := t.dev.pages }
          ∧ ∀ x, x ≠ b → page x t.dev = page x s.dev))

/-- The router (R36, R39, R40): a software event becomes pending at every core its entry names; a claim returns the event of the
highest severity and in it the lowest number, and takes it out; a route entry takes what is written, save reserved encodings,
and a core that it names no longer loses the event. -/
def Obligations.EventRouter : Prop :=
  ∀ s : State, running s →
    (∀ v, Answers (.evtSwset v) s (fun t =>
      (∀ k c, k < 32 → c < 8 → v.testBit k = true → (rd (EVT_ROUTE_CORES (0x60 + k)) s.dev).testBit c = true →
        pendingAt c (0x60 + k) t.dev) ∧ OnlyFieldsAndEvents [] s.dev t.dev))
    ∧ (∀ c : CoreId, Answers (.evtClaim c) s (fun t =>
      ((core c s.dev).pend = [] → t.dev = { s.dev with rdata := 0 })
        ∧ ((core c s.dev).pend ≠ [] → ∃ q ∈ (core c s.dev).pend, (∀ r ∈ (core c s.dev).pend, r.2 < q.2 ∨ r.2 = q.2 ∧ q.1 ≤ r.1)
            ∧ t.dev.rdata = q.1 + q.2 * 2 ^ 15 + 2 ^ 31 ∧ (∀ r, r ∈ (core c t.dev).pend ↔ r ∈ (core c s.dev).pend ∧ r ≠ q)
            ∧ t.dev.regs = s.dev.regs ∧ ∀ x, x ≠ c.val → core x t.dev = core x s.dev)))
    ∧ (∀ (n : Fin 768) (v : Nat), (page pgEvt s.dev).lock = false → Answers (.evtRouteWrite n v) s (fun t =>
      rd (EVT_ROUTE_MSIX n.val) t.dev = bits v 7 1 ∧ rd (EVT_ROUTE_CORES n.val) t.dev = bits v 8 8
        ∧ rd (EVT_ROUTE_LOG n.val) t.dev = bits v 19 1
        ∧ rd (EVT_ROUTE_VECTOR n.val) t.dev = (if bits v 0 7 ≤ 64 then bits v 0 7 else rd (EVT_ROUTE_VECTOR n.val) s.dev)
        ∧ rd (EVT_ROUTE_SEV n.val) t.dev = (if bits v 16 3 ≤ 4 then bits v 16 3 else rd (EVT_ROUTE_SEV n.val) s.dev)
        ∧ OnlyFieldsAndEvents [EVT_ROUTE_MSIX n.val, EVT_ROUTE_CORES n.val, EVT_ROUTE_LOG n.val, EVT_ROUTE_VECTOR n.val,
            EVT_ROUTE_SEV n.val] s.dev t.dev
        ∧ (bits v 0 7 ≤ 64 → bits v 16 3 ≤ 4 → ∀ c, c < 8 → (rd (EVT_ROUTE_CORES n.val) s.dev).testBit c = true →
            (bits v 8 8).testBit c = false → ¬ pendingAt c n.val t.dev)))

/-! ## Cores, watchdogs, fuses and register access (R10, R19, R30, R42, R46 to R48) -/

/-- GLB_CORERUN (R42): a newly set bit starts its core in machine mode at its GLB_COREPC address, a bit of a running core or a
0 changes nothing of that core. -/
def Obligations.CoreRelease : Prop :=
  ∀ (s : State) (v : Nat), running s → Answers (.coreRelease v) s (fun t => ∀ c, c < 8 →
    (v.testBit c = true ∧ coreRuns c s.dev = false → coreRuns c t.dev = true ∧ (core c t.dev).pc = rd (GLB_COREPC_PC c) s.dev * 8
      ∧ (core c t.dev).user = false ∧ (core c t.dev).wfi = false ∧ (core c t.dev).pend = (core c s.dev).pend)
    ∧ (v.testBit c = false ∨ coreRuns c s.dev = true → coreRuns c t.dev = coreRuns c s.dev ∧ core c t.dev = core c s.dev)
    ∧ t.dev.mem = s.dev.mem ∧ t.dev.pages = s.dev.pages)

/-- Watchdogs and the machine timer (R46, R48): before the period has passed the kick restarts the timeout with the period in
force; any other value, or the period passing (a kick that comes then is discarded), expires the watchdog: EXP, CSTS.CFS, and an event of severity 4 at every other running core whose watchdog has
not expired. A watchdog that does not count takes no kick. The timer's interrupt wakes a core that waits with it enabled. -/
def Obligations.WatchdogsAndTimer : Prop :=
  ∀ (s : State) (c : CoreId), running s →
    let expired := fun (t : State) => (rd EVT_WDSTAT_EXP t.dev).testBit c = true ∧ rd NVME_CSTS_CFS t.dev = 1 ∧ wdCounts c t.dev = false
      ∧ (∀ k, k < 8 → k ≠ c.val → coreRuns k s.dev = true → s.dev.pws.wdDone.testBit k = false → pendingAt k c t.dev)
      ∧ SameMemory s.dev t.dev ∧ SameArms s.dev t.dev ∧ t.otp = s.otp
    let due := (core c s.dev).wdPeriod * 125000 ≤ s.dev.time - (core c s.dev).wdStart
    (wdCounts c s.dev = true →
      (¬ due → Answers (.watchdogKick c 0xA5C3) s (fun t => (core c t.dev).wdStart = s.dev.time
          ∧ (core c t.dev).wdPeriod = rd (GLB_WDCTL_PERIOD c) s.dev ∧ t.dev = { s.dev with cores := t.dev.cores }))
        ∧ (∀ v, v ≠ 0xA5C3 ∨ due → Answers (.watchdogKick c v) s expired)
        ∧ (due → Answers (.watchdogExpiry c) s expired))
    ∧ (wdCounts c s.dev = false → (∀ v, exec (.watchdogKick c v) s = .next s) ∧ exec (.watchdogExpiry c) s = .next s)
    ∧ (mipOf c s.dev).testBit 7 = decide (mtcmp c s.dev ≤ s.dev.time)
    ∧ (mtcmp c s.dev ≤ s.dev.time → (Store.get 0 0x304 (core c s.dev).csr).testBit 7 = true → (core c s.dev).halted = false →
        Answers (.machineTimerInterrupt c) s (fun t => (core c t.dev).wfi = false ∧ t.dev = { s.dev with cores := t.dev.cores }
          ∧ core c t.dev = { core c s.dev with wfi := false }))

/-- The rollback counter and key slot 0 (R47), whole: when a burn is carried out, what a completed one does, when KEY0REV is
accepted, and that no step of the machine lowers the counter or restores the slot. -/
def Obligations.RollbackAndKeyRevocation : Prop :=
  (∀ (s : State) (g : Fin 256), running s →
    (s.otp.rollback < g.val ∧ g.val ≤ rd GLB_BOOTSTAT_SECVER s.dev →
      Answers (.rollbackBurn g) s (fun t => rd GLB_ROLLBACK_GO t.dev = 1 ∧ rd GLB_ROLLBACK_TARGET t.dev = g.val ∧ t.otp = s.otp
        ∧ OnlyFields [GLB_ROLLBACK_TARGET, GLB_ROLLBACK_GO] s.dev t.dev))
    ∧ (¬ (s.otp.rollback < g.val ∧ g.val ≤ rd GLB_BOOTSTAT_SECVER s.dev) → exec (.rollbackBurn g) s = .next s)
    ∧ (rd GLB_ROLLBACK_GO s.dev = 1 → Answers .rollbackBurnComplete s (fun t =>
        t.otp = { s.otp with rollback := max s.otp.rollback (rd GLB_ROLLBACK_TARGET s.dev) } ∧ rd GLB_ROLLBACK_GO t.dev = 0
          ∧ (page pgGlb t.dev).stat.getLsbD 2 = ((page pgGlb s.dev).stat.getLsbD 2 || !(page pgGlb s.dev).raw.getLsbD 2)))
    ∧ (isSet GLB_BOOTSTAT_KEY s.dev = true → Answers .key0Revoke s (fun t => t.otp = { s.otp with key0rev := true }
        ∧ OnlyFields [GLB_ROLLBACK_TARGET] s.dev t.dev))
    ∧ (isSet GLB_BOOTSTAT_KEY s.dev = false → exec .key0Revoke s = .next s))
  ∧ (∀ s t : State, step s = .next t → s.otp.rollback ≤ t.otp.rollback ∧ (s.otp.key0rev = true → t.otp.key0rev = true))

/-- Register accesses (R10, R11, R19, R30): a word that a core writes to the machine-timer compare, a route entry or EVT_SWSET has
the effect of the register; a narrow write is discarded with GLB event 0x009; an unassigned offset discards and reads 0 with
GLB event 0x008; a page whose die's link is down discards and reads all ones, one of a die not fitted reads 0. A full read of
PG_ERRCNT returns the word and clears its TOTAL. Host accesses while GLB_HOSTACC.LOCK = 1 reach no register. -/
def Obligations.RegisterAccesses : Prop :=
  ∀ (s : State) (c : CoreId) (off v : Nat) (env : RegEnv) (hdr : List Nat), running s → 0x100000 ≤ off → off < 0x170000 →
    (∀ k, k < 8 → Answers (.registerWrite (.core c) (0x1001C0 + 8 * k) .b8 v env) s (fun t => mtcmp k t.dev = v % 2 ^ 64
        ∧ OnlyFields [GLB_MTCMP_LO k, GLB_MTCMP_HI k] s.dev t.dev ∧ t.otp = s.otp))
    ∧ (∀ n : Fin 768, exec (.registerWrite (.core c) (0x104400 + 4 * n.val) .b4 v env) s = exec (.evtRouteWrite n (v % 2 ^ 32)) s)
    ∧ exec (.registerWrite (.core c) 0x104040 .b4 v env) s = exec (.evtSwset (v % 2 ^ 32)) s
    ∧ (regPlace off s.dev = .page → ∀ w, w = MemSize.b1 ∨ w = MemSize.b2 ∨ off % 4 ≠ 0 →
        Answers (.registerWrite (.core c) off w v env) s (fun t => OnlyFieldsAndEvents [] s.dev t.dev ∧ t.otp = s.otp
          ∧ ((page pgGlb s.dev).raw.getLsbD 1 = false → (page pgGlb t.dev).stat.getLsbD 1 = true)))
    ∧ (regPlace off s.dev = .unassigned → off % 4 = 0 →
        Answers (.registerWrite (.core c) off .b4 v env) s (fun t => OnlyFieldsAndEvents [] s.dev t.dev
            ∧ ((page pgGlb s.dev).raw.getLsbD 0 = false → (page pgGlb t.dev).stat.getLsbD 0 = true))
          ∧ Answers (.rcRead (.core c) off .b4 hdr) s (fun t => t.dev.rdata = 0))
    ∧ (regPlace off s.dev = .linkDown ∨ regPlace off s.dev = .absent → off % 4 = 0 →
        exec (.registerWrite (.core c) off .b4 v env) s = .next s
          ∧ exec (.rcRead (.core c) off .b4 hdr) s
              = .next { s with dev := { s.dev with rdata := if regPlace off s.dev = .linkDown then 2 ^ 32 - 1 else 0 } })
    ∧ (∀ p : PageNo, regPlace (pageAt p) s.dev = .page → Answers (.rcRead (.core c) (pageAt p + 0x24) .b4 hdr) s (fun t =>
        t.dev.rdata = errCntWord (page (pageAt p) s.dev) s.dev % 2 ^ 32
          ∧ page (pageAt p) t.dev = { page (pageAt p) s.dev with total := 0 } ∧ t.dev.regs = s.dev.regs))
    ∧ (isSet GLB_HOSTACC_LOCK s.dev = true → isSet HEP_LINKSTAT_DLUP s.dev = true →
        Answers (.registerWrite .host off .b4 v env) s (fun t => t.dev.ur = true ∧ t.otp = s.otp ∧ SameMemory s.dev t.dev
            ∧ SameArms s.dev t.dev ∧ SamePower s.dev t.dev ∧ SameDealer s.dev t.dev)
          ∧ Answers (.rcRead .host off .b4 hdr) s (fun t => t.dev.ur = true ∧ SameMemory s.dev t.dev ∧ SameArms s.dev t.dev))

/-! ## Supplies, Boot ROM and the links (R14 to R19, R52, R53, R174, R399 to R401) -/

/-- The supplies and the power die's monitors (R174, R175, R399, R400, R401): the core regulator starts while rails 2, 4, 5 and 7 are
in range, GPIO7 rises with it and falls with VDD_CORE; with both up the power-on reset starts the device from its reset state; a
brown-out resets it, vaults nothing, and holds it until the rails have come up again. Fuses, media and NOR slots keep what they
hold. A rail that leaves its range is recorded with its voltage and raises its event; a disagreeing phase is one error of the
REG class, whose promotion sheds the phase; the activity indicator goes out at the end of its stretch of 50 ms. Voltages stand as
VGAIN corrects them (R189). -/
def Obligations.SuppliesAndTheirMonitors : Prop :=
  (∀ s : State,
      ((∀ r ∈ [2, 4, 5, 7], rd (REG_MON_UV r) s.dev = 0 ∧ rd (REG_MON_OV r) s.dev = 0) →
        Answers .coreRegulatorStart s (fun t => t.dev.sup = { s.dev.sup with coreOn := true }
          ∧ rd REG_CORESTAT_PHACT t.dev = rd REG_CORECFG_PHEN s.dev &&& (15 - rd REG_CORESTAT_PHSHED s.dev)
          ∧ coreMv t.dev = rd REG_CORECFG_VSET s.dev * 5 ∧ (page pgReg t.dev).raw.getLsbD 0 = false ∧ t.otp = s.otp
          ∧ OnlyFieldsAndEvents [REG_CORESTAT_PHACT] { s.dev with sup := t.dev.sup, pwr := t.dev.pwr } t.dev))
      ∧ (s.dev.sup.coreOn = true →
        exec .vddqEnable s = .next { s with dev := { s.dev with sup := { s.dev.sup with vddq := true } } })
      ∧ Answers .vddCoreFall s (fun t => t.dev.sup = { s.dev.sup with vddq := false } ∧ (page pgReg t.dev).raw.getLsbD 0 = true
          ∧ ((page pgReg s.dev).raw.getLsbD 0 = false → (page pgReg t.dev).stat.getLsbD 0 = true) ∧ t.otp = s.otp
          ∧ OnlyFieldsAndEvents [] { s.dev with sup := t.dev.sup } t.dev)
      ∧ (s.dev.sup.coreOn = true → s.dev.sup.vddq = true → ∀ lanes rng nor, Answers (.powerUp lanes rng nor) s (fun t =>
          t.otp = s.otp ∧ t.pending = s.pending ∧ t.dev.part = s.dev.part ∧ t.dev.time = 0 ∧ t.dev.mem = Dev.reset.mem
            ∧ t.dev.deal.ctxs = [] ∧ t.dev.deal.blks = [] ∧ t.dev.vault.area0 = s.dev.vault.area0
            ∧ t.dev.sup.brown = false
            ∧ (∀ p ∈ allPages, p.base ∈ t.dev.chain ↔ fitted (pageDie p.base) t.dev = true ∧ dieUp (pageDie p.base) t.dev = true
                ∧ (p.base = pgBuf → fitted (.buf 0) t.dev = true))))
      ∧ (∀ nor, Answers (.brownOut nor) s (fun t => halted t.dev = true ∧ t.otp = s.otp ∧ t.dev.sup.vddq = false
          ∧ t.dev.sup.coreOn = false ∧ t.dev.mem = Dev.reset.mem ∧ t.dev.time = 0
          ∧ t.dev.vault.area0 = s.dev.vault.area0 ∧ t.dev.vault.area1 = s.dev.vault.area1 ∧ rd NVME_CC_EN t.dev = 0)))
  ∧ (∀ s : State, running s →
      (∀ (r : Fin 9) (mv uv : Nat),
          let nom := if r.val = 8 then rd REG_CORECFG_VSET s.dev * 5 else railNominal r
          let v := 1000 * mv + uv % 1000
          let low := vBelow (100 * v) (95000 * nom) s.dev
          let high := vAbove (100 * v) (105000 * nom) s.dev
          Answers (.railOutOfRange r mv uv) s (fun t =>
            (r.val < 8 → rd (REG_MON_V r) t.dev = volts mv s.dev % 2 ^ (REG_MON_V r).w ∧ rd (REG_MON_UV r) t.dev = b2n low
              ∧ rd (REG_MON_OV r) t.dev = b2n high
              ∧ (low = true → rd (REG_MON_UV r) s.dev = 0 → (page pgReg s.dev).raw.getLsbD 3 = false →
                  (page pgReg t.dev).stat.getLsbD 3 = true)
              ∧ (high = true → rd (REG_MON_OV r) s.dev = 0 → (page pgReg s.dev).raw.getLsbD 4 = false →
                  (page pgReg t.dev).stat.getLsbD 4 = true)
              ∧ OnlyFieldsAndEvents [REG_MON_V r, REG_MON_UV r, REG_MON_OV r] s.dev t.dev)
            ∧ (r.val = 8 → (page pgReg t.dev).raw.getLsbD 0 = (low || high) ∧ coreMv t.dev = volts mv s.dev
              ∧ OnlyFieldsAndEvents [] { s.dev with pwr := t.dev.pwr } t.dev)))
      ∧ (∀ p : Fin 4, Answers (.regPhaseFault p) s (fun t =>
          (page pgReg t.dev).total = min 0xFFFF ((page pgReg s.dev).total + 1)
            ∧ (promotes pgReg s.dev = true → (rd REG_CORESTAT_PHSHED t.dev).testBit p = true
                ∧ (rd REG_CORESTAT_PHACT t.dev).testBit p = false ∧ (page pgReg t.dev).degraded = true
                ∧ (page pgReg t.dev).err.lasting = true)
            ∧ (promotes pgReg s.dev = false → t.dev.regs = s.dev.regs)
            ∧ OnlyFieldsAndEvents [REG_CORESTAT_PHSHED, REG_CORESTAT_PHACT] s.dev t.dev))
      ∧ (∀ a, s.dev.sup.actAt = some a →
          (a + 50 * auxPerMs ≤ s.dev.time →
            exec .activityStretchExpiry s = .next { s with dev := { s.dev with sup := { s.dev.sup with actAt := none } } })
          ∧ (s.dev.time < a + 50 * auxPerMs → exec .activityStretchExpiry s = .next s)))

/-- Boot ROM (R51 to R53): its outcome is BOOTSTAT.CODE: 2 without a usable NOR, 3 without a correct directory, 4 when SDRAM that
was not retained does not train, 5 when neither slot verifies. A failure sets CSTS.CFS and halts core 0. A slot A that passes
every check and has no lower security version than slot B starts at its entry in machine mode, with its security version and
the key slot that verified it in BOOTSTAT. Once it has run, it does not run again. -/
def Obligations.BootRomOutcomes : Prop :=
  ∀ (s : State) (b : BootInput), running s →
    (booting s.dev = false → exec (.bootRomRun b) s = .next s)
    ∧ (booting s.dev = true →
      let fails := fun (code : Nat) => Answers (.bootRomRun b) s (fun t => rd GLB_BOOTSTAT_CODE t.dev = code
        ∧ rd NVME_CSTS_CFS t.dev = 1 ∧ (core 0 t.dev).halted = true ∧ (core 0 t.dev).wfi = true ∧ t.otp = s.otp)
      let slot := b.slotA
      let h := slot.header
      (b.norOk = false → fails 2)
      ∧ (b.norOk = true → dirCorrect b.dir0 = false → dirCorrect b.dir1 = false → fails 3)
      ∧ (b.norOk = true → dirCorrect b.dir0 = true ∨ dirCorrect b.dir1 = true → isSet PWS_RSTSTAT_RETAIN s.dev = false →
          b.trainOk = false → fails 4)
      ∧ (b.norOk = true → dirCorrect b.dir0 = true ∨ dirCorrect b.dir1 = true → b.trainOk = true →
          sigVerifies b.slotA.header = false → sigVerifies b.slotB.header = false → fails 5)
      ∧ (b.norOk = true → dirCorrect b.dir0 = true ∨ dirCorrect b.dir1 = true → b.trainOk = true →
          hdrSecver b.slotB.header ≤ hdrSecver h → headerLaid h = true → sha384 (hdrPubkey h) = s.otp.keyHash0 →
          s.otp.key0rev = false → sigVerifies h = true → sha384 slot.payload = hdrPayhash h → s.otp.rollback ≤ hdrSecver h →
          hdrSecver h ≤ 128 → hdrPaylen h = slot.payload.length → sdramBase ≤ hdrLoad h →
          hdrLoad h + hdrPaylen h ≤ sdramBase + sdramBytes (trainSdram b s.dev) → hdrLoad h ≤ hdrEntry h →
          hdrEntry h < hdrLoad h + hdrPaylen h →
          Answers (.bootRomRun b) s (fun t => rd GLB_BOOTSTAT_CODE t.dev = 1 ∧ rd GLB_BOOTSTAT_SECVER t.dev = hdrSecver h
            ∧ rd GLB_BOOTSTAT_KEY t.dev = 0 ∧ rd GLB_BOOTSTAT_SLOT t.dev = 0 ∧ rd GLB_BOOTSTAT_FALLBACK t.dev = 0
            ∧ t.dev.dir = (if dirCorrect b.dir0 then b.dir0 else b.dir1)
            ∧ (core 0 t.dev).pc = hdrEntry h ∧ (core 0 t.dev).user = false ∧ xr 0 10 t.dev = 0x40100000 ∧ t.otp = s.otp)))

/-- Felox links (R15, R16, R18): of each class the next flit alone is delivered; a flit with a bad CRC is discarded and counted;
a link that goes down stays down until it is trained, and CSTS.CFS is set with the power die's; a down link of a powered fitted
die trains again and comes up at the width that trains. A second copy lost with a buffer die is made again from the copy that
is left, at the SDRAM place of its first copy. -/
def Obligations.LinkTransfersAndTraining : Prop :=
  (∀ (s : State) (l : LinkId), running s →
      (flxUp l s.dev = true → ∀ no, Answers (.flitReceive l .bulk no true) s (fun t =>
          (link l t.dev).nextBulk = (if no = (link l s.dev).nextBulk then no + 1 else (link l s.dev).nextBulk)
            ∧ (link l t.dev).nextSide = (link l s.dev).nextSide ∧ t.dev = { s.dev with links := t.dev.links })
        ∧ Answers (.flitReceive l .sideband no true) s (fun t =>
          (link l t.dev).nextSide = (if no = (link l s.dev).nextSide then no + 1 else (link l s.dev).nextSide)
            ∧ (link l t.dev).nextBulk = (link l s.dev).nextBulk ∧ t.dev = { s.dev with links := t.dev.links })
        ∧ ∀ c, promotes pgGlb s.dev = false → Answers (.flitReceive l c no false) s (fun t => t.dev.links = s.dev.links
            ∧ (page pgGlb t.dev).total = min 0xFFFF ((page pgGlb s.dev).total + 1)
            ∧ OnlyFieldsAndEvents [GLB_FLXERR_CRCERR l] s.dev t.dev))
      ∧ (flxUp l s.dev = true → Answers (.linkDown l) s (fun t => flxUp l t.dev = false ∧ (l = 6 → rd NVME_CSTS_CFS t.dev = 1)
          ∧ ∀ k, k < 7 → k ≠ l.val → flxUp k t.dev = flxUp k s.dev))
      ∧ (Answers (.linkTrainingTimeout l) s (fun t => flxUp l t.dev = false ∧ (link l t.dev).training = false))
      ∧ (fitted (dieAt l) s.dev = true → flxUp l s.dev = false → dieGated l s.dev = false →
          Answers (.linkRetrainRetry l) s (fun t => (link l t.dev).training = true ∧ t.dev = { s.dev with links := t.dev.links }))
      ∧ (∀ lanes, fitted (dieAt l) s.dev = true → widthOf l lanes = true → (link l s.dev).training = true ∨ flxUp l s.dev = true →
          (link l s.dev).everUp = false ∨ promotes pgGlb s.dev = false →
          Answers (.linkUp l lanes) s (fun t => flxUp l t.dev = true ∧ rd (GLB_FLXSTAT_LANES l) t.dev = lanes
            ∧ rd (GLB_FLXSTAT_DEGRADED l) t.dev = (if lanes < builtLanes l then 1 else 0)
            ∧ (link l t.dev).training = false ∧ (link l t.dev).everUp = true)))
  ∧ (∀ (s : State) (b : Blk) (a : Nat), running s → dealerRests s.dev → s.dev.deal.blks = [b] → b.heldEntry = false →
      b.c1 = .at a → b.c2 = .lost → copyGone (.at a) s.dev = false → memUp a s.dev = true → rankFree (sdSecond a s.dev) s.dev = true →
      placeUsed (sdSecond a s.dev) s.dev = false →
      Answers (.secondCopyRebuild a (sdSecond a s.dev)) s (fun t => t.dev.deal.blks = [{ b with c2 := .at (sdSecond a s.dev) }]
        ∧ (b.accepted = false → b.ctx.any (fun i => (ctx i s.dev).any (fun x => x.stage == .second)) = false →
            SameMemory s.dev t.dev) ∧ t.otp = s.otp))

/-! ## The Wiloz cores (R31, R42 to R46): what an instruction does once its core runs and its fetch passes -/

/-- Integer instructions (R42): the destination takes the result, x0 stays 0, every other register keeps its value, and the pc
goes on by the instruction's length, or to the target of a jump or a taken branch. An operation the set does not have in that
form is illegal (cause 2). The memories, the arms and the fuses stay as the fetch left them. -/
def Obligations.IntegerInstructions : Prop :=
  ∀ (s : State) (c : CoreId) (short : Bool) (rdst : Fin 32) (env : RegEnv), running s → coreLive c s.dev = true →
    let f := coreFetch c short (onCore c (fun y => { y with wfi := false }) s.dev)
    f.2 = none →
    let pc := (core c f.1).pc
    let len := if short then 2 else 4
    let result := fun (v next : Nat) (t : State) =>
      (∀ r : Fin 32, xr c r t.dev = if r = rdst ∧ r ≠ 0 then v % 2 ^ 64 else xr c r f.1) ∧ (core c t.dev).pc = next
        ∧ SameMemory f.1 t.dev ∧ SameArms f.1 t.dev ∧ t.dev.regs = f.1.regs ∧ t.otp = s.otp
        ∧ ∀ k, k ≠ c.val → core k t.dev = core k f.1
    (∀ op word rs src, aluLegal op word src = true →
        Answers (.coreInstruction c short (.alu op word rdst rs src) env) s
          (result (alu op word (xr c rs f.1) (srcVal c src f.1)) ((pc + len) % 2 ^ 64)))
    ∧ (∀ imm, Answers (.coreInstruction c short (.lui rdst imm) env) s (result (toField 64 imm) ((pc + len) % 2 ^ 64)))
    ∧ (∀ imm, Answers (.coreInstruction c short (.auipc rdst imm) env) s (result (addrOf pc imm) ((pc + len) % 2 ^ 64)))
    ∧ (∀ off, Answers (.coreInstruction c short (.jal rdst off) env) s (result (pc + len) (addrOf pc off)))
    ∧ (∀ rs off, Answers (.coreInstruction c short (.jalr rdst rs off) env) s
        (result (pc + len) (addrOf (xr c rs f.1) off / 2 * 2)))
    ∧ (∀ op r1 r2 off, Answers (.coreInstruction c short (.branch op r1 r2 off) env) s (fun t =>
        (∀ r, xr c r t.dev = xr c r f.1) ∧ SameMemory f.1 t.dev ∧ t.dev.regs = f.1.regs
          ∧ (core c t.dev).pc = if branchTaken op (xr c r1 f.1) (xr c r2 f.1) then addrOf pc off else (pc + len) % 2 ^ 64))
    ∧ (∀ op word rs src, aluLegal op word src = false →
        Answers (.coreInstruction c short (.alu op word rdst rs src) env) s (fun t => csrRaw c 0x342 t.dev = 2
          ∧ csrRaw c 0x341 t.dev = pc ∧ ∀ r, xr c r t.dev = xr c r f.1))

/-- System instructions and interrupts (R39, R42): a trap saves the pc, its cause and the mode and enters machine mode at mtvec with
interrupts off; MRET returns from it; WFI waits; FENCE only advances. A pending non-maskable event is taken first. -/
def Obligations.TrapsAndWaiting : Prop :=
  ∀ (s : State) (c : CoreId) (short : Bool) (env : RegEnv), running s → coreLive c s.dev = true →
    let w := onCore c (fun y => { y with wfi := false }) s.dev
    let f := coreFetch c short w
    let enters := fun (cause : Nat) (d : Dev) (t : State) => csrRaw c 0x342 t.dev = cause ∧ csrRaw c 0x341 t.dev = (core c d).pc
      ∧ (core c t.dev).pc = csrRaw c 0x305 d / 4 * 4 % 2 ^ 64 ∧ (core c t.dev).user = false ∧ (core c t.dev).mie = false
      ∧ (core c t.dev).mpie = (core c d).mie ∧ (core c t.dev).mppUser = (core c d).user ∧ (core c t.dev).x = (core c d).x
      ∧ SameMemory d t.dev ∧ t.dev.regs = d.regs ∧ t.otp = s.otp
    (f.2 = none →
      Answers (.coreInstruction c short .ecall env) s (enters (if (core c f.1).user then 8 else 11) f.1)
      ∧ Answers (.coreInstruction c short .ebreak env) s (enters 3 f.1)
      ∧ Answers (.coreInstruction c short .illegal env) s (enters 2 f.1)
      ∧ ((core c f.1).user = true → Answers (.coreInstruction c short .mret env) s (enters 2 f.1))
      ∧ ((core c f.1).user = false → Answers (.coreInstruction c short .mret env) s (fun t =>
          (core c t.dev).pc = csrRaw c 0x341 f.1 ∧ (core c t.dev).mie = (core c f.1).mpie ∧ (core c t.dev).mpie = true
            ∧ (core c t.dev).user = (core c f.1).mppUser ∧ (core c t.dev).mppUser = true ∧ (core c t.dev).x = (core c f.1).x))
      ∧ (((core c f.1).user && (core c f.1).tw) = false → Answers (.coreInstruction c short .wfi env) s (fun t =>
          (core c t.dev).wfi = true ∧ (core c t.dev).pc = ((core c f.1).pc + if short then 2 else 4) % 2 ^ 64))
      ∧ Answers (.coreInstruction c short .fence env) s (fun t => (core c t.dev).x = (core c f.1).x ∧ SameMemory f.1 t.dev
          ∧ (core c t.dev).pc = ((core c f.1).pc + if short then 2 else 4) % 2 ^ 64)
      ∧ (∀ rdst num, csrRead c num f.1 = none →
          Answers (.coreInstruction c short (.csr .write rdst num (.reg 0)) env) s (enters 2 f.1)))
    ∧ (∀ a, f.2 = some a → Answers (.coreInstruction c short .fence env) s (fun t => enters 1 f.1 t ∧ csrRaw c 0x343 t.dev = a))
    ∧ (nmiPending c w = true → Answers (.coreInstruction c short .interrupt env) s (fun t =>
        csrRaw c 0x341 t.dev = (core c w).pc ∧ (core c t.dev).user = false ∧ (core c t.dev).mie = false
          ∧ (core c t.dev).pc = Config.nmiVector c % 2 ^ 64))
    ∧ (nmiPending c w = false → ((core c w).mie || (core c w).user) = true → enabledPending c w ≠ 0 → csrRaw c 0x305 w % 4 ≠ 1 →
        Answers (.coreInstruction c short .interrupt env) s
          (enters (2 ^ 63 + if (enabledPending c w).testBit 11 then 11 else 7) w))

/-- Control and status registers (R45, R46): CSRRW on mscratch exchanges it with the register, and a read of `time` is the count
of CLK_AUX cycles. -/
def Obligations.ControlRegisters : Prop :=
  ∀ (s : State) (c : CoreId) (short : Bool) (rdst rs : Fin 32) (env : RegEnv), running s → coreLive c s.dev = true →
    let f := coreFetch c short (onCore c (fun y => { y with wfi := false }) s.dev)
    f.2 = none → (core c f.1).user = false →
    Answers (.coreInstruction c short (.csr .write rdst 0x340 (.reg rs)) env) s (fun t =>
        csrRaw c 0x340 t.dev = xr c rs f.1 ∧ (rdst ≠ 0 → xr c rdst t.dev = csrRaw c 0x340 f.1 % 2 ^ 64)
          ∧ (core c t.dev).pc = ((core c f.1).pc + if short then 2 else 4) % 2 ^ 64)
    ∧ Answers (.coreInstruction c short (.csr .set rdst 0xC01 (.reg 0)) env) s (fun t =>
        (rdst ≠ 0 → xr c rdst t.dev = s.dev.time % 2 ^ 64) ∧ SameMemory f.1 t.dev)

/-- Loads, stores and atomics (R31, R43, R44): a misaligned access, one that the PMP denies and one that leads nowhere trap and
change no memory; a load of memory gives what is there; LR reserves the line, SC stores only while the reservation holds it
and ends it either way; an AMO gives the old value; FENCE.I empties the instruction cache. -/
def Obligations.MemoryInstructions : Prop :=
  ∀ (s : State) (c : CoreId) (rdst rs rt : Fin 32) (off : Int) (sz : MemSize) (env : RegEnv), running s → coreLive c s.dev = true →
    let f := coreFetch c false (onCore c (fun y => { y with wfi := false }) s.dev)
    f.2 = none →
    let a := addrOf (xr c rs f.1) off
    let n := sz.bytes
    let traps := fun (cause tval : Nat) (t : State) => csrRaw c 0x342 t.dev = cause ∧ csrRaw c 0x343 t.dev = tval
      ∧ SameMemory f.1 t.dev ∧ (core c t.dev).x = (core c f.1).x ∧ t.dev.regs = f.1.regs
    (a % n ≠ 0 → ∀ sx, Answers (.coreInstruction c false (.load sz sx rdst rs off) env) s (traps 4 a)
      ∧ Answers (.coreInstruction c false (.store sz rt rs off) env) s (traps 6 a))
    ∧ (a % n = 0 → pmpAllows c (dataUser c f.1) .read a n f.1 = false → ∀ sx,
        Answers (.coreInstruction c false (.load sz sx rdst rs off) env) s (traps 5 a))
    ∧ (a % n = 0 → pmpAllows c (dataUser c f.1) .write a n f.1 = false ∨ coreMap c a n f.1 = .nowhere →
        Answers (.coreInstruction c false (.store sz rt rs off) env) s (traps 7 a))
    ∧ (∀ b bs, a % n = 0 → pmpAllows c (dataUser c f.1) .read a n f.1 = true → coreMap c a n f.1 = .mem b → memUp b f.1 = true →
        (memRead b n f.1).2 = some bs → rdst ≠ 0 →
        ∀ sx, Answers (.coreInstruction c false (.load sz sx rdst rs off) env) s (fun t =>
          xr c rdst t.dev = extend sx n (leNat bs) % 2 ^ 64 ∧ t.dev.mem = (memRead b n f.1).1.mem))
    ∧ (∀ b, a % n = 0 → pmpAllows c (dataUser c f.1) .write a n f.1 = true → coreMap c a n f.1 = .mem b → memUp b f.1 = true →
        Answers (.coreInstruction c false (.store sz rt rs off) env) s (fun t =>
          t.dev.mem = (memWrite b (leBytes (xr c rt f.1 % 2 ^ (8 * n)) n) (some c.val) f.1).mem
            ∧ (core c t.dev).x = (core c f.1).x))
    ∧ (∀ b bs dbl, let m := if dbl then 8 else 4
        let p := xr c rs f.1
        p % m = 0 → pmpAllows c (dataUser c f.1) .read p m f.1 = true → coreMap c p m f.1 = .mem b → memUp b f.1 = true →
        (memRead b m f.1).2 = some bs →
        Answers (.lrScAmo c .lr dbl rdst rs rt) s (fun t => (core c t.dev).resv = some (b / 128)
          ∧ (rdst ≠ 0 → xr c rdst t.dev = extend true m (leNat bs) % 2 ^ 64)))
    ∧ (∀ b dbl, let m := if dbl then 8 else 4
        let p := xr c rs f.1
        p % m = 0 → pmpAllows c (dataUser c f.1) .write p m f.1 = true → coreMap c p m f.1 = .mem b →
        (core c f.1).resv ≠ some (b / 128) →
        Answers (.lrScAmo c .sc dbl rdst rs rt) s (fun t => (core c t.dev).resv = none ∧ SameMemory f.1 t.dev
          ∧ (rdst ≠ 0 → xr c rdst t.dev = 1)))
    ∧ (∀ b dbl, let m := if dbl then 8 else 4
        let p := xr c rs f.1
        p % m = 0 → pmpAllows c (dataUser c f.1) .write p m f.1 = true → coreMap c p m f.1 = .mem b → memUp b f.1 = true →
        (core c f.1).resv = some (b / 128) →
        Answers (.lrScAmo c .sc dbl rdst rs rt) s (fun t => (rdst ≠ 0 → xr c rdst t.dev = 0)
          ∧ t.dev.mem = (memWrite b (leBytes (xr c rt f.1 % 2 ^ (8 * m)) m) (some c.val)
              (onCore c (fun y => { y with resv := none }) f.1)).mem))
    ∧ (∀ b bs op dbl, let m := if dbl then 8 else 4
        let p := xr c rs f.1
        p % m = 0 → pmpAllows c (dataUser c f.1) .amo p m f.1 = true → coreMap c p m f.1 = .mem b → memUp b f.1 = true →
        (memRead b m f.1).2 = some bs → rdst ≠ 0 →
        Answers (.lrScAmo c (.amo op) dbl rdst rs rt) s (fun t => xr c rdst t.dev = extend true m (leNat bs) % 2 ^ 64))
    ∧ Answers (.fenceI c) s (fun t => (core c t.dev).icache = [] ∧ (core c t.dev).x = (core c f.1).x ∧ SameMemory f.1 t.dev
        ∧ (core c t.dev).pc = ((core c f.1).pc + 4) % 2 ^ 64)

/-! ## Servo fields, seeks and loss of feedback (R57 to R62, R71, R124, R125, R139 to R146, R416) -/

/-- A servo field (R59, R61, R62, R124, R125): with its SAM found and a good index, WEDGE and TRACK are the index's and the runs of
missing fields and bad indexes end; a missing SAM counts one more missing field and one more wedge, and the predicted position
stands. A rejected lane measurement bridges on frequency and is counted. Parked arms read nothing. -/
def Obligations.ServoFields : Prop :=
  ∀ (s : State) (n : ArmId) (w : WedgeIn), running s →
    let found := w.sam && ((ldrUse n s.dev && !w.ldrFail) || trrUse n s.dev)
    (servoOn n s.dev = false → exec (.wedgeBoundary n w) s = .next s)
    ∧ (servoOn n s.dev = true → unloaded n s.dev = false →
      (found = true → indexOk w.index = true → Answers (.wedgeBoundary n w) s (fun t =>
          rd (SRV_STAT_WEDGE n) t.dev = indexWedge w.index
            ∧ rd (SRV_TRACK_TRACK n) t.dev = indexTrack w.index % 2 ^ (SRV_TRACK_TRACK n).w
            ∧ rd (SRV_TRACK_PRED n) t.dev = 0 ∧ rd (SRV_MISS_CONSEC n) t.dev = 0 ∧ rd (SRV_MISS_IDXRUN n) t.dev = 0))
      ∧ (found = false → Answers (.wedgeBoundary n w) s (fun t =>
          rd (SRV_STAT_WEDGE n) t.dev = (rd (SRV_STAT_WEDGE n) s.dev + 1) % 720
            ∧ rd (SRV_MISS_CONSEC n) t.dev = min 8 (rd (SRV_MISS_CONSEC n) s.dev + 1) ∧ (arm n t.dev).pos = w.pred
            ∧ rd (ARM_LSSTAT_HOLD n) t.dev = 1 ∧ rd (ARM_LSSTAT_REJ n) t.dev = min 0xFF (rd (ARM_LSSTAT_REJ n) s.dev + 1)
            ∧ servo n t.dev = servo n s.dev))
      ∧ (laneOk n found w s.dev = true → Answers (.wedgeBoundary n w) s (fun t =>
          rd (ARM_LSSTAT_HOLD n) t.dev = 0 ∧ rd (ARM_LSSTAT_REJ n) t.dev = 0 ∧ (arm n t.dev).period = w.period
            ∧ SameMemory s.dev t.dev)))

/-- The lane synthesiser and band tables (R61, R62, R67, R71): after two rejections in a row the synthesiser unlocks and writing is inhibited from
the next sector boundary; after two accepted measurements it locks, and the inhibit of an unlock lifts at the next sector
boundary. With the heads loaded a band-table load waits for them to be unloaded; with the heads unloaded the table is
read and replaced whole, and an entry is usable only if its tracks are in order, its rates meet the channel's limit at the
highest enabled step, and no usable entry of its head overlaps it. -/
def Obligations.SynthesiserAndBandTables : Prop :=
  (∀ (s : State) (n : ArmId), running s → unloaded n s.dev = false →
      (rd (ARM_LSSTAT_LOCK n) s.dev = 1 → 2 ≤ rd (ARM_LSSTAT_REJ n) s.dev → Answers (.synthUnlock n) s (fun t =>
          rd (ARM_LSSTAT_LOCK n) t.dev = 0 ∧ (arm n t.dev).inhNext.testBit 0 = true ∧ (arm n t.dev).unlocked = true
            ∧ SameMemory s.dev t.dev ∧ SamePower s.dev t.dev ∧ t.dev.hands = s.dev.hands))
      ∧ (rd (ARM_LSSTAT_LOCK n) s.dev = 0 → 2 ≤ (arm n s.dev).accRun → Answers (.synthRelock n) s (fun t =>
          rd (ARM_LSSTAT_LOCK n) t.dev = 1 ∧ (arm n t.dev).unlocked = false
            ∧ ((arm n s.dev).unlocked = true → (arm n t.dev).liftNext.testBit 0 = true)
            ∧ ((arm n s.dev).unlocked = false → OnlyFields [ARM_LSSTAT_LOCK n] { s.dev with arms := t.dev.arms } t.dev)
            ∧ SameMemory s.dev t.dev ∧ SamePower s.dev t.dev ∧ t.dev.hands = s.dev.hands)))
  ∧ (∀ (s : State) (n : ArmId), running s → reach (pgArm n) s.dev = true →
      (unloaded n s.dev = false → Answers (.bandTableLoadRequest n) s (fun t =>
          rd (ARM_FMTCTL_PEND n) t.dev = 1 ∧ rd (ARM_FMTCTL_LOAD n) t.dev = 1
            ∧ OnlyFields [ARM_FMTCTL_PEND n, ARM_FMTCTL_LOAD n] s.dev t.dev))
      ∧ (unloaded n s.dev = true → Answers (.bandTableLoadRequest n) s (fun t =>
          rd (ARM_FMTCTL_PEND n) t.dev = 0 ∧ rd (ARM_FMTCTL_LOAD n) t.dev = 0 ∧ rd (ARM_FMTCTL_VALID n) t.dev = 1
            ∧ (∀ b ∈ (arm n t.dev).bands, b.usable = true → b.first ≤ b.last ∧ b.spt ≠ 0
                ∧ b.bpw16 * 16 * 12 * stepRpm (rd SPN_STEPLIM_MAX s.dev) ≤ 6400000000)
            ∧ (∀ b ∈ (arm n t.dev).bands, ∀ c ∈ (arm n t.dev).bands, b.usable = true → c.usable = true → b.head = c.head →
                b.idx ≠ c.idx → b.last < c.first ∨ c.last < b.first))))

/-- The seek interface (R139, R142, R149): firmware holds it once the hand has ended its present operation; an order without
ownership or that the engine refuses sets REFUSED and moves nothing; a seek to another head starts at once. -/
def Obligations.SeekInterface : Prop :=
  ∀ (s : State) (n : ArmId) (v : Nat), running s → reach (pgSrv n) s.dev = true →
    (bitOf v 25 = true → isSet (SRV_CTL_OWNED n) s.dev = false ∨ seekRefused n (bits v 22 3) s.dev = true →
      Answers (.seekOrder n v) s (fun t => rd (SRV_SEEK_REFUSED n) t.dev = 1 ∧ servo n t.dev = servo n s.dev
        ∧ (arm n t.dev).tgtTrack = (arm n s.dev).tgtTrack ∧ t.dev.hands = s.dev.hands))
    ∧ (bitOf v 25 = true → isSet (SRV_CTL_OWNED n) s.dev = true → seekRefused n (bits v 22 3) s.dev = false →
        bits v 22 3 ≠ selHead n s.dev →
        Answers (.seekOrder n v) s (fun t => servo n t.dev = svSeek ∧ selHead n t.dev = bits v 22 3
          ∧ (arm n t.dev).tgtTrack = bits v 0 22 ∧ (arm n t.dev).fwSeek = true ∧ rd (SRV_STAT_RDOK n) t.dev = 0
          ∧ rd (SRV_STAT_WROK n) t.dev = 0 ∧ rd (ALK_STAT_WG n) t.dev = 0))
    ∧ (bitOf v 0 = true → Answers (.seekOwnershipRequest n v) s (fun t => rd (SRV_CTL_FWOWN n) t.dev = 1
        ∧ rd (SRV_CTL_OWNED n) t.dev = (if handBusy n s.dev then rd (SRV_CTL_OWNED n) s.dev else 1)))
    ∧ (bitOf v 0 = false → (arm n s.dev).fwSeek = false → Answers (.seekOwnershipRequest n v) s (fun t =>
        rd (SRV_CTL_FWOWN n) t.dev = 0 ∧ rd (SRV_CTL_OWNED n) t.dev = 0))
    ∧ (isSet (SRV_CTL_FWOWN n) s.dev = true → isSet (SRV_CTL_OWNED n) s.dev = false → operationOver n s.dev = true →
        Answers (.seekInterfaceHandover n) s (fun t => rd (SRV_CTL_OWNED n) t.dev = 1 ∧ (∀ w ∈ hand n t.dev, w.started = false)
          ∧ (hand n t.dev).length = (hand n s.dev).length ∧ t.dev.arms = s.dev.arms))

/-- Settling (R142, R416): enough wedges inside the read window end the seek in track-following; enough inside the write window
allow writing again, once the set-point has arrived; a settle that has taken CTL_SETTLE.TMO ends in hold, a head load that has
found no SAM in that time in a retract; neither happens earlier. -/
def Obligations.Settling : Prop :=
  ∀ (s : State) (n : ArmId), running s →
    let late := (arm n s.dev).moveAt + rd (CTL_SETTLE_TMO n) s.dev * auxPerMs ≤ s.dev.time
    (servo n s.dev = svSettle → rd (CTL_SETTLE_RDN n) s.dev ≤ (arm n s.dev).rdRun → Answers (.armSettled n) s (fun t =>
        servo n t.dev = svFollow ∧ rd (SRV_STAT_RDOK n) t.dev = 1 ∧ (arm n t.dev).loading = false ∧ (arm n t.dev).fwSeek = false))
    ∧ (servo n s.dev = svFollow → rd (CTL_SETTLE_WRN n) s.dev ≤ (arm n s.dev).wrRun → arrived n s.dev = true → Answers (.armSettled n) s (fun t =>
        rd (SRV_STAT_WROK n) t.dev = 1 ∧ rd (CTL_SUPSTAT_FE n) t.dev = 0 ∧ (rd (WRP_WISTAT_SRC n) t.dev).testBit 1 = false
          ∧ (rd (WRP_WISTAT_SRC n) t.dev).testBit 10 = false ∧ servo n t.dev = svFollow))
    ∧ (¬ late → exec (.settleTimeout n) s = .next s ∧ exec (.headLoadTimeout n) s = .next s)
    ∧ (servo n s.dev = svSettle → rd (SRV_STAT_RDOK n) s.dev = 0 → late → Answers (.settleTimeout n) s (fun t =>
        servo n t.dev = svHold ∧ (arm n t.dev).m = 0 ∧ (arm n t.dev).fwSeek = false
          ∧ ((arm n s.dev).fwSeek = true → rd (SRV_SEEK_REFUSED n) t.dev = 1)))
    ∧ (fitted (.arm n) s.dev = true → (arm n s.dev).loading = true → (arm n s.dev).samSeen = false → servoOn n s.dev = true → late →
        Answers (.headLoadTimeout n) s (fun t => servo n t.dev = svRetract ∧ (arm n t.dev).loading = false
          ∧ ((arm n s.dev).fwSeek = true → rd (SRV_SEEK_REFUSED n) t.dev = 1)))

/-- Loss of feedback (R143, R146): hold after two missing SAMs or four bad indexes, track-following again after four good samples,
a retract after eight, sixteen, or sixteen equal burst sums; a following error beyond its limit inhibits writing at once. -/
def Obligations.FeedbackLoss : Prop :=
  ∀ (s : State) (n : ArmId), running s → fitted (.arm n) s.dev = true → unloaded n s.dev = false →
    (servo n s.dev = svSeek ∨ servo n s.dev = svSettle ∨ servo n s.dev = svFollow →
      2 ≤ rd (SRV_MISS_CONSEC n) s.dev ∨ 4 ≤ rd (SRV_MISS_IDXRUN n) s.dev →
      Answers (.holdEntry n) s (fun t => servo n t.dev = svHold ∧ (arm n t.dev).m = 0 ∧ rd (SRV_STAT_WROK n) t.dev = 0
        ∧ (rd (WRP_WISTAT_SRC n) t.dev).testBit 1 = true))
    ∧ (servo n s.dev = svHold → 4 ≤ (arm n s.dev).validRun → Answers (.holdExit n) s (fun t => servo n t.dev = svFollow
        ∧ (arm n t.dev).sp = (arm n s.dev).pos / q1 * q1 ∧ (arm n t.dev).hist = (arm n s.dev).hist ∧ SameMemory s.dev t.dev))
    ∧ (8 ≤ rd (SRV_MISS_CONSEC n) s.dev ∨ 16 ≤ rd (SRV_MISS_IDXRUN n) s.dev → servoOn n s.dev = true →
        Answers (.feedbackLossRetract n) s (fun t => servo n t.dev = svRetract ∧ (arm n t.dev).m = 0 ∧ (arm n t.dev).drive = 0
          ∧ (rd (WRP_WISTAT_SRC n) t.dev).testBit 10 = true ∧ rd (ALK_STAT_WG n) t.dev = 0))
    ∧ (16 ≤ rd (SRV_RAW_SAME n) s.dev → servoOn n s.dev = true →
        Answers (.frozenFeedbackRetract n) s (fun t => servo n t.dev = svRetract
          ∧ (rd (WRP_WISTAT_SRC n) t.dev).testBit 10 = true))
    ∧ (servo n s.dev = svFollow → rd (CTL_FETIME_FETIME n) s.dev < (arm n s.dev).feRun → rd (CTL_SUPSTAT_FE n) s.dev = 0 →
        Answers (.followingErrorInhibit n) s (fun t => rd (CTL_SUPSTAT_FE n) t.dev = 1 ∧ rd (SRV_STAT_WROK n) t.dev = 0
          ∧ (rd (WRP_WISTAT_SRC n) t.dev).testBit 1 = true ∧ servo n t.dev = svFollow))

/-! ## Coefficient tables, the loops and the current link (R126 to R138, R144, R145, R151, R172, R173) -/

/-- Table staging (R131, R132): selecting a table brings its 64 words into the staging buffer (an arm has no feedforward table for
itself, so that selection leaves BANK as it is); a data access reaches the word at the
pointer, which wraps; a commit refuses a table whose check fails or whose cost exceeds the budget and installs the other kind,
at once while the heads are unloaded. -/
def Obligations.CoefficientTables : Prop :=
  ∀ (s : State) (n : ArmId) (v : Nat), running s → reach (pgCtl n) s.dev = true →
    (bits v 0 2 = 3 → bits v 2 3 = n.val → Answers (.tableSelect n v) s (fun t =>
        rd (CTL_TBLSEL_BANK n) t.dev = rd (CTL_TBLSEL_BANK n) s.dev ∧ rd (CTL_TBLCTL_PTR n) t.dev = 0))
    ∧ (bits v 2 3 ≤ (if bits v 0 2 = 3 then 3 else 4) → ¬ (bits v 0 2 = 3 ∧ bits v 2 3 = n.val) → Answers (.tableSelect n v) s (fun t =>
        rd (CTL_TBLCTL_PTR n) t.dev = 0 ∧ (arm n t.dev).tables = (arm n s.dev).tables
          ∧ ∀ j, j < 64 → (arm n t.dev).stage.getD j 0 = tblWord (arm n s.dev) (tblNo (bits v 0 2) (bits v 2 3)) j))
    ∧ Answers (.tableDataAccess n none) s (fun t =>
        t.dev.rdata = (arm n s.dev).stage.getD (rd (CTL_TBLCTL_PTR n) s.dev) 0
          ∧ rd (CTL_TBLCTL_PTR n) t.dev = (rd (CTL_TBLCTL_PTR n) s.dev + 1) % 64 ∧ t.dev.arms = s.dev.arms)
    ∧ Answers (.tableDataAccess n (some v)) s (fun t =>
        (arm n t.dev).stage = (arm n s.dev).stage.set (rd (CTL_TBLCTL_PTR n) s.dev) (v % 2 ^ 32)
          ∧ rd (CTL_TBLCTL_PTR n) t.dev = (rd (CTL_TBLCTL_PTR n) s.dev + 1) % 64
          ∧ (arm n t.dev).tables = (arm n s.dev).tables)
    ∧ (tableBad n s.dev = 1 → Answers (.tableCommit n 1) s (fun t => rd (CTL_TBLCTL_BAD n) t.dev = 1 ∧ t.dev.arms = s.dev.arms))
    ∧ (tableBad n s.dev = 2 → Answers (.tableCommit n 1) s (fun t => rd (CTL_TBLCTL_OVER n) t.dev = 1 ∧ t.dev.arms = s.dev.arms))
    ∧ (tableBad n s.dev = 0 →
        let k := tblNo (rd (CTL_TBLSEL_LOOP n) s.dev) (rd (CTL_TBLSEL_BANK n) s.dev)
        (unloaded n s.dev = false → Answers (.tableCommit n 1) s (fun t => rd (CTL_TBLCTL_PEND n) t.dev = 1
            ∧ (arm n t.dev).tblPend = some (k, (arm n s.dev).stage) ∧ (arm n t.dev).tables = (arm n s.dev).tables))
        ∧ (unloaded n s.dev = true → Answers (.tableCommit n 1) s (fun t => rd (CTL_TBLCTL_PEND n) t.dev = 0
            ∧ (arm n t.dev).tblPend = none
            ∧ (∀ j, j < (arm n s.dev).stage.length → tblWord (arm n t.dev) k j = (arm n s.dev).stage.getD j 0)
            ∧ (k < 15 → (rd (CTL_TBLCTL_VALID n) t.dev).testBit k = true))))

/-- The reaction bus (R137, R138): a sample reaches the destination arm with its wedge tag while both links are up (an idle arm's is 0
and counts for the wedge its receiver is in, the model's choice, notes/assumptions/126); a retracting arm sends none; a source with four missing
samples is dropped, one with sixteen in a row is taken in again. -/
def Obligations.ReactionBus : Prop :=
  ∀ (s : State) (n src : ArmId), running s → src ≠ n →
    let f := Store.get FfSrc.reset src.val (arm n s.dev).src
    (dieUp (.arm src) s.dev = true → dieUp (.arm n) s.dev = true → servo src s.dev ≠ svRetract →
      Answers (.reactionBusSample src n) s (fun t =>
        (Store.get FfSrc.reset src.val (arm n t.dev).src).got.head?
            = some (if (arm src s.dev).pubIdle then (rd (SRV_STAT_WEDGE n) s.dev, 0) else ((arm src s.dev).pubWedge, (arm src s.dev).pub))
          ∧ t.dev = { s.dev with arms := t.dev.arms } ∧ ∀ k, k ≠ n.val → arm k t.dev = arm k s.dev))
    ∧ (dieUp (.arm src) s.dev = false ∨ dieUp (.arm n) s.dev = false ∨ servo src s.dev = svRetract → exec (.reactionBusSample src n) s = .next s)
    ∧ (f.dropped = false → 4 ≤ f.missRun → (ffSources n s.dev).contains src.val = true → Answers (.ffSourceDrop n src) s (fun t =>
        (Store.get FfSrc.reset src.val (arm n t.dev).src).dropped = true
          ∧ (rd (CTL_FFCTL_ACTIVE n) t.dev).testBit src = false ∧ SameMemory s.dev t.dev ∧ SamePower s.dev t.dev))
    ∧ (f.dropped = true → 16 ≤ f.gotRun → (ffSources n s.dev).contains src.val = true → Answers (.ffSourceRestore n src) s (fun t =>
        (Store.get FfSrc.reset src.val (arm n t.dev).src).dropped = false
          ∧ (rd (CTL_FFCTL_ACTIVE n) t.dev).testBit src = true ∧ SameMemory s.dev t.dev ∧ SamePower s.dev t.dev))

/-- L0 (R126, R127, R144): while the loops run each quarter point uses up the current sample, counts a missing one, and keeps the
drive inside the limits of the installed table. While they do not run nothing changes. -/
def Obligations.LoopSample : Prop :=
  ∀ (s : State) (n : ArmId) (q : Fin 4) (io : LoopIn), running s →
    (servoOn n s.dev = false ∨ unloaded n s.dev = true → exec (.l0Sample n q io) s = .next s)
    ∧ (servoOn n s.dev = true → unloaded n s.dev = false → Answers (.l0Sample n q io) s (fun t =>
        (arm n t.dev).meas = none ∧ (arm n t.dev).missCur = (if (arm n s.dev).meas.isSome then 0 else (arm n s.dev).missCur + 1)
          ∧ (coef (arm n t.dev) 0 43 ≤ coef (arm n t.dev) 0 44 →
              coef (arm n t.dev) 0 43 ≤ (arm n t.dev).drive ∧ (arm n t.dev).drive ≤ coef (arm n t.dev) 0 44)
          ∧ (arm n t.dev).tables = (arm n s.dev).tables
          ∧ ∀ k, k ≠ n.val → arm k t.dev = arm k s.dev))

/-- The current link and captures (R145, R151, R171 to R173, R18): samples reach the arm and commands the bridge while both links are up; two missing
commands of a driven bridge retract its arm, by the power die alone while the arm's link is down; a current fault turns the
bridge off, retracts, inhibits writing and latches CLF. GO starts a capture unless one runs, which samples at once or from the next
injection and is done when CAPLEN samples are written. -/
def Obligations.CurrentLinkAndCaptures : Prop :=
  ∀ (s : State) (n : ArmId), running s →
    (∀ i slew, dieUp .power s.dev = true → dieUp (.arm n) s.dev = true → Answers (.currentSample n i slew) s (fun t =>
        (arm n t.dev).meas = some (signed 16 (toField 16 i)) ∧ (arm n t.dev).maFlag = (slew || maCannot n s.dev)
          ∧ rd (VCM_STAT_IMEAS n) t.dev = toField (VCM_STAT_IMEAS n).w i % 2 ^ (VCM_STAT_IMEAS n).w
          ∧ SameMemory s.dev t.dev ∧ t.dev.pwr = s.dev.pwr))
    ∧ (dieUp .power s.dev = true → dieUp (.arm n) s.dev = true → rd (VCM_STAT_STATE n) s.dev ≠ 2 → rd (VCM_STAT_STATE n) s.dev ≠ 4 →
        isSet (VCM_CFG_EN n) s.dev = true → servoOn n s.dev = true → isSet BRK_STAT_DISC s.dev = false →
        s.dev.pwr.noRetract.testBit n = false →
        Answers (.vcmCurrentCommand n) s (fun t => rd (VCM_STAT_STATE n) t.dev = 1
          ∧ Store.get 0 n.val t.dev.pwr.drives = (arm n s.dev).drive ∧ Store.get 0 n.val t.dev.pwr.miss = 0
          ∧ (s.dev.pwr.maHeld.testBit n = true → Store.get 0 n.val t.dev.pwr.maCmd = 0)
          ∧ (isSet VCM_PUMP_OK s.dev = true → maCannot n s.dev = false → Store.get 0 n.val t.dev.pwr.maCmd = (arm n s.dev).m)
          ∧ t.dev.arms = s.dev.arms))
    ∧ (fitted (.arm n) s.dev = true → rd (VCM_STAT_STATE n) s.dev = 1 → s.dev.pwr.noRetract.testBit n = false →
        dieUp .power s.dev = true → Answers (.missedCurrentCommands n) s (fun t => rd (VCM_STAT_STATE n) t.dev = 2
          ∧ (rd BRK_RETCTL_BUSY t.dev).testBit n = true ∧ t.dev.pwr.retFull.testBit n = true
          ∧ (dieUp (.arm n) s.dev = true → servo n t.dev = svRetract)
          ∧ (dieUp (.arm n) s.dev = false → t.dev.arms = s.dev.arms)))
    ∧ (rd (VCM_STAT_STATE n) s.dev ≠ 1 → exec (.missedCurrentCommands n) s = .next s)
    ∧ (fitted (.arm n) s.dev = true → servoOn n s.dev = true → 4 ≤ rd (CTL_SUPSTAT_L0RUN n) s.dev ∨ 2 ≤ (arm n s.dev).missCur →
        Answers (.currentLoopFault n) s (fun t => rd (CTL_SUPSTAT_CLF n) t.dev = 1 ∧ servo n t.dev = svRetract
          ∧ (rd (WRP_WISTAT_SRC n) t.dev).testBit 1 = true ∧ (rd (WRP_WISTAT_SRC n) t.dev).testBit 10 = true
          ∧ rd (ALK_STAT_WG n) t.dev = 0))
    ∧ (∀ v, reach (pgCtl n) s.dev = true →
        (bitOf v 0 = true → rd (CTL_CAPCTL_BUSY n) s.dev = 0 → Answers (.captureStart n v) s (fun t =>
            rd (CTL_CAPCTL_BUSY n) t.dev = 1 ∧ rd (CTL_CAPSTAT_WRITTEN n) t.dev = 0 ∧ (arm n t.dev).capOn = !bitOf v 7
              ∧ rd (CTL_CAPCTL_NSIG n) t.dev = bits v 5 2 ∧ (page (pgCtl n) t.dev).busy = true ∧ SameMemory s.dev t.dev))
        ∧ (rd (CTL_CAPCTL_BUSY n) s.dev = 1 → rd (CTL_CAPLEN_LEN n) s.dev ≤ rd (CTL_CAPSTAT_WRITTEN n) s.dev →
            Answers (.captureDone n) s (fun t => rd (CTL_CAPCTL_BUSY n) t.dev = 0 ∧ rd (CTL_CAPCTL_DONE n) t.dev = 1
              ∧ (arm n t.dev).capOn = false ∧ (page (pgCtl n) t.dev).busy = false ∧ SameMemory s.dev t.dev)))

/-! ## Read channel and recovery (R68, R71, R80 to R93, R103) -/

/-- Sectors and the retry ladder (R68, R73, R80, R89 to R93): the samples of a sector with one detection in the window go into the sample
buffer, to be decoded there; a decode that meets R80 delivers it, and it leaves the buffer or the ladder; nothing is read before the
arm is read-settled, and no attempt ends at a rung that makes none or while none is under way; a read whose deadline passes before
its seek has succeeded ends with Unrecovered Read Error. -/
def Obligations.SectorDecodes : Prop :=
  ∀ (s : State) (n : ArmId) (w : Work), running s →
    (∀ io, readingWork n s.dev = some w → isSet (SRV_STAT_RDOK n) s.dev = false → exec (.sectorRead n io) s = .next s)
    ∧ (∀ io (o : Int), readingWork n s.dev = some w → isSet (SRV_STAT_RDOK n) s.dev = true → (arm n s.dev).flights = [] →
        hasChannel n s.dev = true → rd (TST_FRCCNT_LEFT n) s.dev = 0 → isForced n (w.id, nextSec w) s.dev = false →
        io.syncs = [o] → o.natAbs ≤ rd (RCH_SYNCWIN_WIN n) s.dev → -2 ≤ o → o ≤ 2 →
        Answers (.sectorRead n io) s (fun t => (arm n t.dev).flights.map (fun f => (f.work, f.sec, f.ch, f.l, f.t, f.cands, f.ended))
            = [(w.id, nextSec w, servePage n s.dev, io.l, io.t, [o], false)]
          ∧ SameMemory s.dev t.dev ∧ SamePower s.dev t.dev))
    ∧ (∀ x f, (arm n s.dev).flights = [f] → f.ended = false → x.index = 0 → f.cands = [x.offset] → f.best = none →
        work n f.work s.dev = some w → forcedAt n 0 (w.id, f.sec) s.dev = false → x.fault = false → x.flips = [] →
        x.shadowFault = false →
        let r := channelDecode n f.ch f.set f.rdrs f.split x.offset f.l f.t (rd (RCH_RUNG_PARAM n 0) s.dev) s.dev
        r.2.1 = true → tagFits w f.sec (tagOf ((r.1.drop 4096).take 16)) = true →
        Answers (.sectorDecodeDone n x) s (fun t => (arm n t.dev).flights = [] ∧ (arm n t.dev).ladder = (arm n s.dev).ladder))
    ∧ (∀ x l (o : Int), (arm n s.dev).ladder = [l] → work n l.work s.dev = some w → 1 ≤ l.rung → l.rung < 10 →
        ladActive n s.dev = true → forcedAt n l.rung (w.id, l.sec) s.dev = false → x.io.syncs = [o] →
        o.natAbs ≤ attemptWindow n l.rung s.dev → -2 ≤ o → o ≤ 2 → x.fault = false → x.flips = [] →
        let c := servePage n s.dev
        let q := attemptSamples n l.rung x s.dev
        let r := channelDecode n c (attemptSet n c l.rung s.dev) (attemptReaders n l s.dev) (splitAt n w l.sec s.dev) o q.1 q.2
          (attemptLimit n l.rung s.dev) s.dev
        r.2.1 = true → tagFits w l.sec (tagOf ((r.1.drop 4096).take 16)) = true →
        Answers (.ladderAttemptDone n [x]) s (fun t => (arm n t.dev).ladder = [] ∧ rd (RCH_LADSTAT_ACTIVE n) t.dev = 0
          ∧ (arm n t.dev).ladOfs = 0))
    ∧ (∀ l ls xs, (arm n s.dev).ladder = l :: ls → l.rung = 0 ∨ 10 ≤ l.rung ∨ ladActive n s.dev = false →
        exec (.ladderAttemptDone n xs) s = .next s)
    ∧ (∀ i, (arm n s.dev).ladder = [] →
        (hand n s.dev).find? (fun v => v.kind == .hostRead && v.deadline != 0 && decide (v.deadline ≤ s.dev.time)
          && notReading n v s.dev) = some w → w.ctx = some i → w.done < w.len → Answers (.readDeadlineExpiry n) s (fun t =>
          ∀ y, ctx i t.dev = some y → y.stage = .posting ∧ y.status = stUnrec))

/-- Parameter sets (R81, R83, R87): a selection brings the set into the staging buffer, an access reaches the word at the pointer,
which wraps; a commit with a bad CRC is refused, one of a set in use waits for a sector boundary, any other is installed at
once; the joker takes channel A's sets as they stood, unless it is live. -/
def Obligations.ParameterSets : Prop :=
  ∀ (s : State) (n : ArmId) (ch : Chan) (v : Nat), running s → reach (pgRch n (chanNo ch)) s.dev = true →
    let c := chanNo ch
    let key := setKey (rd (RCH_SETSEL_VARIANT n c) s.dev) (rd (RCH_SETSEL_SLOT n c) s.dev)
    let ptr := rd (RCH_SETCTL_PTR n c) s.dev
    ((RCH_SETSEL_VARIANT n c).allows (bits v 6 2) = true → Answers (.setSelect n ch v) s (fun t =>
        stageOf n c t.dev = Store.gets (fun _ => 0) (setKey (bits v 6 2) (bits v 0 6)) 64 (setMem n c s.dev)
          ∧ rd (RCH_SETCTL_PTR n c) t.dev = 0 ∧ setMem n c t.dev = setMem n c s.dev))
    ∧ Answers (.setDataAccess n ch none) s (fun t => t.dev.rdata = (stageOf n c s.dev).getD ptr 0
        ∧ rd (RCH_SETCTL_PTR n c) t.dev = (ptr + 1) % 64 ∧ t.dev.arms = s.dev.arms)
    ∧ Answers (.setDataAccess n ch (some v)) s (fun t => stageOf n c t.dev = (stageOf n c s.dev).set ptr (v % 2 ^ 32)
        ∧ rd (RCH_SETCTL_PTR n c) t.dev = (ptr + 1) % 64 ∧ setMem n c t.dev = setMem n c s.dev)
    ∧ (crc32c (wordBytes ((stageOf n c s.dev).take 63)) ≠ (stageOf n c s.dev).getD 63 0 →
        Answers (.setCommit n ch) s (fun t => rd (RCH_SETCTL_BAD n c) t.dev = 1 ∧ t.dev.arms = s.dev.arms))
    ∧ (crc32c (wordBytes ((stageOf n c s.dev).take 63)) = (stageOf n c s.dev).getD 63 0 →
        (setInUse n c key s.dev = true → Answers (.setCommit n ch) s (fun t => rd (RCH_SETCTL_PEND n c) t.dev = 1
            ∧ setMem n c t.dev = setMem n c s.dev))
        ∧ (setInUse n c key s.dev = false → Answers (.setCommit n ch) s (fun t =>
            ∀ j, j < (stageOf n c s.dev).length → Store.get 0 (key + j) (setMem n c t.dev) = (stageOf n c s.dev).getD j 0)))
    ∧ (ch = .joker → chMode n 1 s.dev ≠ chLive → Answers (.setCopy n) s (fun t => rd (RCH_SETCTL_COPYBUSY n 1) t.dev = 1
        ∧ (arm n t.dev).copySrc = some (arm n s.dev).sets ∧ setMem n 1 t.dev = setMem n 1 s.dev))
    ∧ (ch = .joker → chMode n 1 s.dev = chLive → exec (.setCopy n) s = .next s)
    ∧ (∀ m, (arm n s.dev).copySrc = some m → Answers (.setCopyDone n) s (fun t => rd (RCH_SETCTL_COPYBUSY n 1) t.dev = 0
        ∧ setMem n 1 t.dev = m ∧ (arm n t.dev).copySrc = none ∧ (arm n t.dev).sets = (arm n s.dev).sets))

/-- Channel roles and sector boundaries (R84 to R86, R103, R109): channel A that passes its self-test takes over, a joker beside a
serving channel returns to rest, a failed self-test that promotes its class fails the channel. At a sector boundary the channel
that was to take over is live, waiting inhibits are in force, and the sector just written awaits its read-after-write. -/
def Obligations.ChannelRolesAndBoundaries : Prop :=
  ∀ (s : State) (n : ArmId), running s →
    (chMode n 0 s.dev = chSelftest → Answers (.selftestDone n .a true) s (fun t => (arm n t.dev).takeover = some 0
        ∧ t.dev = { s.dev with arms := t.dev.arms }))
    ∧ (chMode n 1 s.dev = chSelftest → (serveCh n s.dev).isSome = true → Answers (.selftestDone n .joker true) s (fun t =>
        chMode n 1 t.dev = restMode n s.dev ∧ t.dev.arms = s.dev.arms))
    ∧ (∀ ch, chMode n (chanNo ch) s.dev = chSelftest → promotes (pgRch n (chanNo ch)) s.dev = true →
        Answers (.selftestDone n ch false) s (fun t => chMode n (chanNo ch) t.dev = chFailed))
    ∧ (∀ ch, chMode n (chanNo ch) s.dev = chSelftest → promotes (pgRch n (chanNo ch)) s.dev = false →
        Answers (.selftestDone n ch false) s (fun t => OnlyFieldsAndEvents [] s.dev t.dev
          ∧ (page (pgRch n (chanNo ch)) t.dev).total = min 0xFFFF ((page (pgRch n (chanNo ch)) s.dev).total + 1)))
    ∧ (∀ ch pass, chMode n (chanNo ch) s.dev ≠ chSelftest → exec (.selftestDone n ch pass) s = .next s)
    ∧ Answers (.sectorBoundary n) s (fun t =>
        (∀ k, k < 11 → (arm n s.dev).inhNext.testBit k = true → (arm n s.dev).liftNext.testBit k = false →
            (rd (WRP_WISTAT_SRC n) t.dev).testBit k = true)
          ∧ (∀ r, (arm n s.dev).wsec = some r → ∃ x ∈ (arm n t.dev).raws, x.work = r.work ∧ x.sec = r.sec)
          ∧ (∀ c : Fin 2, (arm n s.dev).takeover = some c.val → calRun n 0 s.dev = none →
              isSet (RCH_SETCTL_COPYBUSY n 1) s.dev = false → chMode n c t.dev = chLive))
    ∧ (∀ pt, unloaded n s.dev = false → isSet (ARM_FMTCTL_PEND n) s.dev = true → (arm n s.dev).burst = none →
        isSet (ALK_STAT_WG n) s.dev = false → (∀ q : Fin 4, calRun n q s.dev = none) →
        Answers (.revolutionIndex n pt) s (fun t => rd (ARM_FMTCTL_PEND n) t.dev = 0 ∧ rd (ARM_FMTCTL_VALID n) t.dev = 1))

/-! ## Hands, the write path and the arm link (R97 to R123, R254) -/

/-- Hands and bursts (R100, R101, R103, R104, R254): a stopped hand dispatches nothing; the item it picks starts and its track becomes the
seek's target; a write-settled arm in WRITE mode, with the burst's mode frames done for 1 µs, a confirmed assist type and no inhibit but
the watchdog's or a fault's of this head, raises write gate, and those inhibits lift with it; an assist type that is not confirmed
inhibits writing; firmware's inhibit takes effect, and lifts, at a sector boundary. -/
def Obligations.HandsAndBursts : Prop :=
  ∀ (s : State) (n : ArmId) (w : Work), running s →
    (isSet PWS_PSSTAT_BUSY s.dev = false → isSet (CMD_HAND_STOP n) s.dev = true →
      (hand n s.dev).any (fun v => v.kind == .scanRead && v.started) = false → exec (.handDispatch n []) s = .next s)
    ∧ (isSet PWS_PSSTAT_BUSY s.dev = false → isSet (CMD_HAND_STOP n) s.dev = false → isSet (SRV_CTL_FWOWN n) s.dev = false →
        isSet (SRV_CTL_OWNED n) s.dev = false → servo n s.dev ≠ svHold → servo n s.dev ≠ svRetract →
        (∀ v ∈ hand n s.dev, v.started = false ∧ (v.kind = .hostRead →
          (bandOf n (workPlace n v s.dev).1 (workPlace n v s.dev).2 s.dev).isSome = true)) →
        pick n [] ((hand n s.dev).filter (fun v => !v.started && mayDispatch n v s.dev)) s.dev = some w →
        seekRefused n (workPlace n w s.dev).1 s.dev = false →
        Answers (.handDispatch n []) s (fun t => (arm n t.dev).tgtHead = (workPlace n w s.dev).1
          ∧ (arm n t.dev).tgtTrack = (workPlace n w s.dev).2 ∧ (arm n t.dev).fwSeek = false
          ∧ (hand n t.dev).any (fun v => v.id == w.id && v.started) = true
          ∧ (hand n t.dev).map Work.id = (hand n s.dev).map Work.id ∧ t.dev.sup.actAt = some s.dev.time))
    ∧ (writingWork n s.dev = some w → isSet (SRV_STAT_WROK n) s.dev = true → (arm n s.dev).burst = none →
        isSet (ALK_CFG_PRESENT n) s.dev = true → trackWaits n (burstPlace n w s.dev).2.1 s.dev = false →
        (assistOk n s.dev = true → framesOpen n s.dev = false →
          (arm n s.dev).framed = some (slotAt n (burstPlace n w s.dev).1 (burstPlace n w s.dev).2.1 s.dev) →
          rd (ALK_STAT_MODE n) s.dev = 2 → (arm n s.dev).frameAt + 125 ≤ s.dev.time →
          isSet (ALK_STAT_FLT n) s.dev = false → (arm n s.dev).fltBits ≤ 1 → selHead n s.dev = (burstPlace n w s.dev).1 →
          rd (WRP_WISTAT_SRC n) s.dev = 0 ∨ rd (WRP_WISTAT_SRC n) s.dev = 4 ∨ rd (WRP_WISTAT_SRC n) s.dev = 8
            ∨ rd (WRP_WISTAT_SRC n) s.dev = 12 →
          Answers (.writeBurstStart n) s (fun t => (arm n t.dev).burst = some w.id ∧ rd (ALK_STAT_WG n) t.dev = 1
            ∧ rd (WRP_WISTAT_SRC n) t.dev = 0 ∧ SameMemory s.dev t.dev ∧ t.dev.hands = s.dev.hands))
        ∧ (assistOk n s.dev = false → Answers (.writeBurstStart n) s (fun t => (arm n t.dev).burst = none
            ∧ (rd (WRP_WISTAT_SRC n) t.dev).testBit 6 = true ∧ rd (ALK_STAT_WG n) t.dev = 0)))
    ∧ (writingWork n s.dev = some w → isSet (SRV_STAT_WROK n) s.dev = false → exec (.writeBurstStart n) s = .next s)
    ∧ (∀ v, reach (pgWrp n) s.dev = true → Answers (.writeInhibitFirmware n v) s (fun t =>
        rd (WRP_WGCTL_INHIBIT n) t.dev = bits v 0 1 ∧ rd (WRP_WISTAT_SRC n) t.dev = rd (WRP_WISTAT_SRC n) s.dev
          ∧ (bitOf v 0 = true → (arm n t.dev).inhNext.testBit 8 = true)
          ∧ (bitOf v 0 = false → (arm n t.dev).liftNext.testBit 8 = true)))

/-- The assist watchdog and read-after-write (R105, R108 to R111): past the duty limit or the on-time limit a trip drops write gate at once, inhibits writing and records head
and cause; a sector whose read-after-write fails is to be rewritten with its cause; one that passes awaits nothing more. -/
def Obligations.AssistTripsAndVerification : Prop :=
  ∀ (s : State) (n : ArmId), running s →
    (isSet (ALK_STAT_WG n) s.dev = true →
      let tripped := fun (cause : Nat) (t : State) => rd (ALK_STAT_WG n) t.dev = 0
        ∧ (rd (WRP_WISTAT_SRC n) t.dev).testBit 3 = true ∧ rd (WRP_ASSTAT_HEAD n) t.dev = selHead n s.dev % 8
        ∧ rd (WRP_ASSTAT_CAUSE n) t.dev = cause ∧ (arm n t.dev).burst = none
      (dutyOver n s.dev = true → Answers (.assistDutyTrip n) s (tripped 1))
        ∧ (ontimeOver n s.dev = true → Answers (.assistOntimeTrip n) s (tripped 2)))
    ∧ (isSet (ALK_STAT_WG n) s.dev = false ∨ dutyOver n s.dev = false → exec (.assistDutyTrip n) s = .next s)
    ∧ (isSet (ALK_STAT_WG n) s.dev = false ∨ ontimeOver n s.dev = false → exec (.assistOntimeTrip n) s = .next s)
    ∧ (∀ r rs w x, (arm n s.dev).raws = r :: rs → work n r.work s.dev = some w → rd (TST_FRC_RAW n) s.dev = 0 →
        dieUp (.arm n) s.dev = true →
        let ends := fun (t : State) => (arm n t.dev).raws = rs
          ∧ (∀ k, (rawVerdict n w r x false s.dev).2 = (false, k) →
              (arm n t.dev).rewrites = (arm n s.dev).rewrites ++ [{ r with cause := max 1 k }])
          ∧ ((rawVerdict n w r x false s.dev).2 = (true, 0) → (arm n t.dev).rewrites = (arm n s.dev).rewrites)
        (r.cause ≠ 0 ∨ (r.ready ≤ s.dev.time ∧ hasChannel n s.dev = true ∧ (rdrs n s.dev).contains 1 = true) →
            Answers (.rawResult n x) s ends)
        ∧ (deferring n s.dev = true → (arm n s.dev).burst = none → Answers (.deferredVerifyRead n [x]) s ends))

/-- The arm link (R101, R105, R114 to R119): with the link free, the first frame that may go out is on it with its CRC, an ACODE or STBY
value no higher than the limit of every head it reaches; a frame that no good response answers is sent again, at most three times, and
then it has failed, a mode frame with writing inhibited; a good response of a HEADSEL write sets head and mode, one of a raw read leaves its data; a raw frame is refused for
class 0xF, or as a write of MODE while a hand uses the link, and queued otherwise; after the idle time the preamplifier is sent back to
READ mode. -/
def Obligations.ArmLinkFrames : Prop :=
  ∀ (s : State) (n : ArmId) (f : Frame) (fs : List Frame), running s →
    ((arm n s.dev).frame = none → (arm n s.dev).frames = f :: fs → (waitsForGate f && isSet (ALK_STAT_WG n) s.dev) = false →
      let coded := frameClass f = 4 ∧ f.addr % 0x100 ≤ 1 ∧ f.read = false
      let g := if coded then { f with data := min f.data (assistLim n (f.addr / 0x100 % 16) s.dev) } else f
      Answers (.preampFrame n) s (fun t => (arm n t.dev).frame = some g ∧ (arm n t.dev).sdio = requestBits g
        ∧ (arm n t.dev).frames = fs ∧ SameMemory s.dev t.dev))
    ∧ ((arm n s.dev).frame = some f → ∀ x,
        x = none ∨ (∃ y, x = some y ∧ (crc8 (if f.read then y.data * 256 + y.status else y.status) (if f.read then 24 else 8) ≠ y.crc
          ∨ (bits y.status 6 2 = 1 ∧ bits y.status 0 4 = 1) ∨ bits y.status 6 2 = 0 ∨ bits y.status 6 2 = 3)) →
        promotes (pgAlk n) s.dev = false →
        (f.tries < 3 → Answers (.preampFrameResponse n x) s (fun t => (arm n t.dev).frame = none
            ∧ (arm n t.dev).frames = { f with tries := f.tries + 1 } :: (arm n s.dev).frames
            ∧ (page (pgAlk n) t.dev).total = min 0xFFFF ((page (pgAlk n) s.dev).total + 1)))
        ∧ (f.tries = 3 → f.raw = true → Answers (.preampFrameResponse n x) s (fun t => (arm n t.dev).frame = none
            ∧ rd (ALK_FRMCTL_FAIL n) t.dev = 1 ∧ rd (ALK_FRMCTL_BUSY n) t.dev = 0 ∧ (arm n t.dev).frames = (arm n s.dev).frames
            ∧ SameMemory s.dev t.dev))
        ∧ (f.tries = 3 → f.raw = false → frameClass f = 1 ∨ frameClass f = 4 ∨ frameClass f = 5 →
            Answers (.preampFrameResponse n x) s (fun t => (arm n t.dev).frame = none ∧ (arm n t.dev).frames = (arm n s.dev).frames
              ∧ rd (ALK_FRMCTL_FAIL n) t.dev = 1 ∧ (rd (WRP_WISTAT_SRC n) t.dev).testBit 6 = true ∧ (arm n t.dev).modeBad = true
              ∧ SameMemory s.dev t.dev)))
    ∧ (∀ x : FrameRsp, (arm n s.dev).frame = some f → bits x.status 6 2 = 2 →
        crc8 (if f.read then x.data * 256 + x.status else x.status) (if f.read then 24 else 8) = x.crc →
        (f.raw = true → f.read = true → Answers (.preampFrameResponse n (some x)) s (fun t =>
          (arm n t.dev).frame = none ∧ rd (ALK_FRMCTL_DONE n) t.dev = 1 ∧ rd (ALK_FRMCTL_BUSY n) t.dev = 0
            ∧ rd (ALK_FRMD_DATA n) t.dev = x.data % 2 ^ 16 ∧ rd (ALK_FRMD_STATUS n) t.dev = x.status % 256))
        ∧ (f.addr = 0x1000 → f.read = false → f.raw = false → Answers (.preampFrameResponse n (some x)) s (fun t =>
          (arm n t.dev).frame = none ∧ rd (ALK_STAT_HEAD n) t.dev = f.data % 8 ∧ rd (ALK_STAT_MODE n) t.dev = bits f.data 4 2)))
    ∧ (reach (pgAlk n) s.dev = true → rd (ALK_FRMCTL_BUSY n) s.dev = 0 →
        let g : Frame := ⟨rd (ALK_FRMA_ADDR n) s.dev, rd (ALK_FRMD_DATA n) s.dev, isSet (ALK_FRMA_READ n) s.dev, true, 0⟩
        let refused := frameClass g = 15 ∨ (frameClass g = 1 ∧ g.read = false ∧ (framesOpen n s.dev || handBusy n s.dev) = true)
        (refused → Answers (.rawFrameQueue n) s (fun t => rd (ALK_FRMCTL_REFUSED n) t.dev = 1 ∧ t.dev.arms = s.dev.arms))
        ∧ (¬refused → Answers (.rawFrameQueue n) s (fun t => rd (ALK_FRMCTL_BUSY n) t.dev = 1
            ∧ (arm n t.dev).frames = (arm n s.dev).frames ++ [g])))
    ∧ (rd (ALK_STAT_MODE n) s.dev = 2 → (arm n s.dev).burst = none → idleOver n s.dev = true →
        Answers (.preampIdleTimeout n) s (fun t =>
          (⟨0x1000, selHead n s.dev + 16, false, false, 0⟩ : Frame) ∈ (arm n t.dev).frames ∧ t.dev = { s.dev with arms := t.dev.arms }))

/-- Preamplifier faults and an arm die's power-up (R104, R106, R120, R123): FLT_N drops write gate and inhibits writing at once, its
release lifts that unless a burst of its own must come first; an arm die starts in its reset state with the preamplifier in SLEEP and
what it answered, gets its limits and locks back, and may not write while its assist type is not confirmed. -/
def Obligations.PreamplifierFaults : Prop :=
  ∀ (s : State) (n : ArmId), running s →
    (∀ st, Answers (.fltNAssert n st) s (fun t => rd (ALK_STAT_FLT n) t.dev = 1 ∧ rd (ALK_STAT_WG n) t.dev = 0
        ∧ (rd (WRP_WISTAT_SRC n) t.dev).testBit 2 = true ∧ (arm n t.dev).burst = none))
    ∧ (rd (ALK_STAT_FLT n) s.dev = 1 → Answers (.fltNRelease n) s (fun t => rd (ALK_STAT_FLT n) t.dev = 0
        ∧ ((arm n s.dev).fltBits ≠ 1 → (arm n s.dev).fltBits ≤ 2 → (arm n s.dev).fltHeads.testBit (selHead n s.dev) = false →
            (rd (WRP_WISTAT_SRC n) t.dev).testBit 2 = false ∧ (arm n t.dev).fltBits = 0)
        ∧ ((arm n s.dev).fltBits = 1 ∨ (arm n s.dev).fltHeads.testBit (selHead n s.dev) = true →
            (rd (WRP_WISTAT_SRC n) t.dev).testBit 2 = true)))
    ∧ (rd (ALK_STAT_FLT n) s.dev = 1 → Answers (.fltNPersist n) s (fun t => (arm n t.dev).fltBits = 2
        ∧ rd (ALK_STAT_FLT n) t.dev = 1 ∧ SameMemory s.dev t.dev))
    ∧ (fitted (.arm n) s.dev = true → ∀ caps, Answers (.armDiePowerUp n caps) s (fun t =>
        rd (ALK_STAT_MODE n) t.dev = 0 ∧ rd (ALK_CFG_PRESENT n) t.dev = (if caps.isSome then 1 else 0)
          ∧ rd (ALK_CFG_NHEADS n) t.dev = (caps.getD 0) % 16 ∧ servo n t.dev = svParked ∧ (arm n t.dev).bands = []
          ∧ (page (pgArm n) t.dev).ready = true ∧ (arm n t.dev).caps = caps.getD 0
          ∧ (∀ h, h < 8 → rd (WRP_ASLIM_ILIM n h) t.dev = rd (WRP_ASLIM_ILIM n h) s.dev)
          ∧ (page (pgWrp n) t.dev).lock = (page (pgWrp n) s.dev).lock
          ∧ (rd (ALK_ASSIST_TYPE n) s.dev = 0 ∨ rd (ALK_ASSIST_TYPE n) s.dev ≠ bits (caps.getD 0) 4 2 →
              (rd (WRP_WISTAT_SRC n) t.dev).testBit 6 = true)))

/-! ## Spindle and power stage (R155 to R175, R256) -/

/-- The spindle starts and stops (R157, R159, R163): a start from standstill, also after a failed start has coasted out, with motor
constants, a drive that is not too cold and a valid Hall code commutates in six steps toward its first step, and without one of them
nothing turns; a spindle that coasts above the handover speed is caught into a ramp; a stop brakes with target 5, and every arm that the
order reaches retracts; at standstill the spindle is stopped, with the end notice of its target; fifty revolutions in band are AT SPEED;
a start that has taken TMO seconds without its first step has failed. -/
def Obligations.SpindleStartAndStop : Prop :=
  ∀ (s : State) (v hall : Nat), running s →
    (reach pgSpn s.dev = true →
      (spState s.dev = 0 ∨ (spState s.dev = 8 ∧ speed s.dev = 0) →
        (isSet THM_STAT_COLDSTOP s.dev = false → rd SPN_MOTKE_KE s.dev ≠ 0 → rd SPN_MOTRL_RPH s.dev ≠ 0 → 1 ≤ hall → hall ≤ 6 →
          Answers (.spindleStart v hall) s (fun t => spState t.dev = 1 ∧ rd SPN_CTL_AUTO t.dev = bits v 2 1
            ∧ rd SPN_STAT_TARGET t.dev = firstStep t.dev % 8 ∧ rd SPN_STAT_ATSPEED t.dev = 0 ∧ t.dev.pwr.started = s.dev.time
            ∧ t.dev.pwr.reached = false ∧ t.dev.pwr.hall = some hall ∧ SameMemory s.dev t.dev ∧ SameArms s.dev t.dev))
        ∧ (isSet THM_STAT_COLDSTOP s.dev = true ∨ rd SPN_MOTKE_KE s.dev = 0 ∨ rd SPN_MOTRL_RPH s.dev = 0 ∨ hall = 0 ∨ 6 < hall →
          Answers (.spindleStart v hall) s (fun t => spState t.dev = 0
            ∧ OnlyFieldsAndEvents [SPN_CTL_AUTO, SPN_CTL_PKEEP, SPN_CTL_FIXSTEP, SPN_STAT_STATE] { s.dev with pwr := t.dev.pwr } t.dev)))
      ∧ (spState s.dev = 5 → aboveHandover s.dev = true → Answers (.spindleStart v hall) s (fun t =>
          spState t.dev = (if s.dev.pwr.noFoc then 9 else 3) ∧ rd SPN_STAT_RAMP t.dev = 1
            ∧ rd SPN_STAT_TARGET t.dev = firstStep t.dev % 8 ∧ SameMemory s.dev t.dev ∧ SameArms s.dev t.dev))
      ∧ (spRunning s.dev = true ∨ spState s.dev = 1 → Answers (.spindleStop v) s (fun t => spState t.dev = 6
          ∧ rd SPN_STAT_TARGET t.dev = 5 ∧ rd SPN_STAT_RAMP t.dev = 0 ∧ rd SPN_STAT_ATSPEED t.dev = 0
          ∧ ∀ n : ArmId, fitted (.arm n) s.dev = true → reaches .power (.arm n) s.dev = true → servo n t.dev = svRetract))
      ∧ (spRunning s.dev = false → spState s.dev ≠ 1 → Answers (.spindleStop v) s (fun t =>
          OnlyFields [SPN_CTL_AUTO, SPN_CTL_PKEEP, SPN_CTL_FIXSTEP] s.dev t.dev)))
    ∧ (reach pgSpn s.dev = false → exec (.spindleStart v hall) s = .next s ∧ exec (.spindleStop v) s = .next s)
    ∧ (spBraking s.dev = true ∨ spState s.dev = 5 → Answers .spindleStandstill s (fun t => spState t.dev = 0 ∧ speed t.dev = 0
        ∧ rd SPN_STAT_RAMP t.dev = 0 ∧ t.dev.pwr.reached = false ∧ SameMemory s.dev t.dev ∧ SameArms s.dev t.dev
        ∧ (rd SPN_STAT_TARGET s.dev = 5 ∨ rd SPN_STAT_TARGET s.dev = 6 → ∀ k, k < 5 → Store.get [] k t.dev.pwr.notices
          = Store.get [] k s.dev.pwr.notices ++ [⟨false, rd SPN_STAT_STEP s.dev, rd SPN_STAT_TARGET s.dev⟩])))
    ∧ (spState s.dev = 8 → Answers .spindleStandstill s (fun t => speed t.dev = 0 ∧ OnlyFields [SPN_SPEED_RPM] s.dev t.dev))
    ∧ (50 ≤ s.dev.pwr.inBand → isSet SPN_STAT_RAMP s.dev = false → spRunning s.dev = true → Answers .atspeedReached s (fun t =>
        rd SPN_STAT_ATSPEED t.dev = 1 ∧ OnlyFields [SPN_STAT_ATSPEED] s.dev t.dev))
    ∧ (s.dev.pwr.inBand < 50 ∨ isSet SPN_STAT_RAMP s.dev = true ∨ spRunning s.dev = false → exec .atspeedReached s = .next s)
    ∧ (let late := s.dev.pwr.started + ((rd SPN_START_TMO s.dev * 1000 * auxPerMs : Nat) : Int) ≤ s.dev.time
      (spStarting s.dev = true → late → Answers .spinStartTimeout s (fun t =>
        spState t.dev = 8 ∧ rd SPN_STAT_RAMP t.dev = 0 ∧ OnlyFieldsAndEvents [SPN_STAT_STATE, SPN_STAT_RAMP] s.dev t.dev))
      ∧ (spStarting s.dev = false ∨ ¬late → exec .spinStartTimeout s = .next s))

/-- Hall edges, synchronism and speed steps (R158 to R165, R256): a valid edge that agrees counts for handover, twelve of them above
HOSPD hand over to FOC; a broken sequence below it ends a start; loss of synchronism is one error of the SPN class and is
recovered from, or coasts where the Halls are bad; twelve agreeing edges bring FOC back. Step limits out of order are discarded;
a ramp's end takes the target as the step, and where the limits allow that step the spindle is regulated at it; a notice of it reaches the hub and the arms in order; the governor steps up above UPTHR. -/
def Obligations.SynchronismAndSpeedSteps : Prop :=
  ∀ (s : State), running s →
    (∀ (h : HallIn) (c : Nat), s.dev.pwr.hall = some c → 1 ≤ h.code → h.code ≤ 6 → popCount 3 (c ^^^ h.code) = 1 →
      let slow := decide (500000000 * 60 < 36 * h.dt * (rd SPN_START_HOSPD s.dev * 10))
      Answers (.hallEdge h) s (fun t => t.dev.pwr.hall = some h.code ∧ t.dev.pwr.badRun = 0
        ∧ t.dev.pwr.agree = (if h.ang ≤ 15 then s.dev.pwr.agree + 1 else 0) ∧ SameMemory s.dev t.dev ∧ SameArms s.dev t.dev
        ∧ (spState s.dev = 1 → h.ang ≤ 15 → 11 ≤ s.dev.pwr.agree → slow = false →
            spState t.dev = (if s.dev.pwr.noFoc then 9 else 3) ∧ rd SPN_STAT_RAMP t.dev = 1)))
    ∧ (∀ h : HallIn, h.code = 0 ∨ 6 < h.code → Answers (.hallEdge h) s (fun t => t.dev.pwr.badRun = s.dev.pwr.badRun + 1
        ∧ (spState s.dev = 1 → speed s.dev < rd SPN_START_HOSPD s.dev * 1000 → spState t.dev = 8)
        ∧ (1 ≤ s.dev.pwr.badRun → rd SPN_STAT_HALLBAD t.dev = 1)
        ∧ ((page pgSpn s.dev).freeze = false → rd SPN_SYNCCNT_HALLERR s.dev < 0xFFFF →
            rd SPN_SYNCCNT_HALLERR t.dev = rd SPN_SYNCCNT_HALLERR s.dev + 1)))
    ∧ (∀ ang acc flux, spState s.dev = 2 ∨ spState s.dev = 3 → rd SPN_OBSLIM_ACCMAX s.dev < acc →
        (isSet SPN_STAT_HALLBAD s.dev = false → promotes pgSpn s.dev = false → Answers (.lossOfSync ang acc flux) s (fun t =>
          spState t.dev = 4 ∧ t.dev.pwr.before = spState s.dev ∧ t.dev.pwr.agree = 0 ∧ SameArms s.dev t.dev
            ∧ (page pgSpn t.dev).total = min 0xFFFF ((page pgSpn s.dev).total + 1)))
        ∧ (isSet SPN_STAT_HALLBAD s.dev = false → promotes pgSpn s.dev = true → Answers (.lossOfSync ang acc flux) s (fun t =>
          spState t.dev = 9 ∧ t.dev.pwr.noFoc = true ∧ (page pgSpn t.dev).degraded = true))
        ∧ (isSet SPN_STAT_HALLBAD s.dev = true → Answers (.lossOfSync ang acc flux) s (fun t => spState t.dev = 5
          ∧ rd SPN_STAT_TARGET t.dev = 6
          ∧ ∀ n : ArmId, fitted (.arm n) s.dev = true → reaches .power (.arm n) s.dev = true → servo n t.dev = svRetract)))
    ∧ (∀ ang acc flux, observed s.dev = false → exec (.lossOfSync ang acc flux) s = .next s)
    ∧ (∀ ang acc flux, ang ≤ rd SPN_OBSLIM_ANG s.dev → acc ≤ rd SPN_OBSLIM_ACCMAX s.dev → flux ≤ rd SPN_OBSLIM_FLUX s.dev →
        exec (.lossOfSync ang acc flux) s = .next s)
    ∧ (12 ≤ s.dev.pwr.agree → s.dev.pwr.before = 2 → s.dev.pwr.noFoc = false → spState s.dev = 4 → Answers .focReacquire s (fun t =>
        spState t.dev = (if isSet SPN_STAT_RAMP s.dev then 3 else 2) ∧ t.dev.pwr.before = 0
          ∧ OnlyFieldsAndEvents [SPN_STAT_STATE] { s.dev with pwr := t.dev.pwr } t.dev))
    ∧ (∀ v, reach pgSpn s.dev = true →
        (bits v 4 3 < bits v 0 3 → bits v 0 3 ≤ 4 → Answers (.steplimWrite v) s (fun t => OnlyFieldsAndEvents [] s.dev t.dev))
        ∧ (bits v 0 3 ≤ bits v 4 3 → bits v 4 3 ≤ 4 → bits v 4 3 ≤ rd SPN_STEPLIM_MAX s.dev → Answers (.steplimWrite v) s (fun t =>
            rd SPN_STEPLIM_MIN t.dev = bits v 0 3 ∧ rd SPN_STEPLIM_MAX t.dev = bits v 4 3
            ∧ (rd THM_STAT_STEP s.dev = 0 → rd SPN_STEPLIM_CAP t.dev = bits v 4 3))))
    ∧ (isSet SPN_STAT_RAMP s.dev = true → spState s.dev = 2 ∨ spState s.dev = 3 ∨ spState s.dev = 9 → Answers .rampEnd s (fun t =>
        rd SPN_STAT_STEP t.dev = rd SPN_STAT_TARGET s.dev % 8 ∧ t.dev.pwr.reached = true ∧ t.dev.pwr.rampEnd = some (s.dev.time : Int)
          ∧ (isSet SPN_CTL_AUTO s.dev = true → wantsMin s.dev = false → rd SPN_STEPLIM_MIN s.dev ≤ rd SPN_STAT_TARGET s.dev % 8 →
              rd SPN_STAT_TARGET s.dev ≤ rd SPN_STEPLIM_MAX s.dev →
              rd SPN_STAT_RAMP t.dev = 0 ∧ spState t.dev = (if s.dev.pwr.noFoc then 9 else 2))))
    ∧ (∀ dest : Fin 5, (Store.get [] dest.val s.dev.pwr.notices = [] → exec (.speedStepNotice dest) s = .next s)
        ∧ (∀ nt rest, Store.get [] dest.val s.dev.pwr.notices = nt :: rest →
            (dieUp .power s.dev = false → exec (.speedStepNotice dest) s = .next s)
            ∧ (dieUp .power s.dev = true → dest.val = 4 → nt.tgt ≤ 4 → s.dev.deal.ploss = false → Answers (.speedStepNotice dest) s (fun t =>
                t.dev.deal = { s.dev.deal with step := nt.tgt } ∧ Store.get [] 4 t.dev.pwr.notices = rest ∧ t.dev.regs = s.dev.regs))
            ∧ (dieUp .power s.dev = true → dest.val = 4 → nt.tgt = 7 → nt.start = true → Answers (.speedStepNotice dest) s (fun t =>
                t.dev.deal.ploss = true))
            ∧ (∀ n : ArmId, dieUp .power s.dev = true → dest.val = n.val → fitted (.arm n) s.dev = true → dieUp (.arm n) s.dev = true →
                (nt.tgt = 7 → nt.start = true → Answers (.speedStepNotice dest) s (fun t => (arm n t.dev).plossSeen = true))
                ∧ (nt.tgt ≠ 7 → Answers (.speedStepNotice dest) s (fun t => (arm n t.dev).ramping = nt.start
                    ∧ (arm n t.dev).plossSeen = false)))))
    ∧ (dieUp .power s.dev = true →
        let ds := (rd CMD_GOVOUT_DEMAND s.dev :: s.dev.pwr.demand).take 300
        let step := rd SPN_STAT_STEP s.dev
        Answers .paceGovernorDecision s (fun t => t.dev.pwr.demand = ds ∧ rd SPN_GOVSTAT_BREACH t.dev = (if isSet CMD_GOVOUT_BREACH s.dev then 1 else 0)
          ∧ SameMemory s.dev t.dev ∧ SameArms s.dev t.dev
          ∧ (isSet SPN_STAT_RAMP s.dev = true ∨ isSet SPN_CTL_AUTO s.dev = false → rd SPN_STAT_TARGET t.dev = rd SPN_STAT_TARGET s.dev)
          ∧ (isSet SPN_CTL_AUTO s.dev = true → wantsMin s.dev = false → spRunning s.dev = true → isSet SPN_STAT_RAMP s.dev = false →
              s.dev.pwr.reached = true → step ≤ rd SPN_STEPLIM_CAP s.dev → rd SPN_GOV_UPTHR s.dev * ds.length < ds.sum →
              step < min (rd SPN_STEPLIM_MAX s.dev) (rd SPN_STEPLIM_CAP s.dev) → s.dev.pwr.rampEnd = none →
              rd SPN_STAT_TARGET t.dev = (step + 1) % 8 ∧ rd SPN_STAT_RAMP t.dev = 1 ∧ rd SPN_STAT_ATSPEED t.dev = 0)))
    ∧ Answers .dealerGovernorTick s (fun t =>
        let pct := fun n => min 100 (Store.get 0 n s.dev.deal.busyAcc * 100 / 12500000)
        t.dev.deal = { s.dev.deal with busyAcc := [], breached := false }
          ∧ (∀ n, n < 4 → rd (CMD_HAND_BUSY n) t.dev = pct n ∧ pct n ≤ rd CMD_GOVOUT_DEMAND t.dev)
          ∧ rd CMD_GOVOUT_DEMAND t.dev ≤ 100 ∧ (s.dev.deal.breached = true → rd CMD_GOVOUT_BREACH t.dev = 1))

/-- Supply protection and power loss (R166 to R168, R170): the chopper runs between its thresholds while the spindle decelerates, a
fault of it counts and lets the low sides short the phases; above DISC the outputs disconnect and every arm retracts; below
RECON a coasting spindle is caught. A power loss at 3,000 rpm or more enters vault mode with the vault arms loaded; otherwise every
arm retracts. Vault mode ends with a complete flush or below 3,000 rpm, which leaves the flush incomplete; with the supplies
back the spindle goes on. -/
def Obligations.SupplyProtectionAndVaultMode : Prop :=
  ∀ (s : State) (v : Nat), running s →
    (vAbove v (rd BRK_THR0_ON s.dev) s.dev = true → decelerating s.dev = true → s.dev.pwr.chopOff = false →
      isSet BRK_STAT_CHOP s.dev = false →
      Answers (.chopperOn v) s (fun t => rd BRK_STAT_CHOP t.dev = 1 ∧ rd BRK_STAT_VHOLD t.dev = volts v s.dev % 1024
        ∧ OnlyFieldsAndEvents [BRK_STAT_CHOP, BRK_STAT_VHOLD, BRK_CHOPCNT_ON] s.dev t.dev))
    ∧ (decelerating s.dev = false ∨ s.dev.pwr.chopOff = true → Answers (.chopperOn v) s (fun t =>
        OnlyFields [BRK_STAT_VHOLD] s.dev t.dev))
    ∧ (vBelow v (rd BRK_THR0_OFF s.dev) s.dev = true → Answers (.chopperOff v) s (fun t => rd BRK_STAT_CHOP t.dev = 0
        ∧ OnlyFields [BRK_STAT_CHOP, BRK_STAT_VHOLD] s.dev t.dev))
    ∧ Answers .chopperFault s (fun t => rd BRK_STAT_CHOP t.dev = 0 ∧ rd BRK_STAT_CHOPFLT t.dev = 1
        ∧ (page pgBrk t.dev).total = min 0xFFFF ((page pgBrk s.dev).total + 1)
        ∧ (promotes pgBrk s.dev = true → t.dev.pwr.chopOff = true ∧ (page pgBrk t.dev).degraded = true)
        ∧ (isSet BRK_STAT_CHOP s.dev = false → t.dev.pwr.chopOff = true)
        ∧ (promotes pgBrk s.dev = false → isSet BRK_STAT_CHOP s.dev = true →
            OnlyFieldsAndEvents [BRK_STAT_CHOP, BRK_STAT_CHOPFLT] s.dev t.dev))
    ∧ (vAbove v (rd BRK_THR1_SHORT s.dev) s.dev = true → isSet BRK_STAT_CHOPFLT s.dev = true ∨ s.dev.pwr.chopOff = true → isSet BRK_STAT_SHORT s.dev = false →
        Answers (.lowSideShort v) s (fun t => rd BRK_STAT_SHORT t.dev = 1 ∧ spState t.dev = spState s.dev ∧ SameArms s.dev t.dev))
    ∧ (vBelow v (rd BRK_THR1_RELEASE s.dev) s.dev = true → Answers (.lowSideShortRelease v) s (fun t => rd BRK_STAT_SHORT t.dev = 0
        ∧ OnlyFields [BRK_STAT_SHORT, BRK_STAT_VHOLD] s.dev t.dev))
    ∧ (vAbove v (rd BRK_THR2_DISC s.dev) s.dev = true → isSet BRK_STAT_DISC s.dev = false → Answers (.outputDisconnect v) s (fun t =>
        rd BRK_STAT_DISC t.dev = 1 ∧ (spState s.dev ≠ 0 → spState s.dev ≠ 8 → spState s.dev ≠ 5 → spState s.dev ≠ 7 → spState t.dev = 5 ∧ rd SPN_STAT_ATSPEED t.dev = 0)
          ∧ (spState s.dev = 5 ∨ spState s.dev = 7 → spState t.dev = spState s.dev)
          ∧ ∀ n : ArmId, fitted (.arm n) s.dev = true → reaches .power (.arm n) s.dev = true → servo n t.dev = svRetract))
    ∧ (vBelow v (rd BRK_THR2_RECON s.dev) s.dev = true → isSet BRK_STAT_DISC s.dev = true →
      Answers (.outputReconnect v) s (fun t => rd BRK_STAT_DISC t.dev = 0
        ∧ (spState s.dev ≠ 5 ∨ s.dev.pwr.before = 0 →
            OnlyFieldsAndEvents [BRK_STAT_DISC, BRK_STAT_VHOLD] { s.dev with pwr := t.dev.pwr } t.dev)
        ∧ (spState s.dev = 5 → s.dev.pwr.before ≠ 0 → aboveHandover s.dev = true →
            spState t.dev = (if s.dev.pwr.noFoc then 9 else 3) ∧ rd SPN_STAT_RAMP t.dev = 1)))
    ∧ (∀ v12 v5, vBelow v12 (rd BRK_PLTHR_V12UV s.dev) s.dev = false → vBelow v5 (rd BRK_PLTHR_V5UV s.dev) s.dev = false → exec (.powerLossDetect v12 v5) s = .next s)
    ∧ (∀ v12 v5, isSet BRK_STAT_PLOSS s.dev = false →
        vBelow v12 (rd BRK_PLTHR_V12UV s.dev) s.dev = true ∨ vBelow v5 (rd BRK_PLTHR_V5UV s.dev) s.dev = true →
        (speed s.dev < 300000 → Answers (.powerLossDetect v12 v5) s (fun t => rd BRK_STAT_PLOSS t.dev = 1
          ∧ rd BRK_STAT_VAULT t.dev = rd BRK_STAT_VAULT s.dev
          ∧ ∀ n : ArmId, fitted (.arm n) s.dev = true → reaches .power (.arm n) s.dev = true → servo n t.dev = svRetract))
        ∧ (300000 ≤ speed s.dev → spState s.dev ≠ 0 → spState s.dev ≠ 8 → Answers (.powerLossDetect v12 v5) s (fun t =>
            rd BRK_STAT_PLOSS t.dev = 1 ∧ rd BRK_STAT_VAULT t.dev = 1 ∧ spState t.dev = 7 ∧ rd SPN_STAT_TARGET t.dev = 7
            ∧ ∀ n : ArmId, fitted (.arm n) s.dev = true →
                ((rd BRK_VAULT_ARMS s.dev).testBit n = false → reaches .power (.arm n) s.dev = true → servo n t.dev = svRetract)
                ∧ ((rd BRK_VAULT_ARMS s.dev).testBit n = true → dieUp (.arm n) s.dev = true → servo n t.dev = servo n s.dev))))
    ∧ (isSet BRK_STAT_VAULT s.dev = true → Answers .spindleBelowVaultSpeed s (fun t => rd BRK_STAT_VAULT t.dev = 0
        ∧ (s.dev.pwr.flushed = false → (rd GLB_HEALTH_REPLACE t.dev).testBit 3 = true ∧ t.dev.vault.run = none)
        ∧ ∀ n : ArmId, fitted (.arm n) s.dev = true → (rd BRK_VAULT_ARMS s.dev).testBit n = true →
            reaches .power (.arm n) s.dev = true → servo n t.dev = svRetract))
    ∧ (isSet BRK_STAT_VAULT s.dev = true → flushIdle s.dev = true → dieUp .power s.dev = true → Answers .vaultFlushComplete s (fun t =>
        rd BRK_STAT_VAULT t.dev = 0 ∧ t.dev.pwr.flushed = true
          ∧ (s.dev.pwr.supplyBack = true → rd BRK_STAT_PLOSS t.dev = 0 ∧ spState t.dev = (if s.dev.pwr.noFoc then 9 else 3)
              ∧ rd SPN_STAT_TARGET t.dev = limitStep (rd SPN_STEPLIM_MIN s.dev) s.dev % 8 ∧ SameArms s.dev t.dev)))
    ∧ (isSet BRK_STAT_VAULT s.dev = false → exec .spindleBelowVaultSpeed s = .next s ∧ exec .vaultFlushComplete s = .next s
        ∧ exec .supplyReturn s = .next s)
    ∧ (isSet BRK_STAT_VAULT s.dev = true → Answers .supplyReturn s (fun t =>
        t.dev = { s.dev with pwr := { s.dev.pwr with supplyBack := true } }))

/-- Retracts and the drivers' faults (R149, R171 to R173, R175): an order, in whatever condition the hub is, drives the bridge of a
fitted arm and, where it reaches the arm die, stops its loops and writing; the phases end after RETT and HOLDT; the bridge is off, or
disabled for good, and the arm parked. A trip or an open coil is one error of the VCM class, whose promotion disables the bridge and
loses the arm; a charge pump out of regulation, which it is until it is found in regulation again, and an overcurrent take the
microactuators to 0 V. -/
def Obligations.RetractsAndDriverFaults : Prop :=
  ∀ (s : State) (n : ArmId),
    (fitted (.arm n) s.dev = true → s.dev.pwr.noRetract.testBit n = false → Answers (.retractOrder n) s (fun t =>
        rd (VCM_STAT_STATE n) t.dev = 2 ∧ (rd BRK_RETCTL_BUSY t.dev).testBit n = true ∧ t.dev.pwr.retFull.testBit n = true
          ∧ Store.get 0 n.val t.dev.pwr.retAt = s.dev.time ∧ (∀ k, k ≠ n.val → arm k t.dev = arm k s.dev)
          ∧ (reaches .power (.arm n) s.dev = true → servo n t.dev = svRetract ∧ rd (ALK_STAT_WG n) t.dev = 0
              ∧ (rd (WRP_WISTAT_SRC n) t.dev).testBit 10 = true ∧ (arm n t.dev).burst = none ∧ (arm n t.dev).drive = 0)))
    ∧ (fitted (.arm n) s.dev = false → exec (.retractOrder n) s = .next s)
    ∧ (isSet BRK_STAT_DISC s.dev = false → phaseOver n (rd (VCM_RET_RETT n) s.dev) s.dev = true → s.dev.pwr.retFull.testBit n = true →
        Answers (.retractPhaseEnd n) s (fun t => t.dev.pwr.retFull.testBit n = false ∧ t.dev.regs = s.dev.regs
          ∧ Store.get 0 n.val t.dev.pwr.retAt = s.dev.time
          ∧ ∀ k, k < 4 → k ≠ n.val → t.dev.pwr.retFull.testBit k = s.dev.pwr.retFull.testBit k))
    ∧ (rd (VCM_STAT_STATE n) s.dev = 2 → s.dev.pwr.retFull.testBit n = false → isSet BRK_STAT_DISC s.dev = false →
        phaseOver n (rd (VCM_RET_HOLDT n) s.dev) s.dev = true → Answers (.retractComplete n) s (fun t =>
        rd (VCM_STAT_STATE n) t.dev = (if isSet (VCM_CFG_EN n) s.dev then 3 else 4) ∧ (rd BRK_RETCTL_BUSY t.dev).testBit n = false
          ∧ (servo n s.dev = svRetract → servo n t.dev = svParked) ∧ SameMemory s.dev t.dev ∧ SameArms s.dev t.dev))
    ∧ (rd (VCM_STAT_STATE n) s.dev ≠ 2 ∨ phaseOver n (rd (VCM_RET_HOLDT n) s.dev) s.dev = false →
        exec (.retractComplete n) s = .next s)
    ∧ (running s → fitted (.arm n) s.dev = true →
      Answers (.vcmTrip n) s (fun t => (page pgVcm t.dev).total = min 0xFFFF ((page pgVcm s.dev).total + 1)
          ∧ (promotes pgVcm s.dev = false → OnlyFieldsAndEvents [VCM_FLTCNT_TRIP] s.dev t.dev)
          ∧ (promotes pgVcm s.dev = true → rd (VCM_CFG_EN n) t.dev = 0 ∧ (rd GLB_HEALTH_LOSTARMS t.dev).testBit n = true))
      ∧ Answers (.openCoil n) s (fun t => rd (VCM_STAT_STATE n) t.dev = 0 ∧ (rd BRK_RETCTL_BUSY t.dev).testBit n = false
          ∧ t.dev.pwr.noRetract.testBit n = true ∧ (page pgVcm t.dev).total = min 0xFFFF ((page pgVcm s.dev).total + 1))
      ∧ Answers (.maOvercurrent n) s (fun t => Store.get 0 n.val t.dev.pwr.maCmd = 0 ∧ t.dev.pwr.maHeld.testBit n = true
          ∧ (∀ k, k ≠ n.val → Store.get 0 k t.dev.pwr.maCmd = Store.get 0 k s.dev.pwr.maCmd)
          ∧ SameMemory s.dev t.dev ∧ SameArms s.dev t.dev))
    ∧ (running s → fitted (.arm n) s.dev = false →
        exec (.vcmTrip n) s = .next s ∧ exec (.openCoil n) s = .next s ∧ exec (.maOvercurrent n) s = .next s)
    ∧ (running s →
      Answers .chargePumpFault s (fun t => rd VCM_PUMP_OK t.dev = 0 ∧ t.dev.pwr.maCmd = []
          ∧ (page pgVcm t.dev).raw.getLsbD 8 = true ∧ SameMemory s.dev t.dev ∧ SameArms s.dev t.dev))
    ∧ (isSet VCM_PUMP_OK s.dev = true → pumpNow s.dev = s.dev)
    ∧ (isSet VCM_PUMP_OK s.dev = false → pumpNow s.dev = { s.dev with fresh := s.dev.fresh + 1 }
        ∨ (rd VCM_PUMP_OK (pumpNow s.dev) = 1 ∧ (page pgVcm (pumpNow s.dev)).raw.getLsbD 8 = false))

/-! ## Field calibration (R180 to R192) -/

/-- Calibration runs (R181 to R187): an interval that has passed leaves CH and SRV pending and is reported; an order of which a kind
finds its conditions unmet is refused whole; a run that may starts; a CH run's completed slot is installed or, where a
field is implausible, left as it is; the fit of an SRV run is reported, checked against its limits, and waits or fails; a
run that takes too long is abandoned. A reference measurement is busy from its order to its end; a result selection begins at
word 0, and each read gives the word at the pointer and advances it (R189, R191). -/
def Obligations.CalibrationAndReferences : Prop :=
  ∀ (s : State) (n : ArmId), running s →
    (∀ t, (arm n s.dev).calFrom = some t → isSet (CAL_TRIG_AUTO n) s.dev = true →
      ((rd (CAL_TRIG_MAXINT n) s.dev * 3600000 * auxPerMs : Nat) : Int) ≤ s.dev.time - t → (rd (CAL_STAT_PEND n) s.dev).testBit 0 = false →
      Answers (.calIntervalTrigger n) s (fun u => (rd (CAL_STAT_PEND n) u.dev).testBit 0 = true
        ∧ (rd (CAL_STAT_PEND n) u.dev).testBit 1 = true ∧ rd (CAL_STAT_MPEND n) u.dev = 1
        ∧ OnlyFieldsAndEvents [CAL_STAT_PEND n, CAL_STAT_MPEND n] s.dev u.dev))
    ∧ ((arm n s.dev).calFrom = none → exec (.calIntervalTrigger n) s = .next s)
    ∧ (∀ v, reach (pgCal n) s.dev = true →
        (bitOf v 0 = false ∨ (page (pgCal n) s.dev).busy = true → Answers (.calOrder n v) s (fun t =>
          OnlyFields [CAL_CMD_KIND n, CAL_CMD_SLOT n, CAL_CMD_REFUSED n] s.dev t.dev))
        ∧ (∀ k, bitOf v 0 = true → (page (pgCal n) s.dev).busy = false → k < 4 → (bits v 4 4).testBit k = true →
            calCond n k (bits v 8 6) s.dev = false → Answers (.calOrder n v) s (fun t => rd (CAL_CMD_REFUSED n) t.dev = 1
              ∧ OnlyFieldsAndEvents [CAL_CMD_KIND n, CAL_CMD_SLOT n, CAL_CMD_REFUSED n] s.dev t.dev))
        ∧ (bitOf v 0 = true → (page (pgCal n) s.dev).busy = false → bits v 4 4 = 2 → calCond n 1 (bits v 8 6) s.dev = true →
            calRun n 1 s.dev = none → Answers (.calOrder n v) s (fun t => (calRun n 1 t.dev).isSome = true
              ∧ (rd (CAL_STAT_PEND n) t.dev).testBit 1 = false ∧ (page (pgCal n) t.dev).busy = true)))
    ∧ (rd (CAL_STAT_PEND n) s.dev = 2 → calRun n 1 s.dev = none → calCond n 1 (arm n s.dev).calSlot s.dev = true →
        Answers (.calRunStart n) s (fun t => (calRun n 1 t.dev).isSome = true ∧ rd (CAL_STAT_PEND n) t.dev = 0
          ∧ SameMemory s.dev t.dev))
    ∧ (rd (CAL_STAT_PEND n) s.dev = 0 → exec (.calRunStart n) s = .next s)
    ∧ (∀ r, calRun n 0 s.dev = some r → r.phase = 1 → chMode n 0 s.dev = chAdapt →
        r.since + rd (CAL_RUNCFG_TMAX n) s.dev * 10 * auxPerMs ≤ s.dev.time →
        let full := (List.range 64).filter (fun k => decide (rd (CAL_RUNCFG_NSEC n) s.dev ≤ slotSectors r k) && slotSectors r k != 0)
        (∀ xs, full = [] → Answers (.chAdaptEnd n xs) s (fun t => calRun n 0 t.dev = some { r with phase := 2, verdict := none }
          ∧ (arm n t.dev).sets = (arm n s.dev).sets))
        ∧ (∀ x : Adapted, full = [x.slot.val] → x.slot.val ∉ r.skip → Store.get 0 (x.slot.val + (if x.varC then 64 else 0)) r.counts ≠ 0 →
            Store.get 0 (x.slot.val + (if x.varC then 0 else 64)) r.counts = 0 →
            let key := setKey (if x.varC then 2 else 0) x.slot
            let old := Store.gets (fun _ => 0) key 64 (arm n s.dev).sets
            Answers (.chAdaptEnd n [x]) s (fun t =>
              (failingClass n old (adaptedSet old x) s.dev = none → calRun n 0 t.dev = some { r with phase := 2, verdict := some true }
                ∧ (arm n t.dev).sets = Store.puts (fun _ => 0) key (adaptedSet old x) (arm n s.dev).sets)
              ∧ (∀ c, failingClass n old (adaptedSet old x) s.dev = some c →
                  calRun n 0 t.dev = some { r with phase := 2, verdict := some false } ∧ (arm n t.dev).sets = (arm n s.dev).sets))))
    ∧ (∀ r (rcoil lcoil rc lc : Nat), calRun n 1 s.dev = some r → r.phase = 0 → 4096 ≤ r.wedges → coilFit r.fit rcoil lcoil = ((rc : Int), (lc : Int)) →
        rc < 65536 → lc < 65536 → Answers (.srvCalFit n rcoil lcoil) s (fun t => rd (CAL_SRVRES_RCOIL n) t.dev = rc ∧ rd (CAL_SRVRES_LCOIL n) t.dev = lc
          ∧ rd (CTL_L0MODEL_RCOIL n) t.dev = rd (CTL_L0MODEL_RCOIL n) s.dev
          ∧ (plausible n 5 16 (rd (CTL_L0MODEL_RCOIL n) s.dev) rc s.dev = true →
              plausible n 6 1 (rd (CTL_L0MODEL_LCOIL n) s.dev) lc s.dev = true →
              calRun n 1 t.dev = some { r with phase := 1, res := (rc, lc) })
          ∧ (plausible n 5 16 (rd (CTL_L0MODEL_RCOIL n) s.dev) rc s.dev = false → calRun n 1 t.dev = none)))
    ∧ (∀ r, calRun n 1 s.dev = some r → r.phase = 0 → r.wedges < 4096 →
        r.since + rd (CAL_RUNCFG_TMAX n) s.dev * 10 * auxPerMs ≤ s.dev.time → Answers (.srvCalTimeout n) s (fun t =>
          calRun n 1 t.dev = none ∧ (r.auto = true → (rd (CAL_STAT_PEND n) t.dev).testBit 1 = true)
            ∧ (r.auto = false → rd (CAL_STAT_PEND n) t.dev = rd (CAL_STAT_PEND n) s.dev)))
    ∧ Answers .refClockMeasure s (fun t => rd GLB_REFCTL_CGO t.dev = 1 ∧ rd GLB_REFCTL_BUSY t.dev = 1
        ∧ OnlyFields [GLB_REFCTL_CGO, GLB_REFCTL_BUSY] s.dev t.dev)
    ∧ Answers .refVoltageMeasure s (fun t => rd GLB_REFCTL_VGO t.dev = 1 ∧ rd GLB_REFCTL_BUSY t.dev = 1
        ∧ OnlyFields [GLB_REFCTL_VGO, GLB_REFCTL_BUSY] s.dev t.dev)
    ∧ (isSet GLB_REFCTL_CGO s.dev = true →
        (∀ c, Answers (.refMeasureDone (.clock c)) s (fun t => rd GLB_REFCNT_COUNT t.dev = c % 2 ^ 32 ∧ rd GLB_REFCTL_DONE t.dev = 1
          ∧ rd GLB_REFCTL_CGO t.dev = 0 ∧ rd GLB_REFCTL_BUSY t.dev = rd GLB_REFCTL_VGO s.dev % 2))
        ∧ Answers (.refMeasureDone .noClock) s (fun t => rd GLB_REFCTL_NOCLK t.dev = 1 ∧ rd GLB_REFCTL_CGO t.dev = 0
          ∧ rd GLB_REFCNT_COUNT t.dev = rd GLB_REFCNT_COUNT s.dev))
    ∧ (isSet GLB_REFCTL_VGO s.dev = true → ∀ v, Answers (.refMeasureDone (.volt v)) s (fun t => rd GLB_REFCTL_V t.dev = v % 2 ^ 16
        ∧ rd GLB_REFCTL_DONE t.dev = 1 ∧ rd GLB_REFCTL_VGO t.dev = 0 ∧ rd GLB_REFCTL_BUSY t.dev = rd GLB_REFCTL_CGO s.dev % 2))
    ∧ (isSet GLB_REFCTL_VGO s.dev = false → ∀ v, exec (.refMeasureDone (.volt v)) s = .next s)
    ∧ (∀ v, reach (pgCal n) s.dev = true →
        Answers (.calResultSelect n v) s (fun t => (arm n t.dev).resPtr = 0 ∧ rd (CAL_RESSEL_SLOT n) t.dev = bits v 0 6
          ∧ rd (CAL_RESSEL_VARIANT n) t.dev
            = (if bits v 6 2 = 0 ∨ bits v 6 2 = 2 then bits v 6 2 else rd (CAL_RESSEL_VARIANT n) s.dev)
          ∧ (arm n t.dev).results = (arm n s.dev).results ∧ SameMemory s.dev t.dev)
        ∧ Answers (.calResultRead n) s (fun t => t.dev.rdata
            = Store.get 0 (64 * (64 * rd (CAL_RESSEL_VARIANT n) s.dev + rd (CAL_RESSEL_SLOT n) s.dev) + (arm n s.dev).resPtr)
                (arm n s.dev).results
          ∧ (arm n t.dev).resPtr = ((arm n s.dev).resPtr + 1) % 64 ∧ t.dev.regs = s.dev.regs ∧ SameMemory s.dev t.dev))

/-! ## Zones (R194 to R216) -/

/-- Zone actions (R196, R199, R203): a zone that has none of the states the action takes refuses it and keeps its record; a reset
waits for a relocation and for verification, a finish for a relocation, and otherwise the record changes, journaled; an open takes
a context within the limits; a close keeps it; a slip list that has reached SLIPFIN finishes the zone. -/
def Obligations.ZoneActions : Prop :=
  ∀ (s : State) (zi : Nat), running s →
    let z := (zoneGet zi s.dev).2
    let usable := z.spare = false ∧ z.vault = false ∧ z.conv = false ∧ nsValid z.ns = true
    let keeps := fun (st : Nat) (t : State) => t.dev.rdata = st ∧ t.dev.zon = s.dev.zon ∧ t.dev.hands = s.dev.hands
      ∧ t.dev.arms = s.dev.arms
    let changes := fun (P : Zone → Prop) (t : State) => RecordChanges zi P s.dev t.dev ∧ t.dev.arms = s.dev.arms ∧ t.otp = s.otp
    (z.conv = true ∨ z.state = zReadOnly ∨ z.state = zOffline → ∀ c : Instr,
      c = .zoneReset zi ∨ c = .zoneFinish zi ∨ c = .zoneOpen zi ∨ c = .zoneClose zi → Answers c s (keeps stZoneState))
    ∧ (usable → z.state = zEmpty → Answers (.zoneReset zi) s (keeps stOk) ∧ Answers (.zoneClose zi) s (keeps stZoneState))
    ∧ (usable → z.state = zFull → Answers (.zoneFinish zi) s (keeps stOk) ∧ Answers (.zoneOpen zi) s (keeps stZoneState)
        ∧ Answers (.zoneClose zi) s (keeps stZoneState))
    ∧ (usable → z.active = true ∨ z.state = zFull → s.dev.zon.waits = [] →
        (relocating zi s.dev = true ∨ zoneUnverified zi s.dev = true → Answers (.zoneReset zi) s (fun t => t.dev.rdata = stOk
          ∧ t.dev.zon = { s.dev.zon with waits := [(zi, 4)] }))
        ∧ (relocating zi s.dev = false → zoneUnverified zi s.dev = false → Answers (.zoneReset zi) s (fun t => t.dev.rdata = stOk
          ∧ t.dev.zon.waits = [] ∧ t.dev.zon.ctx = s.dev.zon.ctx.erase zi
          ∧ changes (fun x => x.state = zEmpty ∧ x.wp = 0 ∧ x.verif = 0 ∧ x.slips = 0 ∧ x.zfc = false ∧ x.rzr = false) t)))
    ∧ (usable → z.active = true ∨ z.state = zEmpty → s.dev.zon.waits = [] →
        (relocating zi s.dev = true → Answers (.zoneFinish zi) s (fun t => t.dev.rdata = stOk
          ∧ t.dev.zon = { s.dev.zon with waits := [(zi, 2)] }))
        ∧ (relocating zi s.dev = false → Answers (.zoneFinish zi) s (fun t => t.dev.rdata = stOk ∧ t.dev.zon.waits = []
          ∧ t.dev.zon.ctx = s.dev.zon.ctx.erase zi ∧ changes (fun x => x.state = zFull ∧ x.wp = x.cap) t)))
    ∧ (usable → z.active = true ∨ z.state = zEmpty →
        let o := openStatus zi z (zoneGet zi s.dev).1
        (o.2 ≠ 0 → Answers (.zoneOpen zi) s (keeps o.2))
        ∧ (o.2 = 0 → z.state = zExplicit → Answers (.zoneOpen zi) s (keeps stOk))
        ∧ (o.2 = 0 → z.state ≠ zExplicit → Answers (.zoneOpen zi) s (fun t =>
            let z' := { z with state := zExplicit, par := if z.state = zEmpty then nsPar z.ns s.dev else z.par }
            t.dev.rdata = stOk ∧ zi ∈ t.dev.zon.ctx ∧ t.dev.hands = s.dev.hands ∧ changes (· = z') t
              ∧ (jnlReady s.dev = true → s.dev.zon.jwait = [] → SameMemory (zoneWrite zi z' 0 (takeCtx zi o.1)) t.dev))))
    ∧ (usable → z.isOpen = true → Answers (.zoneClose zi) s (fun t => t.dev.rdata = stOk ∧ t.dev.zon.ctx = s.dev.zon.ctx
        ∧ t.dev.hands = s.dev.hands ∧ changes (· = { z with state := zClosed }) t
        ∧ (jnlReady s.dev = true → s.dev.zon.jwait = [] →
            SameMemory (zoneWrite zi { z with state := zClosed } 0 (zoneGet zi s.dev).1) t.dev)))
    ∧ (usable → z.state = zClosed → Answers (.zoneClose zi) s (keeps stOk))
    ∧ (z.active = true → rd ZON_CTL_SLIPFIN s.dev ≤ z.slips → Answers (.zoneFinishByDevice zi) s (fun t =>
        changes (fun x => x.state = zFull ∧ x.zfc = true ∧ x.wp = x.cap) t))
    ∧ (z.active = false → Answers (.zoneFinishByDevice zi) s (fun t => t.dev.zon = s.dev.zon ∧ t.dev.hands = s.dev.hands))

/-- The zone tables, relocation, reconstruction and scans (R194, R204, R205, R210, R213, R214): a table loads while the dealer is
disabled and its entries are in force, or BAD says why not; an order for a record that is not there is refused; a relocation
takes the lowest spare, without one its data goes to the vault, and a zone that has nothing to relocate any more is passed over; with nothing open it commits; a stripe that cannot be
reconstructed fails, one that can delivers the sector; a scan is busy until no work of it is left. -/
def Obligations.TablesRelocationAndScans : Prop :=
  ∀ (s : State), running s →
    (isSet NVME_CSTS_RDY s.dev = true → Answers .zoneTableLoad s (fun t => rd ZON_CTL_BAD t.dev = 1
        ∧ OnlyFieldsAndEvents [ZON_CTL_BAD] s.dev t.dev))
    ∧ (isSet NVME_CSTS_RDY s.dev = false →
        ((nsTable s.dev).2 = none → Answers .zoneTableLoad s (fun t => rd ZON_CTL_BAD t.dev = 1 ∧ t.dev.zon = s.dev.zon))
        ∧ (∀ es, (nsTable s.dev).2 = some es → nsTableOk es (nsTable s.dev).1 = true → Answers .zoneTableLoad s (fun t =>
            rd ZON_CTL_VALID t.dev = 1 ∧ (∀ i e, es[i]? = some e → nsEntry i t.dev = e) ∧ t.dev.arms = s.dev.arms)))
    ∧ (∀ v, (bitOf v 20 = false ∨ isSet ZON_RELOC_BUSY s.dev = true → Answers (.relocationOrder v) s (fun t =>
          OnlyFields [ZON_RELOC_REC, ZON_RELOC_REFUSED] s.dev t.dev))
        ∧ (bitOf v 20 = true → isSet ZON_RELOC_BUSY s.dev = false → rd ZON_NREC_NREC s.dev ≤ bits v 0 20 →
          Answers (.relocationOrder v) s (fun t => rd ZON_RELOC_REFUSED t.dev = 1
            ∧ OnlyFieldsAndEvents [ZON_RELOC_REC, ZON_RELOC_REFUSED] s.dev t.dev))
        ∧ (bitOf v 20 = true → isSet ZON_RELOC_BUSY s.dev = false → bits v 0 20 < rd ZON_NREC_NREC s.dev → bitOf v 22 = false →
            s.dev.zon.queue = [] → s.dev.zon.cur = none →
            (zoneGet (bits v 0 20) (wr ZON_RELOC_REC (bits v 0 20) s.dev)).2.active = true → Answers (.relocationOrder v) s (fun t =>
              rd ZON_RELOC_BUSY t.dev = 1 ∧ t.dev.zon = { s.dev.zon with queue := [bits v 0 20] } ∧ t.dev.hands = s.dev.hands)))
    ∧ (s.dev.zon.cur.isSome = true ∨ s.dev.zon.queue = [] → exec .relocationStart s = .next s)
    ∧ (∀ zi rest, s.dev.zon.cur = none → s.dev.zon.queue = zi :: rest →
        let g := zoneGet zi { s.dev with zon := { s.dev.zon with queue := rest } }
        let s1 := findSpare (some g.2.arm) g.1
        let found := s1.2.isSome
        let runs := g.2.active = true ∨ g.2.state = zFull ∨ g.2.state = zReadOnly
        (¬runs → Answers .relocationStart s (fun t => t.dev.zon = { s.dev.zon with queue := rest }
          ∧ rd ZON_RELOC_BUSY t.dev = (if rest = [] then 0 else 1) ∧ t.dev.hands = s.dev.hands ∧ t.dev.arms = s.dev.arms))
        ∧ (runs → ∀ r sp, s1.2 = some (r, sp) → Answers .relocationStart s (fun t =>
          t.dev.zon.cur = some ⟨zi, r, offsWritten zi g.2 g.1, [], []⟩
          ∧ t.dev.zon.queue = rest ∧ rd ZON_RELOC_BUSY t.dev = 1
          ∧ rd (ZON_SPARE_FREE sp.arm) t.dev = (rd (ZON_SPARE_FREE sp.arm) s.dev - 1) % 2 ^ 20))
        ∧ (runs → found = false → (findSpare none s1.1).2 = none → Answers .relocationStart s (fun t =>
            t.dev.zon = { s.dev.zon with queue := rest } ∧ t.dev.vault.want = s.dev.vault.want ++ [.noSpare zi]
            ∧ t.dev.hands = s.dev.hands)))
    ∧ (s.dev.zon.cur = none → exec .relocationCommit s = .next s)
    ∧ (∀ c, s.dev.zon.cur = some c →
        let left := (List.range 4).any (fun n => (hand n s.dev).any (fun w =>
          (w.kind == .relocRead || w.kind == .relocWrite) && w.zrec == c.zi))
        (left = true → exec .relocationCommit s = .next s)
        ∧ (left = false → s.dev.zon.waits = [] → Answers .relocationCommit s (fun t => t.dev.zon.cur = none
          ∧ t.dev.zon.queue = s.dev.zon.queue ∧ rd ZON_RELOC_BUSY t.dev = (if s.dev.zon.queue = [] then 0 else 1)
          ∧ t.dev.arms = s.dev.arms ∧ (jnlReady s.dev = false → ∃ a b : Zone, a.reloc = false ∧ b.spare = false ∧ b.state = zOffline
            ∧ t.dev.zon.jwait = s.dev.zon.jwait ++ [⟨c.zi, a, 0, [], []⟩, ⟨c.spare, b, 0, [], []⟩]))))
    ∧ (∀ (n : ArmId) x xs, (arm n s.dev).ladder = x :: xs →
        (x.rung ≠ 10 ∨ x.pass = true → exec (.zoneReconstruct n) s = .next s)
        ∧ (x.rung = 10 → x.pass = false → Answers (.zoneReconstruct n) s (fun t =>
            (arm n t.dev).ladder = { x with pass := true, mask := x.mask ||| 2 ^ 10 } :: xs ∧ SameMemory s.dev t.dev))
        ∧ (∀ w read, work n x.work s.dev = some w → x.rung = 10 → x.pass = true →
            let o := w.zofs + x.sec
            let z := (zoneGet w.zrec s.dev).2
            (stripeComplete w.zrec z (o / 64) s.dev = false → Answers (.zoneReconstructDone n read) s (fun t =>
              (page pgZon s.dev).raw.getLsbD 7 = false → (page pgZon t.dev).stat.getLsbD 7 = true))
            ∧ (∀ bs c, stripeComplete w.zrec z (o / 64) s.dev = true → rd (TST_FRC_RUNGMASK n) s.dev = 0 → s.dev.deal.blks = [] →
                s.dev.zon.parHeld = [] → erased (o % 64) ((List.range 64).filterMap (fun j => if j = o % 64 then none
                  else (read.find? (fun r => r.pos.val == j)).map (fun r => (j, r.bytes)))) = some bs →
                tagFits w x.sec (tagOf (bs.drop 4096)) = true → w.kind = .relocRead → s.dev.zon.cur = some c → xs = [] →
                Answers (.zoneReconstructDone n read) s (fun t => (arm n t.dev).ladder = []
                  ∧ t.dev.zon.cur = some { c with buf := Store.put [] o (bs.take 4112) c.buf }
                  ∧ ((page pgZon s.dev).raw.getLsbD 6 = false → (page pgZon t.dev).stat.getLsbD 6 = true)))))
    ∧ (s.dev.zon.mcHeld = [] → exec .mediaCacheEntryComplete s = .next s)
    ∧ (∀ h rest, s.dev.zon.mcHeld = h :: rest →
        (mcEnter h s.dev = none → exec .mediaCacheEntryComplete s = .next s)
        ∧ ((mcEnter h s.dev).isSome = true → Answers .mediaCacheEntryComplete s (fun t => t.dev.zon.mcHeld = rest
            ∧ t.dev.zon.mcSeq = (mcNext h.ns h.lba s.dev).2 ∧ t.dev.arms = s.dev.arms ∧ t.dev.hands = s.dev.hands)))
    ∧ (∀ (n : ArmId) v,
        (bitOf v 20 = false → Answers (.scanStart n v) s (fun t => OnlyFields [ZON_SCAN_REC n, ZON_SCAN_RUNGTHR n] s.dev t.dev))
        ∧ (bitOf v 20 = true → isSet (ZON_SCAN_BUSY n) s.dev = false → Answers (.scanStart n v) s (fun t =>
            rd (ZON_SCAN_BUSY n) t.dev = 1 ∧ rd (ZON_SCAN_REC n) t.dev = bits v 0 20 ∧ t.dev.arms = s.dev.arms
              ∧ (rd ZON_NREC_NREC s.dev ≤ bits v 0 20 → t.dev.hands = s.dev.hands)))
        ∧ (isSet (ZON_SCAN_BUSY n) s.dev = true → (hand n s.dev).any (fun w => w.kind == .scanRead) = false →
            Answers (.scanEnd n) s (fun t => rd (ZON_SCAN_BUSY n) t.dev = 0 ∧ OnlyFieldsAndEvents [ZON_SCAN_BUSY n] s.dev t.dev))
        ∧ ((hand n s.dev).any (fun w => w.kind == .scanRead) = true → exec (.scanEnd n) s = .next s))

/-! ## Host endpoint (R218 to R239) -/

/-- The link and the host's configuration and register requests (R218, R220 to R225, R227, R238): the link comes up at 2.5 GT/s in L0;
its loss or a Hot Reset discards what was to be sent, ends every command and takes the queues; a retrain, L1 and LTR do what
they say; a configuration write changes read/write bits and clears bits cleared by writing 1, no other; BAR0 reaches the NVMe registers and
the MSI-X table where memory space is enabled, is an Unsupported Request otherwise, and waits while a window commit is in progress; the host lock shuts the vendor pages. -/
def Obligations.HostLinkAndRequests : Prop :=
  ∀ (s : State), running s →
    (∀ w rev, w = 1 ∨ w = 2 ∨ w = 4 → linkIsUp s.dev = false → linkBarred s.dev = false → dealerRests s.dev →
        Answers (.dlUp w rev) s (fun t => linkIsUp t.dev = true ∧ rd HEP_LINKSTAT_SPEED t.dev = 1 ∧ rd HEP_LINKSTAT_WIDTH t.dev = w
          ∧ rd HEP_LINKSTAT_PMSTATE t.dev = 0 ∧ rd HEP_LINKSTAT_REVERSED t.dev = (if rev then 1 else 0)
          ∧ OnlyFieldsAndEvents [HEP_LINKSTAT_DLUP, HEP_LINKSTAT_SPEED, HEP_LINKSTAT_WIDTH, HEP_LINKSTAT_PMSTATE, HEP_LINKSTAT_REVERSED]
              s.dev t.dev))
    ∧ (∀ w rev, linkIsUp s.dev = true ∨ linkBarred s.dev = true → exec (.dlUp w rev) s = .next s)
    ∧ (linkIsUp s.dev = true → ∀ c : Instr, c = .dlDown ∨ c = .hotReset → Answers c s (fun t => linkIsUp t.dev = false
        ∧ rd HEP_LINKSTAT_PMSTATE t.dev = 3 ∧ t.dev.host.out = [] ∧ t.dev.host.reads = [] ∧ t.dev.host.todo = []
        ∧ t.dev.deal.sqs = [] ∧ t.dev.deal.cqs = [] ∧ ctxList t.dev = []
        ∧ t.dev.deal.blks.map (fun b => { b with ctx := none })
          = (s.dev.deal.blks.filter (fun b => b.accepted)).map (fun b => { b with ctx := none }) ∧ rd NVME_CC_EN t.dev = 0 ∧ rd NVME_CSTS_RDY t.dev = 0
        ∧ (∀ off, (cfgRow off).sticky = true → cfg off t.dev = cfg off s.dev)
        ∧ (∀ off, (cfgRow off).sticky = false → cfg off t.dev = (cfgRow off).rst) ∧ SameMemory s.dev t.dev ∧ t.otp = s.otp))
    ∧ (linkIsUp s.dev = false → ∀ sp w v off rq, exec .dlDown s = .next s ∧ exec .hotReset s = .next s
        ∧ exec (.linkRetrain sp w) s = .next s ∧ exec .aspmL1Entry s = .next s ∧ exec (.configRequest off rq) s = .next s
        ∧ ∀ n env, exec (.hostBar0Request off n v env) s = .next s)
    ∧ (linkIsUp s.dev = true →
        (∀ sp w, 1 ≤ sp → sp ≤ 5 → w = 1 ∨ w = 2 ∨ w = 4 → Answers (.linkRetrain sp w) s (fun t => rd HEP_LINKSTAT_SPEED t.dev = sp
          ∧ rd HEP_LINKSTAT_WIDTH t.dev = w ∧ rd HEP_LINKSTAT_PMSTATE t.dev = 0
          ∧ OnlyFieldsAndEvents [HEP_LINKSTAT_SPEED, HEP_LINKSTAT_WIDTH, HEP_LINKSTAT_PMSTATE] (linkL0 s.dev) t.dev))
        ∧ (aspmL1 s.dev = true → linkIdle s.dev = true →
            Answers .aspmL1Entry s (fun t => rd HEP_LINKSTAT_PMSTATE t.dev = (if aspmL12 s.dev then 2 else 1)
              ∧ OnlyFields [HEP_LINKSTAT_PMSTATE] s.dev t.dev))
        ∧ (linkIdle s.dev = false → exec .aspmL1Entry s = .next s)
        ∧ (∀ v, ltrOn s.dev = true → rd HEP_ASPMCTL_LTRVAL s.dev ≠ v % 1024 → Answers (.ltrSend v) s (fun t =>
            rd HEP_ASPMCTL_LTRVAL t.dev = v % 1024 ∧ t.dev.host.ltrSent = s.dev.host.ltrSent ++ [v % 1024]
              ∧ rd HEP_LINKSTAT_PMSTATE t.dev = 0)))
    ∧ (∀ v, ltrOn s.dev = false ∨ rd HEP_ASPMCTL_LTRVAL s.dev = v % 1024 → Answers (.ltrSend v) s (fun t =>
        rd HEP_ASPMCTL_LTRVAL t.dev = v % 1024 ∧ OnlyFields [HEP_ASPMCTL_LTRVAL] s.dev t.dev))
    ∧ (∀ off, linkIsUp s.dev = true → off < 4096 → off % 4 = 0 →
        (s.dev.host.out = [] → Answers (.configRequest off none) s (fun t => t.dev.rdata = cfgRead off s.dev
          ∧ OnlyFields [HEP_LINKSTAT_PMSTATE] { linkL0 s.dev with rdata := t.dev.rdata, ur := false } t.dev))
        ∧ (∀ v, off ≠ 0x044 → off ≠ 0x050 → off ≠ 0x098 → Answers (.configRequest off (some (v, 15))) s (fun t =>
            (∀ k, k < 32 → (cfg off t.dev).testBit k =
              if (cfgRow off).rw.testBit k then v.testBit k else (cfg off s.dev).testBit k && !((cfgRow off).w1c.testBit k && v.testBit k))
            ∧ (∀ o, o ≠ off → cfg o t.dev = cfg o s.dev) ∧ SameMemory s.dev t.dev ∧ SameDealer s.dev t.dev)))
    ∧ (∀ env, linkIsUp s.dev = true → isSet HEP_WINCOMMIT_BUSY s.dev = false →
        (memOn s.dev = true →
          (s.dev.host.out = [] → Answers (.hostBar0Request 0x1C 4 none env) s (fun t => t.dev.rdata
            = (rd NVME_CSTS_RDY s.dev + 2 * rd NVME_CSTS_CFS s.dev + 4 * rd NVME_CSTS_SHST s.dev) % 2 ^ 32 ∧ t.dev.ur = false
            ∧ SameMemory s.dev t.dev ∧ t.otp = s.otp))
          ∧ (∀ v, v < 2 ^ 32 → Answers (.hostBar0Request 0x24 4 (some v) env) s (fun t => rd NVME_AQA_ASQS t.dev = bits v 0 12
            ∧ rd NVME_AQA_ACQS t.dev = bits v 16 12 ∧ t.dev.ur = false
            ∧ OnlyFields [NVME_AQA_ASQS, NVME_AQA_ACQS] { linkL0 s.dev with ur := false } t.dev ∧ t.otp = s.otp))
          ∧ (∀ (k x : Nat), k < 65 → x < 2 ^ 32 → Answers (.hostBar0Request (0x2000 + 16 * k + 12) 4 (some x) env) s (fun t =>
              (Store.get MsixEntry.reset k t.dev.host.msix).masked = bitOf x 0 ∧ SameMemory s.dev t.dev ∧ SameArms s.dev t.dev)))
        ∧ (∀ off n v, memOn s.dev = false → off < 0x10000 → Answers (.hostBar0Request off n v env) s (fun t => t.dev.ur = true
            ∧ (cfg 0x078 t.dev).testBit 19 = true ∧ SameMemory s.dev t.dev ∧ SameDealer s.dev t.dev ∧ t.otp = s.otp))
        ∧ (∀ off v, isSet GLB_HOSTACC_LOCK s.dev = true → off % 4 = 0 → 0x100000 ≤ off → off < 0x170000 →
            Answers (.hostBar0Request off 4 v env) s (fun t => t.dev.ur = true ∧ SameMemory s.dev t.dev ∧ SameArms s.dev t.dev
              ∧ SamePower s.dev t.dev ∧ SameDealer s.dev t.dev ∧ t.otp = s.otp)))
    ∧ (∀ off n v env, linkIsUp s.dev = true → isSet HEP_WINCOMMIT_BUSY s.dev = true → Answers (.hostBar0Request off n v env) s (fun t =>
        t.dev = { s.dev with host := { s.dev.host with held := s.dev.host.held ++ [.bar off n v env] } } ∧ t.otp = s.otp))
    ∧ Answers .hostAccessLock s (fun t => rd GLB_HOSTACC_LOCK t.dev = 1 ∧ OnlyFields [GLB_HOSTACC_LOCK] s.dev t.dev)

/-- Peer windows, completions and received errors (R226 to R236): a request to BAR2 reaches the window that takes all of it in, writes no
read-only window, and waits during a commit; a commit that fails a check says which, one that passes installs the whole mapping
at once; a read that has all its bytes, has failed or has timed out is no longer
outstanding; a received error sets its AER bit. -/
def Obligations.WindowsCompletionsAndErrors : Prop :=
  ∀ (s : State), running s →
    (∀ r : WinReq, linkIsUp s.dev = true →
        (isSet HEP_WINCOMMIT_BUSY s.dev = true → Answers (.windowRequest r) s (fun t =>
          t.dev = { s.dev with host := { s.dev.host with held := s.dev.host.held ++ [.win r] } }))
        ∧ (isSet HEP_WINCOMMIT_BUSY s.dev = false →
          let d := { linkL0 s.dev with ur := false }
          (memOn s.dev = false ∨ winOf r.off r.len s.dev = none → Answers (.windowRequest r) s (fun t => t.dev.ur = true
            ∧ SameMemory s.dev t.dev ∧ SameArms s.dev t.dev ∧ SameDealer s.dev t.dev))
          ∧ (∀ w, memOn s.dev = true → winOf r.off r.len s.dev = some w →
            let a := w.target + (r.off - w.base)
            (∀ bs, r.data = some bs → w.ro = true → Answers (.windowRequest r) s (fun t => t.dev.ur = true ∧ SameMemory s.dev t.dev))
            ∧ (∀ bs, r.data = some bs → w.ro = false → memUp a s.dev = true → Answers (.windowRequest r) s (fun t =>
                t.dev = memWrite a (bs.take r.len) none d))
            ∧ (r.data = none → s.dev.host.out = [] → memUp a s.dev = true →
                (∀ bs, (memRead a r.len d).2 = some bs → Answers (.windowRequest r) s (fun t =>
                  t.dev = { (memRead a r.len d).1 with rdata := leNat bs }))
                ∧ ((memRead a r.len d).2 = none → Answers (.windowRequest r) s (fun t => t.dev.rdata = 2 ^ (8 * r.len) - 1
                  ∧ SameMemory (memRead a r.len d).1 t.dev))))))
    ∧ (∀ r, linkIsUp s.dev = false → exec (.windowRequest r) s = .next s)
    ∧ (isSet HEP_WINCOMMIT_BUSY s.dev = true → exec .windowCommit s = .next s)
    ∧ (isSet HEP_WINCOMMIT_BUSY s.dev = false →
        (∀ n k, commitCheck s.dev = some (n, k) → n < 16 → k < 8 → Answers .windowCommit s (fun t => rd HEP_WINCOMMIT_BAD t.dev = 1
          ∧ rd HEP_WINCOMMIT_BADWIN t.dev = n ∧ rd HEP_WINCOMMIT_REASON t.dev = k ∧ t.dev.host.act = s.dev.host.act
          ∧ OnlyFieldsAndEvents [HEP_WINCOMMIT_BAD, HEP_WINCOMMIT_BADWIN, HEP_WINCOMMIT_REASON] s.dev t.dev))
        ∧ (commitCheck s.dev = none → Answers .windowCommit s (fun t => rd HEP_WINCOMMIT_BUSY t.dev = 1
          ∧ t.dev.host = { s.dev.host with next := some (stagedSet s.dev) } ∧ SameMemory s.dev t.dev)))
    ∧ (s.dev.host.next = none → exec .windowCommitInstall s = .next s)
    ∧ (∀ m, s.dev.host.next = some m → s.dev.host.held = [] → Answers .windowCommitInstall s (fun t => t.dev.host.act = m
        ∧ t.dev.host.next = none ∧ rd HEP_WINCOMMIT_BUSY t.dev = 0 ∧ rd HEP_WINACT_EN t.dev = winMask m Win.en % 2 ^ 16
        ∧ OnlyFieldsAndEvents [HEP_WINACT_EN, HEP_WINACT_RDONLY, HEP_WINCOMMIT_BUSY] s.dev t.dev))
    ∧ (∀ tag r, readOf tag s.dev = some r →
        (∀ bytes hdr, (r.got ++ bytes).length < r.len → Answers (.completionReceived tag 0 false bytes hdr) s (fun t =>
          t.dev.host.reads = s.dev.host.reads.map (fun q => if q.tag = tag then { q with got := r.got ++ bytes } else q)
            ∧ t.dev.deal = s.dev.deal ∧ SameMemory s.dev t.dev))
        ∧ (∀ bytes hdr, r.len ≤ (r.got ++ bytes).length → r.use = .dead → dealerRests s.dev →
            Answers (.completionReceived tag 0 false bytes hdr) s (fun t =>
              t.dev.host.reads = s.dev.host.reads.filter (fun q => q.tag != tag) ∧ t.dev.deal = s.dev.deal ∧ SameMemory s.dev t.dev))
        ∧ (∀ q i bytes hdr, r.use = .submission q i true → dealerRests s.dev → Answers (.completionReceived tag 1 false bytes hdr) s
            (fun t => rd NVME_CSTS_CFS t.dev = 1 ∧ t.dev.host.reads = s.dev.host.reads.filter (fun q => q.tag != tag)))
        ∧ (timesReads s.dev = false ∨ s.dev.time < r.sentAt + readTimeout s.dev → exec (.completionTimeout tag) s = .next s)
        ∧ (timesReads s.dev = true → r.sentAt + readTimeout s.dev ≤ s.dev.time → r.use = .dead → dealerRests s.dev → Answers (.completionTimeout tag) s (fun t =>
            t.dev.host.reads = s.dev.host.reads.filter (fun q => q.tag != tag) ∧ (cfg 0x104 t.dev).testBit 14 = true
              ∧ ((page pgHep s.dev).raw.getLsbD 2 = false → (page pgHep t.dev).stat.getLsbD 2 = true))))
    ∧ (∀ tag, readOf tag s.dev = none → exec (.completionTimeout tag) s = .next s)
    ∧ (∀ hdr, exec (.receivedTlpError .ignored hdr) s = .next s
        ∧ (∀ e k, (e, k) ∈ [(TlpError.unsupported, 20), (.poisonedWrite, 12), (.malformed, 18), (.flowControl, 13), (.overflow, 17),
              (.dataLink, 4)] → Answers (.receivedTlpError e hdr) s (fun t => (cfg 0x104 t.dev).testBit k = true
            ∧ OnlyFieldsAndEvents [HEP_ERRCNT0_URNP, HEP_ERRCNT2_POISON] { s.dev with ur := t.dev.ur } t.dev))
        ∧ (∀ e k, (e, k) ∈ [(TlpError.receiver, 0), (.badTlp, 6), (.badDllp, 7), (.replayRollover, 8), (.replayTimeout, 12)] →
            Answers (.receivedTlpError e hdr) s (fun t => (cfg 0x110 t.dev).testBit k = true
              ∧ (page pgHep t.dev).total = min 0xFFFF ((page pgHep s.dev).total + 1) ∧ t.dev.regs = s.dev.regs)))

/-- An unexpected completion (R231), whole: a completion that matches no outstanding request, or one for a request that has already
failed, changes nothing that its data could reach and is counted. -/
def Obligations.UnexpectedCompletion : Prop :=
  ∀ (s : State) (tag : Nat) (st : Fin 3) (ep : Bool) (bytes hdr : List Nat), running s → readOf tag s.dev = none →
    Answers (.completionReceived tag st ep bytes hdr) s (fun t => t.dev.host.reads = s.dev.host.reads
      ∧ ((page pgHep s.dev).raw.getLsbD 3 = false → (page pgHep t.dev).stat.getLsbD 3 = true)
      ∧ ((page pgHep s.dev).freeze = false → rd HEP_ERRCNT1_UNEXP s.dev < 0xFFFF →
          rd HEP_ERRCNT1_UNEXP t.dev = rd HEP_ERRCNT1_UNEXP s.dev + 1)
      ∧ OnlyFieldsAndEvents [HEP_ERRCNT1_UNEXP] (linkL0 s.dev) t.dev)

/-! ## Dealer and statistics (R240 to R265, R315, R332, R339) -/

/-- The controller and its queues (R224, R240 to R243, R260, R365): enabling takes the admin queues as AQA, ASQ and ACQ give them and
follows firmware to RDY; disabling ends every command that is not accepted and takes the queues; a shutdown stops fetching and is
complete when nothing is open and every accepted write is safe; a doorbell moves its queue, and none is heard while CC.EN = 0; the
next entry is asked for once, and a device without a free context stops fetching. -/
def Obligations.ControllerAndQueues : Prop :=
  ∀ (s : State), running s →
    (∀ v, isSet NVME_CC_EN s.dev = false → bits v 14 2 = 0 → Answers (.ccEnable v) s (fun t => rd NVME_CC_EN t.dev = 1
        ∧ rd NVME_CC_IOSQES t.dev = bits v 16 4 ∧ rd NVME_CC_IOCQES t.dev = bits v 20 4
        ∧ sq 0 t.dev = ⟨true, rd NVME_ASQ_LO s.dev * 4096 + rd NVME_ASQ_HI s.dev * 2 ^ 32, rd NVME_AQA_ASQS s.dev + 1, 0, 0, 0, none⟩
        ∧ cq 0 t.dev = ⟨true, rd NVME_ACQ_LO s.dev * 4096 + rd NVME_ACQ_HI s.dev * 2 ^ 32, rd NVME_AQA_ACQS s.dev + 1, 0, 0, true, true, 0⟩
        ∧ (isSet CMD_CTL_FWRDY s.dev = true → rd NVME_CSTS_RDY t.dev = 1) ∧ SameMemory s.dev t.dev ∧ SameArms s.dev t.dev))
    ∧ (isSet NVME_CC_EN s.dev = true → Answers .ccDisable s (fun t => rd NVME_CC_EN t.dev = 0 ∧ rd NVME_CSTS_RDY t.dev = 0
        ∧ t.dev.deal.sqs = [] ∧ t.dev.deal.cqs = [] ∧ ctxList t.dev = [] ∧ t.dev.host.todo = [] ∧ SameMemory s.dev t.dev
        ∧ t.dev.deal.blks.map (fun b => { b with ctx := none })
            = (s.dev.deal.blks.filter (fun b => b.accepted)).map (fun b => { b with ctx := none })
        ∧ (bits (ccWord s.dev) 14 2 = 0 → rd NVME_CSTS_SHST t.dev = 0)))
    ∧ (rd NVME_CSTS_SHST s.dev = 0 → ∀ abrupt, Answers (.ccShutdown abrupt) s (fun t => rd NVME_CSTS_SHST t.dev = 1
        ∧ rd NVME_CC_SHN t.dev = (if abrupt then 2 else 1) ∧ rd CMD_STAT_NOFETCH t.dev = 1 ∧ t.dev.deal.stop = true))
    ∧ (rd NVME_CSTS_SHST s.dev = 1 → s.dev.deal.ctxs = [] → s.dev.zon.jwait = [] →
        s.dev.deal.blks.all (fun b => b.heldEntry || inVault b s.dev) = true → Answers .shutdownComplete s (fun t =>
          rd NVME_CSTS_SHST t.dev = 2 ∧ OnlyFieldsAndEvents [NVME_CSTS_SHST, CMD_STAT_SHST] s.dev t.dev))
    ∧ (s.dev.deal.ctxs ≠ [] → exec .shutdownComplete s = .next s)
    ∧ (∀ (k : Fin 258) v, isSet NVME_CC_EN s.dev = false → exec (.doorbellWrite k v) s = .next s)
    ∧ (∀ (k : Fin 258) v, isSet NVME_CC_EN s.dev = true →
        (k.val % 2 = 0 → (sq (k.val / 2) s.dev).live = true → v < (sq (k.val / 2) s.dev).size → rd PWS_PSSTAT_STATE s.dev ≠ 4 →
          Answers (.doorbellWrite k v) s (fun t => sq (k.val / 2) t.dev = { sq (k.val / 2) s.dev with tail := v }
            ∧ (∀ j, j ≠ k.val / 2 → sq j t.dev = sq j s.dev) ∧ t.dev.regs = s.dev.regs ∧ SameMemory s.dev t.dev))
        ∧ (k.val % 2 = 1 → (cq (k.val / 2) s.dev).live = true → v < (cq (k.val / 2) s.dev).size →
          Answers (.doorbellWrite k v) s (fun t => (cq (k.val / 2) t.dev).head = v ∧ t.dev.deal.sqs = s.dev.deal.sqs
            ∧ SameMemory s.dev t.dev))
        ∧ ((sq (k.val / 2) s.dev).live = false → (cq (k.val / 2) s.dev).live = false → exec (.doorbellWrite k v) s = .next s))
    ∧ Answers .firmwareReady s (fun t => rd CMD_CTL_FWRDY t.dev = 1 ∧ t.dev.deal.tick.isSome = true
        ∧ (s.dev.deal.tick = none → t.dev.deal.tick = some s.dev.time) ∧ (isSet NVME_CC_EN s.dev = true → rd NVME_CSTS_RDY t.dev = 1))
    ∧ (isSet NVME_CSTS_RDY s.dev = false ∨ s.dev.deal.stop = true ∨ nextSq s.dev = none ∨ fetching s.dev = true →
        exec .submissionFetch s = .next s)
    ∧ (∀ q, isSet NVME_CSTS_RDY s.dev = true → s.dev.deal.stop = false → s.dev.deal.ploss = false → fetching s.dev = false →
        rd PWS_PSSTAT_STATE s.dev ≠ 4 → nextSq s.dev = some q →
        (freeCtx s.dev = none → isSet CMD_STAT_NOFETCH s.dev = false → Answers .submissionFetch s (fun t =>
          rd CMD_STAT_NOFETCH t.dev = 1 ∧ OnlyFieldsAndEvents [CMD_STAT_NOFETCH, CMD_CNT0_CTXWAIT] s.dev t.dev))
        ∧ (∀ i tag, freeCtx s.dev = some i → dealerRests s.dev → linkIsUp s.dev = true → s.dev.host.act.cmbEn = false →
            s.dev.tst.dmaHeld = false → freeTag s.dev = some tag → (sq q s.dev).base % 64 = 0 → Answers .submissionFetch s (fun t =>
              t.dev.host.reads = s.dev.host.reads
                ++ [⟨tag, (sq q s.dev).base + 64 * (sq q s.dev).head, 64, [], .submission q (sq q s.dev).head false, s.dev.time⟩]
              ∧ t.dev.deal.sqs = s.dev.deal.sqs ∧ SameMemory s.dev t.dev)))

/-- Commands on their way (R245 to R251, R257, R261, R374): a command that fails a check completes with its status; a write comes to
the budget check with its time of admission and its charge, a read without held data puts its media work into a hand, a Flush
waits for what is unverified or completes; the write whose check passes takes its copies' places and pulls its data, and
acceptance gives its blocks the next CSN. Abort ends its target or says that it did not; firmware gets the rest, and what it
completes is completed, with Internal Error where its context line is poisoned (R291). -/
def Obligations.CommandsOnTheirWay : Prop :=
  ∀ (s : State) (i : Nat) (x : Ctx), running s → ctx i s.dev = some x → dealerRests s.dev →
    (∀ (c : Instr) (op : Nat), (c, op) ∈ [(Instr.nvmRead i, 2), (.nvmWrite i, 1), (.writeZeroes i, 8), (.zoneAppend i, 0x7D), (.flush i, 0)] →
        (x.stage ≠ .fetched → exec c s = .next s)
        ∧ (x.admin = false → x.opcode = op → x.stage = .fetched → x.phase = 0 → earlier x s.dev = false →
          (cmdStatus x s.dev ≠ 0 → completionRoom x s.dev → Answers c s (fun t => Completed i (cmdStatus x s.dev) x s.dev t.dev
            ∧ SameMemory s.dev t.dev ∧ t.dev.zon = s.dev.zon))
          ∧ (cmdStatus x s.dev = 0 → nsValid x.ns = true → bucketOk x.ns s.dev = false → Answers c s (fun t =>
              ctx i t.dev = some { x with stage := .tokens } ∧ SameMemory s.dev t.dev))
          ∧ (cmdStatus x s.dev = 0 → bucketOk x.ns s.dev = true → nsSealed x.ns s.dev = false →
              (∀ p ∈ ctxList s.dev, p.2.stage ≠ .tokens) →
              (op = 1 ∨ op = 8 ∨ op = 0x7D → Answers c s (fun t => ∃ y, ctx i t.dev = some y ∧ y.stage = .budget
                ∧ y.admitted = s.dev.time ∧ y.lba = x.lba ∧ y.blocks = x.blocks ∧ t.dev.deal.blks = s.dev.deal.blks
                ∧ (nsValid x.ns = true → (tenant x.ns s.dev).en = true → (tenant x.ns t.dev).ilev = (tenant x.ns s.dev).ilev - 1000
                    ∧ (tenant x.ns t.dev).blev = (tenant x.ns s.dev).blev - 1000 * (x.blocks : Int))))
              ∧ (op = 2 → x.blocks = 1 → (nsEntry x.ns s.dev).zoned = false → rcOn s.dev = false → s.dev.deal.blks = [] →
                  Answers c s (fun t => (∃ y, ctx i t.dev = some y ∧ y.stage = .reading ∧ y.left = 1)
                    ∧ ∃ n w, w ∈ hand n t.dev ∧ w.kind = .hostRead ∧ w.ctx = some i ∧ w.ns = x.ns ∧ w.lba = x.lba ∧ w.len = 1))
              ∧ (op = 0 → isSet CMD_CTL_VWC s.dev = false → completionRoom x s.dev →
                  Answers c s (fun t => Completed i stOk x s.dev t.dev ∧ t.dev.deal.blks.length = s.dev.deal.blks.length)))))
    ∧ (∀ places rest, budgetQueue s.dev = (i, x) :: rest → psHolds s.dev = false →
        let l := secondDies x s.dev
        (neverFits l.2 l.1 = true → completionRoom x s.dev → Answers (.budgetCheckPass places) s (fun t =>
          Completed i stInternalDnr x s.dev t.dev))
        ∧ (neverFits l.2 l.1 = false → budgetOk x l.1 = true → roomOk l.2 l.1 = true → placesOk l.2 places l.1 = true → x.opcode = 1 →
            x.zrec = none → s.dev.host.act.cmbEn = false → Answers (.budgetCheckPass places) s (fun t =>
              ctx i t.dev = some { x with stage := .pulling, phase := 4, pull := [], pullLen := 4096 * x.blocks }
              ∧ t.dev.deal.blks = s.dev.deal.blks ++ places.zipIdx.map (fun p =>
                  ⟨some i, 0, x.ns, x.lba + p.2, none, .at p.1.1, .at p.1.2, [], false, false, false, x.slot⟩))))
    ∧ (budgetQueue s.dev = [] → ∀ places, exec (.budgetCheckPass places) s = .next s)
    ∧ (x.stage ≠ .second → exec (.writeAccept i) s = .next s)
    ∧ (x.stage = .second → x.zrec = none → x.fua = false → completionRoom x s.dev → (rebuildWait i s.dev).2 = false →
        (∀ b ∈ s.dev.deal.blks, openBlk i b = true → ∃ a, b.c2 = .at a ∧ memUp a s.dev = true) →
        (firstCopies i (rebuildWait i s.dev).1).2 = true → Answers (.writeAccept i) s (fun t => Completed i stOk x s.dev t.dev
          ∧ nextCsn t.dev = (nextCsn s.dev + 1) % 2 ^ 64
          ∧ t.dev.deal.blks = s.dev.deal.blks.map (fun b =>
              if openBlk i b then { b with accepted := true, csn := nextCsn s.dev, ctx := none }
              else if b.ctx = some i then { b with ctx := none } else b)))
    ∧ (x.admin = true → x.opcode = 8 → x.stage = .fetched →
        (rd CMD_FWQHEAD_HEAD s.dev % fwqSize s.dev + 1) % fwqSize s.dev ≠ rd CMD_FWQTAIL_TAIL s.dev % fwqSize s.dev →
        let v := (memNat (ctxAddr i 40 s.dev) 4 s.dev).2.getD 0
        let named := fun (p : Nat × Ctx) => p.2.sqid == v % 65536 && p.2.cid == v / 65536
        ((ctxList s.dev).find? named = none → Answers (.abort i) s (fun t =>
          ctx i t.dev = some { x with dw0 := 1, stage := .firmware, kind := 2 } ∧ t.dev.zon = s.dev.zon))
        ∧ (∀ k y, (ctxList s.dev).find? named = some (k, y) → k ≠ i → ctx k s.dev = some y → y.admin = false → y.opcode = 2 →
            y.stage ≠ .posting → y.stage ≠ .verifying → y.moving = false → completionRoom y s.dev → Answers (.abort i) s (fun t =>
              Completed k stAborted y s.dev t.dev ∧ ctx i t.dev = some { x with dw0 := 0, stage := .firmware, kind := 2 })))
    ∧ (x.hardware = false → ¬ (x.admin = true ∧ x.opcode = 8) → x.stage = .fetched → zoneEarlier i x s.dev = false →
        let n := fwqSize s.dev
        let h := rd CMD_FWQHEAD_HEAD s.dev % n
        ((h + 1) % n ≠ rd CMD_FWQTAIL_TAIL s.dev % n → Answers (.firmwarePathCommand i) s (fun t =>
          ctx i t.dev = some { x with stage := .firmware, kind := if x.admin then 0 else 1 }
            ∧ rd CMD_FWQHEAD_HEAD t.dev = (h + 1) % n % 2 ^ 14))
        ∧ ((h + 1) % n = rd CMD_FWQTAIL_TAIL s.dev % n → Answers (.firmwarePathCommand i) s (fun t =>
          ctx i t.dev = some { x with stage := .fwqWait, kind := if x.admin then 0 else 1 } ∧ SameMemory s.dev t.dev)))
    ∧ (∀ v, bits v 0 14 = i →
        (x.stage ≠ .firmware → exec (.firmwareCompletion v) s = .next s)
        ∧ (x.stage = .firmware → (memNat (ctxAddr i 0x50 s.dev) 8 s.dev).2 = none → completionRoom x s.dev →
            Answers (.firmwareCompletion v) s (fun t => Completed i stInternal x s.dev t.dev))
        ∧ (x.stage = .firmware → (memNat (ctxAddr i 0x50 s.dev) 8 s.dev).2 ≠ none → x.admin = false ∨ bits v 15 15 ≠ 0 →
            completionRoom x s.dev → Answers (.firmwareCompletion v) s (fun t => Completed i (bits v 15 15) x s.dev t.dev)))

/-- Token buckets, billing and namespace binding (R257, R258, R263, R264, R315, R332, R339): each millisecond the levels of an enabled
tenant rise, at most to their depth; a boundary snapshots the statistics, clears them and takes a bank, or is deferred; a
written bank becomes UNREAD, an acknowledged one EMPTY; a binding is refused or in force; a Timestamp is recorded, a log page sent. -/
def Obligations.TenantsAndBilling : Prop :=
  ∀ (s : State), running s →
    (dealerRests s.dev → (∀ p ∈ ctxList s.dev, p.2.stage ≠ .tokens) → Answers .tokenBucketTick s (fun t => t.dev.regs = s.dev.regs
        ∧ ∀ ns, ns < 255 → let x := tenant ns s.dev
          let ib := rd (TEN_NSCFG3_IBURST ns) s.dev
          let bb := rd (TEN_NSCFG3_BBURST ns) s.dev
          (x.en = true → (tenant ns t.dev).ilev = min (x.ilev + rd (TEN_NSCFG1_IRATE ns) s.dev) (1000 * ib)
            ∧ (tenant ns t.dev).blev = min (x.blev + rd (TEN_NSCFG2_BRATE ns) s.dev) (1000 * bb))
          ∧ (x.en = false → (tenant ns t.dev).ilev = x.ilev ∧ (tenant ns t.dev).blev = x.blev)))
    ∧ (∀ (c : Instr) (cause : Nat), (c, cause) ∈ [(Instr.billingTick, 0), (.billingLatch, 1)] →
        (s.dev.deal.tick = none → exec c s = .next s)
        ∧ (s.dev.deal.tick.isSome = true → s.dev.deal.snap.isSome = true → s.dev.deal.deferred = none → Answers c s (fun t =>
            t.dev.deal = { s.dev.deal with deferred := some cause } ∧ OnlyFields [TEN_LATCH_GO] { s.dev with deal := t.dev.deal } t.dev))
        ∧ (s.dev.deal.tick.isSome = true → s.dev.deal.snap = none → Answers c s (fun t => ∃ sn, t.dev.deal.snap = some sn
            ∧ sn.cause = cause ∧ sn.seq = (rd TEN_SEQ_SEQ s.dev + 1) % 2 ^ 32 ∧ rd TEN_SEQ_SEQ t.dev = sn.seq
            ∧ sn.ns = s.dev.deal.nsStat ∧ sn.arms = s.dev.deal.armStat ∧ t.dev.deal.nsStat = [] ∧ t.dev.deal.armStat = []
            ∧ t.dev.deal.tick = some s.dev.time ∧ rd (bankFld sn.bank) t.dev = 1 ∧ rd TEN_LATCH_GO t.dev = 0
            ∧ (rd TEN_BANKSTAT_STATE0 s.dev = 0 ∨ rd TEN_BANKSTAT_STATE1 s.dev = 0 → sn.overrun = false ∧ rd (bankFld sn.bank) s.dev = 0))))
    ∧ (s.dev.deal.snap = none → exec .bankWriteDone s = .next s)
    ∧ (∀ sn, s.dev.deal.snap = some sn → s.dev.deal.deferred = none → Answers .bankWriteDone s (fun t => t.dev.deal.snap = none
        ∧ rd (bankFld sn.bank) t.dev = 2 ∧ rd TEN_BANKSTAT_LAST t.dev = sn.bank % 2
        ∧ SameMemory (memWrite (rd TEN_BANKBASE_ADDR s.dev * 128 + 0x9000 * sn.bank) (bankBytes sn) none s.dev) t.dev))
    ∧ (∀ v, Answers (.bankAck v) s (fun t => OnlyFields [TEN_BANKSTAT_STATE0, TEN_BANKSTAT_STATE1] s.dev t.dev
        ∧ ∀ b, b < 2 → rd (bankFld b) t.dev = if v.testBit b ∧ rd (bankFld b) s.dev ≠ 1 then 0 else rd (bankFld b) s.dev))
    ∧ (∀ v, let ns := rd CRY_NSSEL_NS s.dev
        (bindRefused ns v s.dev = true → Answers (.namespaceBind v) s (fun t => OnlyFieldsAndEvents [] s.dev t.dev
          ∧ ((page pgCry s.dev).raw.getLsbD 5 = false → (page pgCry t.dev).stat.getLsbD 5 = true)))
        ∧ (bindRefused ns v s.dev = false → Answers (.namespaceBind v) s (fun t => rd (CRY_NSBIND_SLOT ns) t.dev = bits v 0 9
          ∧ rd (CRY_NSBIND_MODE ns) t.dev = bits v 9 1 ∧ rd (CRY_NSBIND_VALID ns) t.dev = bits v 10 1
          ∧ Store.get 0 ns t.dev.deal.bind = (bindCount ns s.dev + 1) % 256 ∧ t.dev.keys = s.dev.keys)))
    ∧ (∀ i data se, (firmwareEntry i 9 s.dev).2 = some se → se.getD 40 0 = 0x0E → data.length = 8 →
        let d := (firmwareEntry i 9 s.dev).1
        d.recd.queue.length < 64 → Answers (.setFeaturesTimestamp i data) s (fun t => t.dev = { d with recd := t.dev.recd }
          ∧ (∃ k, k ≤ d.recd.queue.length ∧ t.dev.recd.queue = d.recd.queue.take k
              ++ ⟨0x301, 0, data.take 7 ++ [1] ++ List.replicate 32 0⟩ :: d.recd.queue.drop k)
          ∧ (d.recd.cycle.1 ≠ d.time → t.dev.recd.queue = d.recd.queue ++ [⟨0x301, 0, data.take 7 ++ [1] ++ List.replicate 32 0⟩])
          ∧ t.dev.recd.slots = d.recd.slots ∧ t.dev.recd.drops = d.recd.drops))
    ∧ (∀ i a n se, (firmwareEntry i 2 s.dev).2 = some se → se.getD 40 0 = 0xC8 →
        let d := (firmwareEntry i 2 s.dev).1
        let len := 4 * (leNat ((se.drop 42).take 4) + 1)
        len ≤ n → Answers (.getLogPageC8 i [(a, n)]) s (fun t => t.dev = sendBytes a (logPage (leNat ((se.drop 48).take 8)) len d) d))

/-! ## Hub cache and memory protection (R271 to R281, R288 to R302) -/

/-- The hub cache (R271 to R281): a new geometry or a newly locked way is written home and emptied first, and neither is taken while a
rule forbids it; a line is zeroed where it stands; the range engine invalidates, cleans or zeroes each line of its range, skips
what it must not touch and says so at its end; a lock operation that misses a requirement is refused; the victim buffer's lines go to
their home or are dropped; the buffer store is laid out once, and only where its areas do not overlap. -/
def Obligations.HubCacheOperations : Prop :=
  ∀ (s : State), running s →
    (∀ v, (rd HCC_LOCK_MASK s.dev ≠ 0 → Answers (.cacheReconfigure v) s (fun t => OnlyFieldsAndEvents [] s.dev t.dev
          ∧ ((page pgHcc s.dev).raw.getLsbD 3 = false → (page pgHcc t.dev).stat.getLsbD 3 = true)))
        ∧ (rd HCC_LOCK_MASK s.dev = 0 → Answers (.cacheReconfigure v) s (fun t => rd HCC_WAYCFG_ASSOC t.dev = bits v 0 2
          ∧ rd HCC_WAYCFG_HASH t.dev = bits v 2 1 ∧ (∀ row w, w < 16 → wayLine row w t.dev = none) ∧ (∀ c, (core c t.dev).dlines = [])
          ∧ ∀ k ln ws, s.dev.cache.lines = [(k, some ⟨ln, true, ws⟩)] → ws.length = 16 → redirected ln s.dev = false →
              t.dev.mem.line ln = ws.map some)))
    ∧ (∀ v, let m := bits v 0 16
        let refused := 12 < popcount m 16 ∨ starvesGroup m s.dev = true ∨ isSet HCC_RCTL_BUSY s.dev = true
        (refused → Answers (.wayLock v) s (fun t => OnlyFieldsAndEvents [] s.dev t.dev))
        ∧ (¬ refused → Answers (.wayLock v) s (fun t => rd HCC_LOCK_MASK t.dev = m
          ∧ ∀ row w, w < 16 → wayLine row w t.dev
              = if m.testBit w && !(rd HCC_LOCK_MASK s.dev).testBit w then none else wayLine row w s.dev)))
    ∧ (∀ v, let ln := bits v 0 28
        (usable (ln * 128) 128 s.dev = false → exec (.czero v) s = .next s)
        ∧ (usable (ln * 128) 128 s.dev = true → isDirect ln s.dev = true → redirected ln s.dev = false → Answers (.czero v) s (fun t =>
            t.dev.mem.line ln = (zeroLine ln).map some ∧ t.dev.cache = s.dev.cache))
        ∧ (∀ w, usable (ln * 128) 128 s.dev = true → isDirect ln s.dev = false → findWay ln s.dev = some w → Answers (.czero v) s
            (fun t => wayLine (setOf ln s.dev).1 w t.dev = some ⟨ln, true, zeroLine ln⟩ ∧ t.dev.mem = s.dev.mem)))
    ∧ (∀ way : Fin 16, isSet HCC_RCTL_BUSY s.dev = true → ∀ c ∈ [Instr.rangeInvalidate, .rangeClean, .rangeCleaninv, .rangeZero,
        .lockfill way, .lockzero way], exec c s = .next s)
    ∧ (∀ (c : Instr) (op w : Nat) (l : CLine), (c, op) ∈ [(Instr.rangeInvalidate, 0), (.rangeClean, 1), (.rangeCleaninv, 2), (.rangeZero, 3)] →
        isSet HCC_RCTL_BUSY s.dev = false → rd HCC_RLEN_LINES s.dev = 1 →
        let ln := rd HCC_RBASE_ADDR s.dev
        let row := (setOf ln s.dev).1
        Answers c s (fun t => rd HCC_RCTL_BUSY t.dev = 1 ∧ rd HCC_RCTL_OP t.dev = op ∧ rd HCC_RPROG_DONE t.dev = 1
          ∧ (page pgHcc t.dev).busy = true ∧ (rangeSkips op ln s.dev = true → t.dev.cache = { s.dev.cache with skipped := true }
              ∧ t.dev.mem = s.dev.mem)
          ∧ (rangeSkips op ln s.dev = false → findWay ln s.dev = some w → wayLine row w s.dev = some l → t.dev.cache.skipped = false
            ∧ (op = 0 → wayLine row w t.dev = none ∧ t.dev.mem = s.dev.mem)
            ∧ (op = 1 → l.dirty = true → redirected ln s.dev = false → l.ws.length = 16 →
                wayLine row w t.dev = some { l with dirty := false } ∧ t.dev.mem.line ln = l.ws.map some)
            ∧ (op = 2 → l.dirty = true → redirected ln s.dev = false → l.ws.length = 16 →
                wayLine row w t.dev = none ∧ t.dev.mem.line ln = l.ws.map some)
            ∧ (op = 3 → isDirect ln s.dev = false → wayLine row w t.dev = some ⟨ln, true, zeroLine ln⟩ ∧ t.dev.mem = s.dev.mem))))
    ∧ (∀ (c : Instr) (op : Nat) (way : Fin 16), (c, op) ∈ [(Instr.lockfill way, 4), (.lockzero way, 5)] → isSet HCC_RCTL_BUSY s.dev = false →
        (lockOpOk way s.dev = false → Answers c s (fun t => rd HCC_RCTL_REFUSED t.dev = 1 ∧ rd HCC_RCTL_BUSY t.dev = rd HCC_RCTL_BUSY s.dev
          ∧ OnlyFieldsAndEvents [HCC_RCTL_OP, HCC_RCTL_WAY, HCC_RCTL_REFUSED] s.dev t.dev))
        ∧ (lockOpOk way s.dev = true → Answers c s (fun t => rd HCC_RCTL_BUSY t.dev = 1 ∧ rd HCC_RCTL_OP t.dev = op
          ∧ rd HCC_RCTL_WAY t.dev = way ∧ rd HCC_RPROG_DONE t.dev = 32768 ∧ (page pgHcc t.dev).busy = true)))
    ∧ (isSet HCC_RCTL_BUSY s.dev = true → Answers .rangeOpDone s (fun t => rd HCC_RCTL_BUSY t.dev = 0 ∧ rd HCC_RCTL_DONE t.dev = 1
        ∧ (page pgHcc t.dev).busy = false ∧ (s.dev.cache.skipped = true → rd HCC_RCTL_ERR t.dev = 1)
        ∧ OnlyFieldsAndEvents [HCC_RCTL_BUSY, HCC_RCTL_DONE, HCC_RCTL_ERR] s.dev t.dev))
    ∧ (isSet HCC_RCTL_BUSY s.dev = false → exec .rangeOpDone s = .next s)
    ∧ (∀ (k : Fin 8) repl, s.dev.cache.vb[k.val]? = none → exec (.victimOffer k repl) s = .next s ∧ exec (.victimAccepted k) s = .next s)
    ∧ (∀ (k : Fin 8) repl e, s.dev.cache.vb[k.val]? = some e →
        let erased := { s.dev with cache := { s.dev.cache with vb := s.dev.cache.vb.eraseIdx k } }
        (e.offered = true → exec (.victimOffer k repl) s = .next s)
        ∧ (e.offered = false → e.line.dirty = false → memKind (e.line.ln * 128) s.dev ≠ some .sdram →
            Answers (.victimOffer k repl) s (fun t => t.dev = erased))
        ∧ (e.offered = false → e.line.dirty = true → memUp (e.line.ln * 128) s.dev = true → Answers (.victimOffer k repl) s (fun t =>
            (∃ a, t.dev.cache.vb[k.val]? = some { e with offered := true, area := a, repl := repl }) ∧ t.dev.mem = s.dev.mem
              ∧ t.dev.regs = s.dev.regs))
        ∧ (e.offered = false → e.line.dirty = true → memUp (e.line.ln * 128) s.dev = false → exec (.victimOffer k repl) s = .next s)
        ∧ (e.offered = false → exec (.victimAccepted k) s = .next s)
        ∧ (e.offered = true → Answers (.victimAccepted k) s (fun t => t.dev.cache.vb = s.dev.cache.vb.eraseIdx k
          ∧ (e.line.dirty = true → redirected e.line.ln s.dev = false → e.line.ws.length = 16 →
              t.dev.mem.line e.line.ln = e.line.ws.map some)
          ∧ (e.line.dirty = false → t.dev.mem = s.dev.mem)
          ∧ (∀ b, e.area = some b → Store.get none e.line.ln t.dev.cache.areas = some (b, e.line.ws)))))
    ∧ (∀ (b : BufId) v mirror, (fitted (.buf b) s.dev = false → exec (.bufCfgWrite mirror b v) s = .next s)
        ∧ (fitted (.buf b) s.dev = true → fwReady s.dev = true → Answers (.bufCfgWrite mirror b v) s (fun t =>
            OnlyFieldsAndEvents [] s.dev t.dev))
        ∧ (fitted (.buf b) s.dev = true → fwReady s.dev = false → (BUF_CFG_VICSZ b).allows (bits v 0 6) = true →
            rd (BUF_MIR_BASE b) s.dev + rd (BUF_MIR_SIZE b) s.dev + bits v 0 6 ≤ 64 → Answers (.bufCfgWrite false b v) s (fun t =>
              rd (BUF_CFG_VICSZ b) t.dev = bits v 0 6 ∧ t.dev.mem = s.dev.mem))
        ∧ (fitted (.buf b) s.dev = true → fwReady s.dev = false → (BUF_MIR_SIZE b).allows (bits v 8 7) = true →
            bits v 0 6 + bits v 8 7 + rd (BUF_CFG_VICSZ b) s.dev ≤ 64 → Answers (.bufCfgWrite true b v) s (fun t =>
              rd (BUF_MIR_BASE b) t.dev = bits v 0 6 ∧ rd (BUF_MIR_SIZE b) t.dev = bits v 8 7
                ∧ SameMemory s.dev t.dev)))

/-- Scrubbing, restoring, the test mode and SDRAM (R290, R295, R297 to R302, R356): a scrubbed line is corrected, left when poisoned, and
poisoned when it has become uncorrectable; a bad copy is written again from the other, or the block is lost; a raw access stores or
reads the word with its check bits, where it is allowed; a fill leaves zeros and nothing else changed. -/
def Obligations.MemoryProtection : Prop :=
  ∀ (s : State), running s →
    (isSet MEP_SCRCTL_EN s.dev = false → ∀ p fl b, exec (.scrubRead p fl) s = .next s ∧ exec (.scrubPassEnd b) s = .next s)
    ∧ (isSet MEP_SCRCTL_EN s.dev = true →
        (∀ b, Answers (.scrubPassEnd b) s (fun t => OnlyFieldsAndEvents [] s.dev t.dev
          ∧ ((page pgMep s.dev).raw.getLsbD (if b then 4 else 3) = false → (page pgMep t.dev).stat.getLsbD (if b then 4 else 3) = true)))
        ∧ (∀ ln flips w0, memKind (ln * 128) s.dev = some .sdram → isSet DRC_STAT_SREF s.dev = false → s.dev.mem.line ln = w0.map some →
            let ws := (flipWords flips w0).map some
            let leaves := fun (l : List Cw) => Answers (.scrubRead (.home ln) flips) s (fun t => t.dev.mem.line ln = l.map some
              ∧ t.dev.deal = s.dev.deal)
            (∀ n, lineClass ln ws = .ok n → leaves (if n = 0 then flipWords flips w0 else fixLine ln ws))
            ∧ (lineClass ln ws = .poisoned → leaves (flipWords flips w0))
            ∧ (∀ k y, lineClass ln ws = .newError k y → s.dev.deal.blks = [] → rcOn s.dev = false → leaves (poisonLine ln ws)))
        ∧ (∀ row (w : Fin 16), wayLine row w s.dev = none → ∀ fl, exec (.scrubRead (.way row w) fl) s = .next s))
    ∧ (∀ a, a % 4096 ≠ 0 ∨ (∀ k, k < 32 → lineBad (a / 128 + k) s.dev = false) → exec (.copyRestore a) s = .next s)
    ∧ (∀ a b, s.dev.deal.blks = [b] → b.accepted = true → b.c1 = .at a → a % 4096 = 0 → memUp a s.dev = true →
        (b.c2 = .lost → lineBad (a / 128) s.dev = true → Answers (.copyRestore a) s (fun t => rd GLB_HEALTH_DATALOSS t.dev = 1
          ∧ ∃ md, t.dev.deal.blks = [{ b with c1 := .lost, c2 := .lost, md := md }]))
        ∧ (∀ q, b.c2 = .at q → q % 128 = 0 → (List.range 32).filter (fun k => lineBad (a / 128 + k) s.dev) = [0] →
            lineBad (q / 128) s.dev = false → isDirect (a / 128) s.dev = true → isDirect (q / 128) s.dev = true →
            redirected (a / 128) s.dev = false → Answers (.copyRestore a) s (fun t => t.dev.deal.blks = s.dev.deal.blks
              ∧ t.dev.mem.line (a / 128)
                = (moveLine (q / 128) (a / 128) ((homeRead (q / 128) false s.dev).2.1.map some)).map some
              ∧ ((page pgMep s.dev).raw.getLsbD 5 = false → (page pgMep t.dev).stat.getLsbD 5 = true))))
    ∧ (isSet MEP_TSTCTL_EN s.dev = false ∨ isSet MEP_TSTCTL_BUSY s.dev = true → exec .testRawWrite s = .next s ∧ exec .testRawRead s = .next s)
    ∧ (isSet MEP_TSTCTL_EN s.dev = true → isSet MEP_TSTCTL_BUSY s.dev = false →
        (testRefused s.dev = true →
          Answers .testRawWrite s (fun t => rd MEP_TSTCTL_ERR t.dev = 1 ∧ SameMemory s.dev t.dev)
          ∧ Answers .testRawRead s (fun t => rd MEP_TSTCTL_ERR t.dev = 1 ∧ SameMemory s.dev t.dev))
        ∧ (testRefused s.dev = false → let w := rd MEP_TSTADDR_ADDR s.dev
          let x := BitVec.ofNat 64 (rd MEP_TSTDATA0_DATA s.dev + 2 ^ 32 * rd MEP_TSTDATA1_DATA s.dev)
          let c := BitVec.ofNat 8 (rd MEP_TSTCHK_CHK s.dev)
          Answers .testRawWrite s (fun t => t.dev.mem.word w = some ⟨x, if isSet MEP_TSTCHK_XOR s.dev then checkBits x w ^^^ c else c⟩
            ∧ rd MEP_TSTCTL_DONE t.dev = 1 ∧ SameArms s.dev t.dev)
          ∧ (∀ y, s.dev.mem.word w = some y → findWay (w / 16) s.dev = none → vbFind (w / 16) s.dev = none →
              Answers .testRawRead s (fun t => rd MEP_TSTDATA0_DATA t.dev = y.d.toNat % 2 ^ 32
                ∧ rd MEP_TSTDATA1_DATA t.dev = y.d.toNat / 2 ^ 32 ∧ rd MEP_TSTCHK_CHK t.dev = y.c.toNat
                ∧ rd MEP_TSTCTL_DONE t.dev = 1 ∧ t.dev.mem = s.dev.mem))))
    ∧ (isSet DRC_FILLCTL_BUSY s.dev = true → ∀ len, exec (.sdramFill len) s = .next s)
    ∧ (∀ len, isSet DRC_FILLCTL_BUSY s.dev = false →
        let r := fillSpan (len % 65536) s.dev
        (fwReady s.dev = true → (dealerRegions s.dev).any (meets r) = true → Answers (.sdramFill len) s (fun t =>
          rd DRC_FILLCTL_ERR t.dev = 1 ∧ OnlyFields [DRC_FILLCTL_LEN, DRC_FILLCTL_ERR] s.dev t.dev))
        ∧ (fwReady s.dev = false → Answers (.sdramFill len) s (fun t => rd DRC_FILLCTL_BUSY t.dev = 1
          ∧ ∀ w, t.dev.mem.word w = if r.1 / 8 ≤ w ∧ w < r.2 / 8 then some (encWord 0 w) else s.dev.mem.word w)))
    ∧ (isSet DRC_FILLCTL_BUSY s.dev = true → Answers .sdramFillDone s (fun t => rd DRC_FILLCTL_BUSY t.dev = 0
        ∧ rd DRC_FILLCTL_DONE t.dev = 1 ∧ rd DRC_MAP_MAPLOCK t.dev = 1
        ∧ OnlyFieldsAndEvents [DRC_FILLCTL_BUSY, DRC_FILLCTL_DONE, DRC_MAP_MAPLOCK] s.dev t.dev))
    ∧ (∀ (ch : Fin 2) (dbl : Bool), Answers (.refreshRateChange ch dbl) s (fun t => (rd DRC_STAT_REFX2 t.dev).testBit ch = dbl
        ∧ OnlyFieldsAndEvents [DRC_STAT_REFX2] s.dev t.dev))
    ∧ (rd PWS_PSSTAT_STATE s.dev = 3 → Answers .selfRefreshEntry s (fun t => rd DRC_STAT_SREF t.dev = 3
        ∧ OnlyFields [DRC_STAT_SREF] s.dev t.dev))
    ∧ (rd PWS_PSSTAT_STATE s.dev ≠ 3 → exec .selfRefreshEntry s = .next s)

/-! ## Cipher engine and key management (R312 to R325) -/

/-- The key management unit and the random source (R312, R313, R316 to R322, R324): an operation is taken from the owner of the lock
only, loads, makes, clears or revokes exactly one key or fails with the code of its failure and changes no key (which code, where two
causes meet, is notes/assumptions/53); the lock goes to who writes its own code, and back when its owner writes 0, with the blob zeroed; health tests, reseeds and start-up tests move the
DRBG into and out of its error state (notes/assumptions/54); a sealed unit is completed as its tag says. -/
def Obligations.CipherAndKeys : Prop :=
  ∀ (s : State) (who : Who), running s → ¬ (who = .host ∧ isSet GLB_HOSTACC_LOCK s.dev = true) →
    let owner := rd KMU_LOCK_OWNER s.dev
    let sameKeys := fun (t : State) => t.dev.keys = s.dev.keys ∧ t.otp = s.otp
    (∀ (c : Instr) (op v : Nat), (c, op) ∈ [(Instr.kmuLoadwrap who v, 0), (.kmuLoadverom who v, 1), (.kmuGenerate who v, 2),
        (.kmuClear who v, 3), (.kmuRevoke who v, 4)] →
        (isSet KMU_STAT_BUSY s.dev = true → exec c s = .next s)
        ∧ (isSet KMU_STAT_BUSY s.dev = false → owner ≠ ownerCode who → Answers c s (fun t => rd KMU_STAT_ERR t.dev = 1 ∧ sameKeys t
            ∧ OnlyFieldsAndEvents [KMU_CMD_OP, KMU_CMD_MODE, KMU_CMD_SLOT, KMU_CMD_VSLOT, KMU_CMD_KEKSEL, KMU_STAT_ERR] s.dev t.dev))
        ∧ (isSet KMU_STAT_BUSY s.dev = false → owner = ownerCode who → Answers c s (fun t => rd KMU_STAT_BUSY t.dev = 1
            ∧ t.dev.kmu = { s.dev.kmu with op := some (op, v) } ∧ rd KMU_CMD_OP t.dev = op ∧ rd KMU_CMD_SLOT t.dev = bits v 4 9
            ∧ (page pgKmu t.dev).busy = true ∧ sameKeys t)))
    ∧ (∀ drawn, s.dev.kmu.op = none → exec (.kmuOpComplete drawn) s = .next s)
    ∧ (∀ op v drawn, s.dev.kmu.op = some (op, v) →
        let slot := bits v 4 9
        let kek := bits v 19 6
        let vs := bits v 13 6
        let gcm := bitOf v 3
        let n := if gcm then 32 else 64
        let wrapped := blobBytes (n + 8) s.dev
        let ends := fun (P : State → Prop) => Answers (.kmuOpComplete drawn) s (fun t => P t ∧ rd KMU_STAT_BUSY t.dev = 0
          ∧ t.dev.kmu.op = none ∧ (page pgKmu t.dev).busy = false)
        let fails := fun (code : Nat) => ends (fun t => rd KMU_STAT_ERR t.dev = code ∧ sameKeys t)
        let loads := fun (k : KeySlot) => ends (fun t => rd KMU_STAT_DONE t.dev = 1 ∧ keySlot slot t.dev = k ∧ t.otp = s.otp
          ∧ ∀ j, j ≠ slot → keySlot j t.dev = keySlot j s.dev)
        let takes := fun (key : List Nat) => (slotBusy slot s.dev = true → fails 4)
          ∧ (slotBusy slot s.dev = false → halvesEqual gcm key = true → fails 5)
          ∧ (slotBusy slot s.dev = false → halvesEqual gcm key = false → loads (keyOf gcm key))
        (op = 0 → (s.otp.usage kek ≠ 1 → fails 3)
          ∧ (s.otp.usage kek = 1 → kwUnwrap (s.otp.veromKey kek) wrapped = none → fails 2)
          ∧ (∀ key, s.otp.usage kek = 1 → kwUnwrap (s.otp.veromKey kek) wrapped = some key → takes key))
        ∧ (op = 0 ∨ op = 1 → Answers (.kmuOpComplete drawn) s (fun t => ∀ w, w < 18 → rd (KMU_BLOB_DATA w) t.dev = 0))
        ∧ (op = 1 → (s.otp.usage vs ≠ 2 → fails 3) ∧ (gcm = false → vs % 2 = 1 ∨ s.otp.usage (vs + 1) ≠ 2 → fails 3)
          ∧ (gcm = true → s.otp.usage vs = 2 → takes (s.otp.veromKey vs))
          ∧ (gcm = false → vs % 2 = 0 → s.otp.usage vs = 2 → s.otp.usage (vs + 1) = 2 → takes (s.otp.veromKey vs ++ s.otp.veromKey (vs + 1))))
        ∧ (op = 2 → (cipherOk s.dev = false → fails 6) ∧ (cipherOk s.dev = true → s.otp.usage kek ≠ 1 → fails 3)
          ∧ (cipherOk s.dev = true → s.otp.usage kek = 1 → takes (drawn.take n)
            ∧ (slotBusy slot s.dev = false → halvesEqual gcm (drawn.take n) = false → Answers (.kmuOpComplete drawn) s (fun t =>
                ∀ w, w < 18 → rd (KMU_BLOB_DATA w) t.dev
                  = leNat (((kwWrap (s.otp.veromKey kek) (drawn.take n)).drop (4 * w)).take 4) % 2 ^ 32))))
        ∧ (op = 3 → (cipherOk s.dev = false → fails 6) ∧ (cipherOk s.dev = true → slotBusy slot s.dev = true → fails 4)
          ∧ (cipherOk s.dev = true → slotBusy slot s.dev = false → loads .empty))
        ∧ (op = 4 → (s.otp.usage vs = 0 ∨ s.otp.usage vs = 3 → fails 3)
          ∧ (s.otp.usage vs ≠ 0 → s.otp.usage vs ≠ 3 → ends (fun t => rd KMU_STAT_DONE t.dev = 1 ∧ t.otp.usage vs = 3
            ∧ t.dev.keys = s.dev.keys ∧ ∀ j, j ≠ vs → t.otp.usage j = s.otp.usage j))))
    ∧ (∀ v : Fin 15, (owner = 0 → v.val + 1 = ownerCode who → Answers (.kmuLockAcquire who v) s (fun t =>
          rd KMU_LOCK_OWNER t.dev = ownerCode who ∧ t.dev.kmu = { s.dev.kmu with lockAt := s.dev.time }))
        ∧ (owner ≠ 0 ∨ v.val + 1 ≠ ownerCode who → exec (.kmuLockAcquire who v) s = .next s))
    ∧ (owner = ownerCode who → Answers (.kmuLockRelease who) s (fun t => rd KMU_LOCK_OWNER t.dev = 0
        ∧ (∀ w, w < 18 → rd (KMU_BLOB_DATA w) t.dev = 0) ∧ sameKeys t
        ∧ OnlyFieldsAndEvents (KMU_LOCK_OWNER :: (List.range 18).map KMU_BLOB_DATA) s.dev t.dev))
    ∧ (owner ≠ ownerCode who → exec (.kmuLockRelease who) s = .next s)
    ∧ Answers (.entropySample true) s (fun t => t.dev = { s.dev with kmu := { s.dev.kmu with srcFail := false } })
    ∧ Answers (.entropySample false) s (fun t => t.dev.kmu = { s.dev.kmu with srcFail := true }
        ∧ (page pgCry t.dev).total = min 0xFFFF ((page pgCry s.dev).total + 1) ∧ sameKeys t
        ∧ (promotes pgCry s.dev = false → rd CRY_RNGSTAT_ERR t.dev = rd CRY_RNGSTAT_ERR s.dev)
        ∧ (promotes pgCry s.dev = true → rd CRY_RNGSTAT_ERR t.dev = 1 ∧ (page pgCry t.dev).fault = true))
    ∧ (isSet CRY_RNGSTAT_ERR s.dev = true → exec .drbgReseed s = .next s ∧ exec .drbgReseedDue s = .next s)
    ∧ (isSet CRY_RNGSTAT_ERR s.dev = false → s.dev.kmu.srcFail = false →
        Answers .drbgReseed s (fun t => rd CRY_RNGCTL_RESEED t.dev = 0 ∧ t.dev.kmu = { s.dev.kmu with late := false })
          ∧ exec .drbgReseedDue s = exec .drbgReseed s)
    ∧ (isSet CRY_RNGSTAT_ERR s.dev = false → s.dev.kmu.srcFail = true →
        Answers .drbgReseed s (fun t => rd CRY_RNGCTL_RESEED t.dev = 1 ∧ OnlyFields [CRY_RNGCTL_RESEED] s.dev t.dev)
        ∧ Answers .drbgReseedDue s (fun t =>
            (s.dev.kmu.late = false → t.dev.kmu = { s.dev.kmu with late := true } ∧ rd CRY_RNGSTAT_ERR t.dev = 0)
            ∧ (s.dev.kmu.late = true → rd CRY_RNGSTAT_ERR t.dev = 1 ∧ (page pgCry t.dev).fault = true)))
    ∧ Answers (.drbgReinit true) s (fun t => rd CRY_RNGSTAT_ERR t.dev = 0 ∧ rd CRY_RNGSTAT_READY t.dev = 1
        ∧ (page pgCry t.dev).fault = false ∧ t.dev.kmu = { s.dev.kmu with srcFail := false, late := false })
    ∧ Answers (.drbgReinit false) s (fun t => rd CRY_RNGSTAT_ERR t.dev = 1 ∧ (page pgCry t.dev).fault = true ∧ sameKeys t)
    ∧ (∀ i, ctx i s.dev = none → exec (.sealedUnitDecrypted i) s = .next s)
    ∧ (∀ i x, ctx i s.dev = some x → completionRoom x s.dev → x.isSealed = true → x.stage = .reading →
        let u := firstUnit x + x.units
        x.sent = 8 * (u + 1) →
        (unitPasses x u s.dev = true → x.abort = false → u = lastUnit x → Answers (.sealedUnitDecrypted i) s (fun t =>
          Completed i stOk x s.dev t.dev))
        ∧ (unitPasses x u s.dev = true → x.abort = true → Answers (.sealedUnitDecrypted i) s (fun t =>
            Completed i stAborted x s.dev t.dev))
        ∧ (unitPasses x u s.dev = false → Answers (.sealedUnitDecrypted i) s (fun t => Completed i 0x2C0 x s.dev t.dev
            ∧ (page pgCry t.dev).stat.getLsbD 0 = true ∧ (∃ extra, t.dev.host.out = s.dev.host.out ++ extra
              ∧ ∀ j, x.lba ≤ j → j < x.lba + x.blocks → j / 8 = u → ∀ sp ∈ blockSpans x (j - x.lba), sp.1 < bitBucket →
                ∀ p ∈ cutSpan sp.1 sp.2 (maxPayload s.dev), OutTlp.zeroFill p.1 p.2 ∈ extra))))

/-- The expiry of the KMU lock (R322), whole: a lock held for 10 ms expires, once an operation in progress has completed; the blob registers are
zeroed, OWNER is 0, the expiry is counted and event bit 2 raised; who has lost the lock finds its operations refused with code 1. -/
def Obligations.KmuLockExpires : Prop :=
  ∀ (s : State), running s →
    (rd KMU_LOCK_OWNER s.dev ≠ 0 → isSet KMU_STAT_BUSY s.dev = false → s.dev.kmu.lockAt + 10 * auxPerMs ≤ s.dev.time →
        Answers .kmuLockExpiry s (fun t => rd KMU_LOCK_OWNER t.dev = 0 ∧ (∀ w, w < 18 → rd (KMU_BLOB_DATA w) t.dev = 0)
          ∧ ((page pgKmu s.dev).raw.getLsbD 2 = false → (page pgKmu t.dev).stat.getLsbD 2 = true)
          ∧ ((page pgKmu s.dev).freeze = false → rd KMU_CNT_EXPIRED s.dev < 0xFFFF →
              rd KMU_CNT_EXPIRED t.dev = rd KMU_CNT_EXPIRED s.dev + 1)
          ∧ OnlyFieldsAndEvents ([KMU_LOCK_OWNER, KMU_CNT_EXPIRED] ++ (List.range 18).map KMU_BLOB_DATA) s.dev t.dev))
    ∧ (isSet KMU_STAT_BUSY s.dev = true ∨ s.dev.time < s.dev.kmu.lockAt + 10 * auxPerMs → exec .kmuLockExpiry s = .next s)
    ∧ (∀ who v, ¬ (who = .host ∧ isSet GLB_HOSTACC_LOCK s.dev = true) → isSet KMU_STAT_BUSY s.dev = false →
        rd KMU_LOCK_OWNER s.dev ≠ ownerCode who → ∀ c ∈ [Instr.kmuLoadwrap who v, .kmuLoadverom who v, .kmuGenerate who v,
          .kmuClear who v, .kmuRevoke who v], Answers c s (fun t => rd KMU_STAT_ERR t.dev = 1 ∧ t.dev.keys = s.dev.keys
            ∧ t.dev.kmu = s.dev.kmu ∧ t.otp = s.otp))

/-! ## The event recorder (R328 to R341) -/

/-- The recorder (R329, R331, R334 to R337, R340, R341): a scan counts what it finds and sets the next SEQ and the power-cycle count;
its end makes the page ready and queues the 0x0300 record. An append takes the counter entry first, then the oldest record, puts
its body, then its mark, and only a complete record counts; a failed program is tried once at another slot, then dropped; a full log
replaces a victim through the spare block or drops the record. Firmware
cannot use the device's codes, and nobody else writes the partition.
Which codes, slots and moments the spec leaves open is in notes/assumptions/56. -/
def Obligations.EventRecorder : Prop :=
  ∀ (s : State), running s →
    let x := s.dev.recd
    let quiet := fun (t : State) => SameMemory s.dev t.dev ∧ SameDealer s.dev t.dev ∧ SameArms s.dev t.dev
    let event := fun (k : Nat) (t : State) => (page pgLog s.dev).raw.getLsbD k = false → (page pgLog t.dev).stat.getLsbD k = true
    (x.dirOk = false ∨ isSet LOG_STAT_SCANNING s.dev = true ∨ isSet LOG_STAT_NOERASE s.dev = true ∨ (page pgLog s.dev).ready = true →
        exec .logScan s = .next s)
    ∧ (x.dirOk = true → isSet LOG_STAT_SCANNING s.dev = false → isSet LOG_STAT_NOERASE s.dev = false → (page pgLog s.dev).ready = false →
        Answers .logScan s (fun t => rd LOG_STAT_SCANNING t.dev = 1 ∧ t.dev.recd.counted = true ∧ t.dev.recd.ctrDue = true
          ∧ t.dev.recd.fixed = true ∧ quiet t
          ∧ rd LOG_SCAN_TORN t.dev = min 0xFFFF (x.slots.filter (fun p => p.2 == .torn)).length
          ∧ rd LOG_SCAN_CRCBAD t.dev = min 0xFFFF (x.slots.filter (fun p => p.2 == .corrupt)).length
          ∧ (isSet PWS_RSTSTAT_POR s.dev = true → rd LOG_PWRCYC_PCC t.dev = ((countsFound x).1 + 1) % 2 ^ 32)
          ∧ (x.slots = [] → rd LOG_SEQ_NEXT t.dev = 1)
          ∧ ∀ f, (logRecs t.dev.recd).getLast? = some f → rd LOG_SEQ_NEXT t.dev = (f.seq + 1) % 2 ^ 32))
    ∧ (isSet LOG_STAT_SCANNING s.dev = false → exec .logScanDone s = .next s)
    ∧ (isSet LOG_STAT_SCANNING s.dev = true → Answers .logScanDone s (fun t => rd LOG_STAT_SCANNING t.dev = 0
        ∧ (page pgLog t.dev).ready = true ∧ event 0 t ∧ quiet t ∧ rd LOG_COUNT_PRESENT t.dev = (logRecs x).length % 2 ^ 17
        ∧ (x.queue.length < 63 → t.dev.recd.queue.any (fun r => r.code == 0x300 && r.sev == 1) = true
            ∧ ∀ r ∈ x.queue, r ∈ t.dev.recd.queue)))
    ∧ (x.nor.isSome = true ∨ isSet LOG_STAT_NOERASE s.dev = true → exec .logAppend s = .next s)
    ∧ (x.nor = none → isSet LOG_STAT_NOERASE s.dev = false → x.ctrDue = true → x.counted = true → Answers .logAppend s (fun t =>
        t.dev = { s.dev with recd := { x with ctrDue := false, nor := some (.counter false) } }))
    ∧ (x.ctrDue = false → (page pgLog s.dev).ready = false ∨ isSet LOG_STAT_STOPPED s.dev = true ∨ x.queue = [] →
        exec .logAppend s = .next s)
    ∧ (∀ r rest, x.nor = none → isSet LOG_STAT_NOERASE s.dev = false → x.ctrDue = false → (page pgLog s.dev).ready = true →
        isSet LOG_STAT_STOPPED s.dev = false → s.dev.deal.ploss = false → x.queue = r :: rest →
        (∀ slot, nextSlot x none = some slot → Answers .logAppend s (fun t => t.dev = { s.dev with recd := { x with
            queue := rest, nor := some (.body slot (rd LOG_SEQ_NEXT s.dev) x.pcc (opsNow s.dev) r false) } }))
        ∧ (∀ v, nextSlot x none = none → x.spare ≠ noBlock → logVictim r.sev s.dev = some v → Answers .logAppend s (fun t =>
            rd LOG_STAT_COPYING t.dev = 1 ∧ t.dev.recd = { x with
              queue := rest, nor := some (.copy (v.slot / 64) v.slot (rd LOG_SEQ_NEXT s.dev) x.pcc (opsNow s.dev) r false) }))
        ∧ (nextSlot x none = none → logVictim r.sev s.dev = none → Answers .logAppend s (fun t => t.dev.recd.nor = none
            ∧ t.dev.recd.slots = x.slots ∧ (page pgLog t.dev).stat.getLsbD 1 = true ∧ rd LOG_SEQ_NEXT t.dev = rd LOG_SEQ_NEXT s.dev)))
    ∧ (∀ ok, x.nor = none → exec (.norOperationDone ok) s = .next s)
    ∧ (∀ slot seq pcc ops r again, x.nor = some (.body slot seq pcc ops r again) →
        Answers (.norOperationDone true) s (fun t => t.dev = { s.dev with recd := { x with
          slots := Store.put .free slot .torn x.slots, nor := some (.mark slot seq pcc ops r again) } })
        ∧ (again = true → promotes pgLog s.dev = false → Answers (.norOperationDone false) s (fun t => t.dev.recd.nor = none
            ∧ (page pgLog t.dev).stat.getLsbD 1 = true ∧ rd LOG_SEQ_NEXT t.dev = rd LOG_SEQ_NEXT s.dev ∧ quiet t))
        ∧ (∀ other, again = false → promotes pgLog s.dev = false →
            nextSlot { x with slots := Store.put .free slot .torn x.slots } (some slot) = some other →
            Answers (.norOperationDone false) s (fun t =>
              t.dev.recd.nor = some (.body other (rd LOG_SEQ_NEXT s.dev) x.pcc (opsNow s.dev) r true) ∧ event 3 t
                ∧ (page pgLog t.dev).total = min 0xFFFF ((page pgLog s.dev).total + 1))))
    ∧ (∀ slot seq pcc ops r again, x.nor = some (.mark slot seq pcc ops r again) → Answers (.norOperationDone true) s (fun t =>
        t.dev.recd.nor = none ∧ t.dev.recd.newest = slot ∧ t.dev.recd.slots = Store.put .free slot (slotOfRec seq pcc ops r) x.slots
          ∧ rd LOG_SEQ_NEXT t.dev = (seq + 1) % 2 ^ 32 ∧ (seq = 0xFFFFFFFE → rd LOG_STAT_STOPPED t.dev = 1)
          ∧ (seq ≠ 0xFFFFFFFE → rd LOG_STAT_STOPPED t.dev = rd LOG_STAT_STOPPED s.dev)
          ∧ rd LOG_COUNT_PRESENT t.dev = (logRecs t.dev.recd).length % 2 ^ 17 ∧ quiet t))
    ∧ (∀ b v seq pcc ops r again, x.nor = some (.copy b v seq pcc ops r again) → x.spare ≠ b → (copyOut b v x.spare x).length < 64 →
        Answers (.norOperationDone true) s (fun t => rd LOG_STAT_COPYING t.dev = 0 ∧ t.dev.recd.nor = none ∧ t.dev.recd.spare = b
          ∧ Store.get .free (64 * x.spare + (copyOut b v x.spare x).length) t.dev.recd.slots = slotOfRec seq pcc ops r
          ∧ (∀ j, j < 64 → Store.get .free (64 * b + j) t.dev.recd.slots = .free) ∧ rd LOG_SEQ_NEXT t.dev = (seq + 1) % 2 ^ 32
          ∧ event 2 t))
    ∧ (∀ again, x.nor = some (.counter again) → Answers (.norOperationDone true) s (fun t => t.dev.recd.nor = none
        ∧ t.dev.recd.ctrNext = (x.ctrNext + 1) % 4096 ∧ Store.get none x.ctrNext t.dev.recd.counters = some ⟨x.pcc, opsNow s.dev⟩
        ∧ t.dev.recd.slots = x.slots ∧ t.dev.regs = s.dev.regs))
    ∧ Answers .counterEntryTick s (fun t => t.dev = { s.dev with recd := { x with ctrDue := true } })
    ∧ (isSet LOG_CTL_MODE s.dev = true ∨ (page pgLog s.dev).ready = false ∨ (page pgLog s.dev).lock = true →
        exec .compatModeFix s = .next s)
    ∧ (isSet LOG_CTL_MODE s.dev = false → (page pgLog s.dev).ready = true → (page pgLog s.dev).lock = false →
        Answers .compatModeFix s (fun t => rd LOG_CTL_MODE t.dev = 1 ∧ OnlyFieldsAndEvents [LOG_CTL_MODE] s.dev t.dev
          ∧ (∀ f, (logRecs x).head? = some f → t.dev.recd.kittyFrom = f.seq)
          ∧ (x.queue.length < 64 → let r : LogRec := ⟨0x302, 4, leBytes (rd LOG_KITTY_COUNT s.dev) 4
                ++ leBytes t.dev.recd.kittyFrom 4 ++ List.replicate 32 0⟩
              t.dev.recd.queue = (logEnter s.dev.time r x).queue ∧ r ∈ t.dev.recd.queue
                ∧ (x.cycle.1 ≠ s.dev.time → t.dev.recd.queue = x.queue ++ [r]))))
    ∧ Answers .logOpsecRead s (fun t => t.dev.rdata = opsNow s.dev % 2 ^ 32 ∧ t.dev.recd.opsHigh = opsNow s.dev / 2 ^ 32
        ∧ rd LOG_OPSECH_OPS t.dev = opsNow s.dev / 2 ^ 32 % 2 ^ 8 ∧ quiet t)
    ∧ (∀ v, let code := bits v 0 16
        let fs := [LOG_FWCTL_CODE, LOG_FWCTL_SEV, LOG_FWCTL_REFUSED]
        (bitOf v 24 = false → Answers (.firmwareLogAppend v) s (fun t => rd LOG_FWCTL_CODE t.dev = code ∧ OnlyFields fs s.dev t.dev))
        ∧ (bitOf v 24 = true → code < 0x1000 → Answers (.firmwareLogAppend v) s (fun t => rd LOG_FWCTL_REFUSED t.dev = 1 ∧ event 5 t
            ∧ OnlyFieldsAndEvents fs s.dev t.dev))
        ∧ (bitOf v 24 = true → 0x1000 ≤ code → x.queue.length < 64 → Answers (.firmwareLogAppend v) s (fun t =>
            let r : LogRec := ⟨code, if bits v 16 3 ≤ 4 then bits v 16 3 else rd LOG_FWCTL_SEV s.dev,
              (List.range 10).flatMap (fun w => leBytes (rd (LOG_FWDATA_DATA w) s.dev) 4)⟩
            t.dev.recd = logEnter s.dev.time r x ∧ r ∈ t.dev.recd.queue
              ∧ (x.cycle.1 ≠ s.dev.time → t.dev.recd.queue = x.queue ++ [r]) ∧ quiet t)))
    ∧ (∀ a n, x.fixed = true → a < x.base + x.size → x.base < a + n → Answers (.norAccessRefused a n none) s (fun t =>
        event 5 t ∧ OnlyFieldsAndEvents [] s.dev t.dev ∧ t.dev.recd.slots = x.slots ∧ t.dev.recd.counters = x.counters))
    ∧ (∀ a n, x.fixed = false ∨ a + n ≤ x.base ∨ x.base + x.size ≤ a → exec (.norAccessRefused a n none) s = .next s)

/-- Reading the log (R338), whole: the valid record with the lowest SEQ at or above the one written, as one unit, and DONE; or, with none, NONE. -/
def Obligations.LogReading : Prop :=
  ∀ (s : State) (v : Nat), running s → isSet LOG_RDSTAT_BUSY s.dev = false → Answers (.logRead v) s (fun t =>
    rd LOG_RDSEQ_SEQ t.dev = v % 2 ^ 32 ∧ t.dev.recd.slots = s.dev.recd.slots ∧ SameMemory s.dev t.dev
      ∧ (∀ f, (logRecs s.dev.recd).find? (fun f => decide (v % 2 ^ 32 ≤ f.seq)) = some f → rd LOG_RDSTAT_DONE t.dev = 1
          ∧ (∀ w i, w < 16 → i < 4 → rd (LOG_RDDATA_DATA w) t.dev / 2 ^ (8 * i) % 256 = (recBytes f).getD (4 * w + i) 0 % 256)
          ∧ rd LOG_RDSTAT_NONE t.dev = rd LOG_RDSTAT_NONE s.dev)
      ∧ ((logRecs s.dev.recd).find? (fun f => decide (v % 2 ^ 32 ≤ f.seq)) = none → rd LOG_RDSTAT_NONE t.dev = 1
          ∧ OnlyFieldsAndEvents [LOG_RDSEQ_SEQ, LOG_RDSTAT_NONE] s.dev t.dev))

/-! ## Thermal management, power states and resets, the vault (R342 to R382) -/

/-- The thermal manager (R343 to R353): every sensor that converts shows its count, one whose die cannot be reached is absent and
invalid, a count outside the converter's range is never valid; a die reading at a step's threshold puts the device into that step; a state
is left one at a time when its margin has held; exclusion and hold as R344 and R348 have them; two conversions at TCRIT, or without
a valid sensor, latch the shutdown. -/
def Obligations.ThermalStates : Prop :=
  ∀ (s : State), running s →
    let event := fun (k : Nat) (t : State) => (page pgThm s.dev).raw.getLsbD k = false → (page pgThm t.dev).stat.getLsbD k = true
    let step := rd THM_STAT_STEP s.dev
    (∀ ns, Answers (.thermalConversion ns) s (fun t =>
        (∀ n, n < 48 → fitted (sensorDie n) s.dev = true →
          (sensing n s.dev = true → rd (THM_TS_RAW n) t.dev = ns.getD n 0 % 65536 ∧ rd (THM_TS_ABSENT n) t.dev = 0
            ∧ (countTrimmed (ns.getD n 0 % 65536) s.dev < 3488000000000 ∨ 4960000000000 < countTrimmed (ns.getD n 0 % 65536) s.dev →
                rd (THM_TS_VALID n) t.dev = 0)
            ∧ (isSet (THM_TS_EXCL n) s.dev = true → rd (THM_TS_VALID n) t.dev = 0))
          ∧ (sensing n s.dev = false → rd (THM_TS_ABSENT n) t.dev = 1 ∧ rd (THM_TS_VALID n) t.dev = 0))
        ∧ (∀ n, n < 12 → rd (THM_TS_VALID n) t.dev ≠ 0 → ∀ k, 1 ≤ k → k ≤ 3 → hotThr k t.dev ≤ rdInt (THM_TS_TEMP n) t.dev →
            k ≤ rd THM_STAT_STEP t.dev)
        ∧ ((∀ n, n < 48 → rd (THM_TS_VALID n) t.dev = 0) → t.dev.thm.noneRun = s.dev.thm.noneRun + 1)
        ∧ ((∃ n, n < 48 ∧ rd (THM_TS_VALID n) t.dev ≠ 0) → t.dev.thm.noneRun = 0)))
    ∧ (1 ≤ step → step ≤ 3 → isSet THM_STAT_HOLD s.dev = false → 1000 ≤ s.dev.thm.relStep →
        Answers (.throttleStepRelease 0) s (fun t => rd THM_STAT_STEP t.dev = step - 1 ∧ t.dev.thm.relStep = 0 ∧ event 1 t
          ∧ (step = 3 → rd CRY_STAT_CAPPCT t.dev = 100) ∧ SameMemory s.dev t.dev ∧ SameDealer s.dev t.dev))
    ∧ (step = 0 ∨ isSet THM_STAT_HOLD s.dev = true ∨ s.dev.thm.relStep < 1000 → exec (.throttleStepRelease 0) s = .next s)
    ∧ (isSet THM_STAT_COLDSTOP s.dev = true → 1000 ≤ s.dev.thm.relCold → Answers (.throttleStepRelease 1) s (fun t =>
        rd THM_STAT_COLDSTOP t.dev = 0 ∧ event 3 t ∧ ∀ n, n < 4 → (rd (WRP_WISTAT_SRC n) t.dev).testBit 7 = false))
    ∧ (isSet THM_STAT_PREHEAT s.dev = true → 1000 ≤ s.dev.thm.relPre → Answers (.throttleStepRelease 2) s (fun t =>
        rd THM_STAT_PREHEAT t.dev = 0 ∧ event 5 t ∧ OnlyFieldsAndEvents [THM_STAT_PREHEAT] s.dev t.dev))
    ∧ (∀ n : Fin 48, let long := rd THM_THRCTL_EXCLT s.dev * 1000 ≤ Store.get 0 n.val s.dev.thm.badRun
        (isSet (THM_TS_EXCL n) s.dev = false → long → Answers (.sensorExclude n) s (fun t => rd (THM_TS_EXCL n) t.dev = 1
          ∧ rd (THM_TS_VALID n) t.dev = 0 ∧ event 7 t ∧ (page pgThm t.dev).err.lasting = true ∧ SameMemory s.dev t.dev))
        ∧ (isSet (THM_TS_EXCL n) s.dev = true ∨ ¬ long → exec (.sensorExclude n) s = .next s))
    ∧ (let freed := { s.dev.thm with holdBy := none };
        (∀ n, s.dev.thm.holdBy = some n → 16 ≤ Store.get 0 n s.dev.thm.goodRun → Answers .holdRelease s (fun t =>
          rd THM_STAT_HOLD t.dev = 0 ∧ t.dev = { s.dev with regs := t.dev.regs, thm := freed }))
        ∧ (∀ n, s.dev.thm.holdBy = some n → Store.get 0 n s.dev.thm.goodRun < 16 → exec .holdRelease s = .next s)
        ∧ (s.dev.thm.holdBy = none → exec .holdRelease s = .next s)
        ∧ Answers .holdReleaseFirmware s (fun t => rd THM_STAT_HOLD t.dev = 0 ∧ t.dev = { s.dev with regs := t.dev.regs, thm := freed }
            ∧ ∀ g : Fld, g.key ≠ THM_STAT_HOLD.key → rd g t.dev = rd g s.dev))
    ∧ (isSet THM_STAT_LATCHED s.dev = true ∨ (s.dev.thm.critRun < 2 ∧ s.dev.thm.noneRun < 2) → exec .shutdownLatch s = .next s)
    ∧ (isSet THM_STAT_LATCHED s.dev = false → 2 ≤ s.dev.thm.critRun ∨ 2 ≤ s.dev.thm.noneRun → Answers .shutdownLatch s (fun t =>
        rd THM_STAT_LATCHED t.dev = 1 ∧ t.dev.recd.ctrDue = true ∧ (page pgThm t.dev).stat.getLsbD 11 = true
          ∧ isSet HEP_LINKSTAT_DLUP t.dev = false ∧ t.dev.deal.stop = true ∧ t.dev.vault.run = none
          ∧ (spState s.dev ≠ spStopped → spState s.dev ≠ spFailed → spState t.dev = spCoast)
          ∧ ∀ n, n < 4 → fitted (.arm n) s.dev = true → dieUp (.arm n) s.dev = true → servo n t.dev = svRetract))

/-- Power states and resets (R356 to R366): an order is taken, discarded or refused with its reason; a transition moves by one state when what
the next state needs has come about; an event wakes PS4; the buffer store is saved and restored around PS3; PERST_N starts one quiesce,
which is late after 1.5 s and ends, with the heads parked and the flush over, in the internal reset. -/
def Obligations.PowerStatesAndResets : Prop :=
  ∀ (s : State), running s →
    let st := psState s.dev
    let goal := s.dev.pws.goal
    let event := fun (k : Nat) (t : State) => (page pgPws s.dev).raw.getLsbD k = false → (page pgPws t.dev).stat.getLsbD k = true
    (∀ v hall, bits v 0 3 ≤ 4 →
        let tg := bits v 0 3
        let deeper := st < tg ∧ 2 ≤ tg
        let refused := fun (reason : Nat) => Answers (.powerStateOrder v hall) s (fun t => rd PWS_PSSTAT_REASON t.dev = reason ∧ event 1 t
          ∧ OnlyFieldsAndEvents [PWS_PSCTL_TARGET, PWS_PSSTAT_REASON] s.dev t.dev)
        (bitOf v 3 = false ∨ (psBusy s.dev = true ∧ ¬ deeper) → Answers (.powerStateOrder v hall) s (fun t =>
          rd PWS_PSCTL_TARGET t.dev = tg ∧ OnlyFields [PWS_PSCTL_TARGET] s.dev t.dev))
        ∧ (bitOf v 3 = true → psBusy s.dev = true → deeper → refused 4)
        ∧ (bitOf v 3 = true → psBusy s.dev = false → deeper → isSet CMD_WBUSE_USED s.dev = true → refused 1)
        ∧ (bitOf v 3 = true → psBusy s.dev = false → deeper → isSet CMD_WBUSE_USED s.dev = false → trumpBusy s.dev = true → refused 2)
        ∧ (bitOf v 3 = true → psBusy s.dev = false → tg = st → Answers (.powerStateOrder v hall) s (fun t => t.dev.pws.goal = tg
            ∧ event 0 t ∧ rd PWS_PSSTAT_BUSY t.dev = rd PWS_PSSTAT_BUSY s.dev ∧ psState t.dev = st))
        ∧ (bitOf v 3 = true → psBusy s.dev = false → st < tg → isSet CMD_WBUSE_USED s.dev = false → trumpBusy s.dev = false →
            s.dev.part.bufs = 0 ∨ saveBaseOk s.dev = true → Answers (.powerStateOrder v hall) s (fun t => t.dev.pws.goal = tg
              ∧ rd PWS_PSSTAT_BUSY t.dev = 1 ∧ rd PWS_PSSTAT_FROM t.dev = st ∧ psState t.dev = st)))
    ∧ (∀ hall, (psBusy s.dev = false → exec (.powerStateReached hall) s = .next s)
        ∧ (psBusy s.dev = true → ¬ (st = 3 ∧ goal < 3 ∧ spState s.dev = spFailed) → legDone s.dev = false →
            exec (.powerStateReached hall) s = .next s)
        ∧ (psBusy s.dev = true → legDone s.dev = true → st < 4 → goal = st + 1 → dealerRests s.dev →
            Answers (.powerStateReached hall) s (fun t => psState t.dev = st + 1 ∧ rd PWS_PSSTAT_BUSY t.dev = 0 ∧ event 0 t
              ∧ (st = 3 → rd DRC_STAT_SREF t.dev = 3) ∧ (st = 2 → ∀ l, l < 6 → isSet (GLB_FLXSTAT_UP l) t.dev = false)))
        ∧ (psBusy s.dev = true → legDone s.dev = true → st = goal + 1 → st ≤ 2 → dealerRests s.dev →
            Answers (.powerStateReached hall) s (fun t => psState t.dev = goal ∧ rd PWS_PSSTAT_BUSY t.dev = 0 ∧ event 0 t)))
    ∧ (let woken := ∃ c, c < 8 ∧ (core c s.dev).pend ≠ [];
        (st = 4 → woken → Answers .ps4Wake s (fun t => psState t.dev = 3 ∧ rd PWS_PSSTAT_FROM t.dev = 4 ∧ t.dev.mem = s.dev.mem
          ∧ t.dev.pws.goal = (if psBusy s.dev then goal else 3) ∧ t.dev.cores = s.dev.cores))
        ∧ (st ≠ 4 ∨ ¬ woken → exec .ps4Wake s = .next s))
    ∧ (let due := psBusy s.dev = true ∧ st = 2 ∧ 3 ≤ goal ∧ s.dev.part.bufs ≠ 0 ∧ s.dev.pws.saved = false ∧ saveBaseOk s.dev = true;
        (due → Answers .bufferSaveDone s (fun t => t.dev.redirect = true ∧ t.dev.pws = { s.dev.pws with saved := true }
          ∧ t.dev.cache.areas = [] ∧ SameArms s.dev t.dev ∧ t.dev.deal = s.dev.deal))
        ∧ (¬ due → exec .bufferSaveDone s = .next s))
    ∧ (let due := psBusy s.dev = true ∧ st = 3 ∧ goal ≤ 2 ∧ s.dev.redirect = true ∧ linksSettled s.dev = true;
        (due → Answers .bufferRestoreDone s (fun t => t.dev.redirect = false
          ∧ t.dev.pws = { s.dev.pws with saved := false, restored := true } ∧ SameArms s.dev t.dev ∧ t.dev.deal = s.dev.deal))
        ∧ (¬ due → exec .bufferRestoreDone s = .next s))
    ∧ (let low := { s.dev with host := { s.dev.host with perst := true } };
        (s.dev.pws.quiesce.isSome = true ∨ s.dev.deal.ploss = true ∨ isSet THM_STAT_LATCHED s.dev = true →
          Answers .perstAssert s (fun t => t.dev = low))
        ∧ (s.dev.pws.quiesce = none → s.dev.deal.ploss = false → isSet THM_STAT_LATCHED s.dev = false →
            isSet TST_STAT_UNLOCKED s.dev = false → Answers .perstAssert s (fun t => t.dev.host.perst = true
              ∧ t.dev.pws.quiesce = some s.dev.time ∧ t.dev.pws.late = false ∧ psBusy t.dev = false ∧ t.dev.deal.stop = true
              ∧ isSet HEP_LINKSTAT_DLUP t.dev = false ∧ FlushWhy.quiesce ∈ t.dev.vault.want ∧ event 3 t)))
    ∧ Answers .perstDeassert s (fun t => t.dev = { s.dev with host := { s.dev.host with perst := false } })
    ∧ (∀ q, s.dev.pws.quiesce = some q → s.dev.pws.late = false → q + 1500 * auxPerMs ≤ s.dev.time → Answers .quiesceTimeout s (fun t =>
        t.dev.pws = { s.dev.pws with late := true } ∧ rd PWS_RSTSTAT_QLATE t.dev = 1 ∧ event 5 t ∧ SameArms s.dev t.dev))
    ∧ (s.dev.pws.quiesce = none ∨ s.dev.pws.late = true → exec .quiesceTimeout s = .next s)
    ∧ (∀ lanes, (s.dev.pws.quiesce = none ∨ quiesceOver s.dev = false → exec (.internalReset lanes) s = .next s)
        ∧ (∀ q n, s.dev.pws.quiesce = some q → quiesceOver s.dev = true → n < 4 → fitted (.arm n) s.dev = true → dieUp (.arm n) s.dev = true →
            servoOn n s.dev = true → Answers (.internalReset lanes) s (fun t => t.dev.pws.quiesce = some q
              ∧ servo n t.dev = svRetract ∧ t.dev.time = s.dev.time))
        ∧ (∀ q, s.dev.pws.quiesce = some q → quiesceOver s.dev = true → (∀ n, n < 4 → servo n s.dev = svParked) →
            mustRetain s.dev = false → s.dev.recd.counted = true → Answers (.internalReset lanes) s (fun t => t.dev.time = 0 ∧ t.dev.part = s.dev.part
              ∧ t.dev.keys = s.dev.keys ∧ t.dev.pws.quiesce = none ∧ t.dev.deal.ctxs = [] ∧ t.dev.recd.slots = s.dev.recd.slots
              ∧ t.otp = s.otp ∧ rd PWS_RSTSTAT_POR t.dev = 0 ∧ rd PWS_RSTSTAT_PERST t.dev = 1
              ∧ rd PWS_RSTSTAT_QLATE t.dev = b2n s.dev.pws.late
              ∧ rd PWS_RSTSTAT_QTIME t.dev = min 0xFFFF ((s.dev.time - q) / auxPerMs))))

/-- The vault (R376 to R382): a flush starts a new epoch, writes journal records, then data, in entries of at most 62 sectors, and
ends with an end mark in each of its areas; one that no area can take is lost. A replay finds the next JSEQ, ends with DONE, and
what it restored is released or verified before the zones are reset. The journal's tail moves only forward, up to its head. -/
def Obligations.VaultFlushAndReplay : Prop :=
  ∀ (s : State), running s →
    let v := s.dev.vault
    let lost := fun (t : State) => (rd GLB_HEALTH_REPLACE t.dev).testBit 3 = true ∧ t.dev.vault.run = none
    (v.run.isSome = true ∨ v.want = [] → exec .vaultFlushStart s = .next s)
    ∧ (∀ w rest, v.run = none → v.want = w :: rest →
        let waits := (w = .quiesce ∨ w = .powerLoss) ∧ burstsOpen s.dev = true
        (waits → exec .vaultFlushStart s = .next s)
        ∧ (¬ waits → canVault s.dev = false → w = .quiesce → exec .vaultFlushStart s = .next s)
        ∧ (¬ waits → canVault s.dev = false → w ≠ .quiesce → Answers .vaultFlushStart s (fun t => lost t ∧ t.dev.vault.area0 = v.area0
            ∧ t.dev.vault.area1 = v.area1))
        ∧ (¬ waits → canVault s.dev = true → Answers .vaultFlushStart s (fun t =>
            rd GLB_VLTSTAT_EPOCH t.dev = (lastEpoch s.dev + 1) % 2 ^ 24 ∧ rd GLB_VLTSTAT_EMPTY t.dev = 0
              ∧ t.dev.vault.epoch = lastEpoch s.dev + 1 ∧ t.dev.vault.marks = 0 ∧ t.dev.vault.replay = false
              ∧ (∀ a, a < 2 → ∃ new, areaList a t.dev = areaList a s.dev ++ new ∧ ∀ e ∈ new, e.epoch = lastEpoch s.dev + 1
                  ∧ (e.kind = 1 ∨ e.kind = 2) ∧ e.bodies.length ≤ 62)
              ∧ (jnlCount s.dev = 0 → s.dev.deal.blks = [] → t.dev.vault.run = some w ∧ t.dev.vault.want = rest
                  ∧ rd GLB_VLTCTL_BUSY t.dev = 1 ∧ t.dev.vault.area0 = v.area0 ∧ t.dev.vault.area1 = v.area1))))
    ∧ (∀ a : Fin 2, let ready := v.run.isSome = true ∧ v.need.testBit a = true ∧ v.marks.testBit a = false
          ∧ areaPassed a s.dev = areaPlaced a s.dev
        (¬ ready → exec (.vaultEndMark a) s = .next s)
        ∧ (ready → areaTakes a 1 s.dev = false → Answers (.vaultEndMark a) s lost)
        ∧ (ready → areaTakes a 1 s.dev = true → Answers (.vaultEndMark a) s (fun t =>
            (∃ e, areaList a t.dev = areaList a s.dev ++ [e] ∧ e.kind = 3 ∧ e.epoch = v.epoch ∧ e.start = areaPlaced a s.dev)
              ∧ areaPlaced a t.dev = areaPlaced a s.dev + 1
              ∧ ((v.marks ||| 2 ^ a.val) &&& v.need = v.need → t.dev.vault.run = none ∧ rd GLB_VLTCTL_BUSY t.dev = b2n v.replay)
              ∧ ((v.marks ||| 2 ^ a.val) &&& v.need ≠ v.need → t.dev.vault.run = v.run
                  ∧ t.dev.vault.marks = v.marks ||| 2 ^ a.val))))
    ∧ (∀ bad places, (fwReady s.dev = true ∨ isSet GLB_VLTCTL_BUSY s.dev = true → exec (.vaultReplay bad places) s = .next s)
        ∧ (fwReady s.dev = false → isSet GLB_VLTCTL_BUSY s.dev = false → isSet PWS_RSTSTAT_RETAIN s.dev = false →
            s.dev.zon.jwait = [] → isSet ZON_CTL_VALID s.dev = false → v.area1 = [] →
            (v.area0 = [] → Answers (.vaultReplay bad []) s (fun t => t.dev.vault.replay = true ∧ t.dev.zon.jnext = some 0
              ∧ rd GLB_VLTCTL_BUSY t.dev = 1 ∧ t.dev.deal.blks = s.dev.deal.blks ∧ SameMemory s.dev t.dev))
            ∧ (∀ e, v.area0 = [e] → e.kind = 3 → vaultReadable bad 0 e.start s.dev = true → leNat ((e.sum.drop 8).take 8) ≠ 0 →
                Answers (.vaultReplay bad []) s (fun t => t.dev.zon.jnext = some (leNat ((e.sum.drop 8).take 8) + 1)
                  ∧ rd GLB_VLTSTAT_EPOCH t.dev = e.epoch % 2 ^ 24 ∧ t.dev.vault.replay = true ∧ SameMemory s.dev t.dev))))
    ∧ (v.replay = false ∨ s.dev.zon.jwait ≠ [] → exec .replayDone s = .next s)
    ∧ (v.replay = true → s.dev.zon.jwait = [] → isSet PWS_RSTSTAT_RETAIN s.dev = false → Answers .replayDone s (fun t =>
        rd GLB_VLTCTL_DONE t.dev = 1 ∧ rd GLB_VLTCTL_BUSY t.dev = b2n v.run.isSome ∧ t.dev.vault.replay = false
          ∧ rd GLB_VLTSTAT_INC t.dev = b2n v.foundInc ∧ (v.foundInc = true → (rd GLB_HEALTH_REPLACE t.dev).testBit 3 = true)
          ∧ (v.foundCsn ≠ 0 → rd GLB_VLTCSNL_CSN t.dev = v.foundCsn % 2 ^ 32)
          ∧ ((page pgGlb s.dev).raw.getLsbD 6 = false → (page pgGlb t.dev).stat.getLsbD 6 = true) ∧ SameMemory s.dev t.dev))
    ∧ Answers .vaultRelease s (fun t => rd GLB_VLTSTAT_HELD t.dev = 0 ∧ (∀ b ∈ t.dev.deal.blks, b.heldEntry = false)
        ∧ t.dev.deal.blks.length = (s.dev.deal.blks.filter (fun b => !b.heldEntry)).length ∧ SameMemory s.dev t.dev)
    ∧ (let due := s.dev.zon.jnext.isSome = true ∧ isSet GLB_VLTCTL_BUSY s.dev = false
          ∧ (∀ b ∈ s.dev.deal.blks, b.replayed = false ∧ b.heldEntry = false) ∧ v.left = 0 ∧ flushIdle s.dev = true
          ∧ isSet GLB_VLTSTAT_EMPTY s.dev = false;
        (due → Answers .vaultZonesReset s (fun t => rd GLB_VLTSTAT_EMPTY t.dev = 1 ∧ t.dev.vault.area0 = [] ∧ t.dev.vault.area1 = []
          ∧ t.dev.vault.placed = [] ∧ t.dev.deal.blks = s.dev.deal.blks))
        ∧ (¬ due → exec .vaultZonesReset s = .next s))
    ∧ (∀ x, let step := (x % 131072 + 131072 - rd GLB_JNLTAIL_TAIL s.dev) % 131072
        (jnlCount s.dev < step → exec (.journalTailWrite x) s = .next s)
        ∧ (step ≤ jnlCount s.dev → s.dev.zon.jwait = [] → dealerRests s.dev → Answers (.journalTailWrite x) s (fun t =>
            rd GLB_JNLTAIL_TAIL t.dev = x % 131072 ∧ t.dev.vault.left = v.left - step ∧ OnlyFields [GLB_JNLTAIL_TAIL]
              { s.dev with vault := t.dev.vault } t.dev)))

/-! ## Test, perturbation and the JTAG port (R387 to R395) -/

/-- The test page and the JTAG port (R387 to R395): the unlock needs the two keys from one requester within 1 ms on an unlocked page of a part whose fuse is intact; relocking ends
every perturbation; the fuse is burnt only while unlocked, for good; jitter is taken only for parked arms within their budget;
back-pressure holds and releases what it held, a delayed completion leaves at the end of its delay. The JTAG port needs no clock of
the device: it loads its data register, and EXTEST, CLAMP and HIGHZ stop the device without a vault flush. -/
def Obligations.TestAndJtag : Prop :=
  ∀ (s : State),
    (running s →
      let d := s.dev
      let event := fun (k : Nat) (t : State) => (page pgTst d).raw.getLsbD k = false → (page pgTst t.dev).stat.getLsbD k = true
      (∀ who v, (who = .host → isSet GLB_HOSTACC_LOCK d = true → Answers (.testUnlockKey who v) s (fun t => t.dev.ur = true
            ∧ t.dev.tst = d.tst ∧ rd TST_STAT_UNLOCKED t.dev = rd TST_STAT_UNLOCKED d))
          ∧ (¬ (who = .host ∧ isSet GLB_HOSTACC_LOCK d = true) →
            let refused := Answers (.testUnlockKey who v) s (fun t => rd TST_STAT_ARMED t.dev = 0 ∧ event 2 t
              ∧ OnlyFieldsAndEvents [TST_STAT_ARMED, TST_STAT_REFUSED] d t.dev)
            let shut := s.otp.testDisabled = true ∨ (page pgTst d).lock = true
            let second := v % 65536 = 0x81A8 ∧ d.tst.armBy = ownerCode who ∧ d.tst.armOver = false ∧ d.time - d.tst.armAt ≤ auxPerMs
            (shut → refused)
            ∧ (¬ shut → isSet TST_STAT_ARMED d = false →
                (v % 65536 = 0x7E57 → Answers (.testUnlockKey who v) s (fun t => rd TST_STAT_ARMED t.dev = 1
                  ∧ t.dev.tst = { d.tst with armBy := ownerCode who, armAt := d.time, armOver := false }
                  ∧ rd TST_STAT_UNLOCKED t.dev = rd TST_STAT_UNLOCKED d))
                ∧ (v % 65536 ≠ 0x7E57 → exec (.testUnlockKey who v) s = .next s))
            ∧ (¬ shut → isSet TST_STAT_ARMED d = true →
                (second → Answers (.testUnlockKey who v) s (fun t => rd TST_STAT_UNLOCKED t.dev = 1 ∧ rd TST_STAT_ARMED t.dev = 0
                  ∧ event 0 t ∧ OnlyFieldsAndEvents [TST_STAT_UNLOCKED, TST_STAT_ARMED] d t.dev))
                ∧ (¬ second → refused))))
      ∧ (isSet TST_STAT_ARMED d = true → d.tst.armAt + auxPerMs ≤ d.time → Answers .testUnlockWindowExpiry s (fun t =>
          t.dev = { d with tst := { d.tst with armOver := true } }))
      ∧ (isSet TST_STAT_ARMED d = false → exec .testUnlockWindowExpiry s = .next s)
      ∧ (isSet TST_STAT_UNLOCKED d = false → exec .testRelock s = .next s ∧ exec .testFuseBurn s = .next s)
      ∧ (isSet TST_STAT_UNLOCKED d = true → dealerRests d →
          let relocked := fun (t : State) => rd TST_STAT_UNLOCKED t.dev = 0 ∧ (∀ f ∈ perturbFields, rd f t.dev = f.rst)
            ∧ t.dev.tst = { d.tst with forced := [], passed := [], dmaHeld := false } ∧ event 1 t ∧ SameMemory d t.dev
          Answers .testRelock s (fun t => relocked t ∧ t.otp = s.otp)
          ∧ Answers .testFuseBurn s (fun t => relocked t ∧ t.otp = { s.otp with testDisabled := true }))
      ∧ (∀ v, let fits := ∀ n, n < 4 → v.testBit n = true → fitted (.arm n) d = true →
            servo n d = svParked ∧ bits v 4 8 + costNow n d ≤ budgetNow n d
          (isSet TST_STAT_UNLOCKED d = false → exec (.servoJitterSet v) s = .next s)
          ∧ (isSet TST_STAT_UNLOCKED d = true → fits → Answers (.servoJitterSet v) s (fun t =>
              rd TST_SRVJIT_AMP t.dev = bits v 4 8 ∧ OnlyFields [TST_SRVJIT_ARMS, TST_SRVJIT_AMP, TST_STAT_SUSP] d t.dev
                ∧ ∀ n, n < 4 → (rd TST_SRVJIT_ARMS t.dev).testBit n = (v.testBit n && fitted (.arm n) d)))
          ∧ (isSet TST_STAT_UNLOCKED d = true → ¬ fits → Answers (.servoJitterSet v) s (fun t => event 2 t
              ∧ OnlyFieldsAndEvents [] d t.dev)))
      ∧ (let on := isSet TST_DMABP_DUTY d = true ∧ (isSet TST_DMABP_RD d = true ∨ isSet TST_DMABP_WR d = true);
          (on → Answers (.dmaBackpressurePeriod true) s (fun t => t.dev = { d with tst := { d.tst with dmaHeld := true } }))
          ∧ (¬ on → exec (.dmaBackpressurePeriod true) s = .next s)
          ∧ (d.tst.dmaHeld = true → dealerRests d → Answers (.dmaBackpressurePeriod false) s (fun t =>
              t.dev = { d with tst := { d.tst with dmaHeld := false } }))
          ∧ (d.tst.dmaHeld = false → exec (.dmaBackpressurePeriod false) s = .next s))
      ∧ (let ended := d.host.headAt + rd TST_CQDLY_DELAY d * auxPerUs ≤ d.time;
          (∀ z rest, d.host.out = z :: rest → cqeDelayed d = true → postedHeld d = false → ended → Answers .completionDelayExpiry s (fun t =>
            t.dev.host.out = rest ∧ SameMemory d t.dev))
          ∧ (cqeDelayed d = false ∨ postedHeld d = true ∨ ¬ ended → exec .completionDelayExpiry s = .next s)))
    ∧ (let d := s.dev
      let loaded := fun (ir dr : Nat) => ({ d with tst := { d.tst with ir := ir, dr := dr } } : Dev)
      let stops := fun (ir dr : Nat) (t : State) => t.dev.tst = { d.tst with ir := ir, dr := dr, stopped := true }
        ∧ isSet HEP_LINKSTAT_DLUP t.dev = false ∧ t.dev.deal.stop = true ∧ t.dev.vault = d.vault
        ∧ (spState d ≠ spStopped → spState d ≠ spFailed → spState t.dev = spCoast)
        ∧ ∀ n, n < 4 → fitted (.arm n) d = true → dieUp (.arm n) d = true → servo n t.dev = svRetract
      Answers .jtagTapReset s (fun t => t.dev = loaded 1 0x1048063D ∧ t.pending = s.pending)
      ∧ Answers .jtagIdcode s (fun t => t.dev = loaded 1 0x1048063D)
      ∧ (∀ balls preload, Answers (.jtagSamplePreload balls preload) s (fun t => t.dev.tst.ir = 2 ∧ t.dev.tst.dr = balls
          ∧ t.dev.tst.boundary = preload ∧ t.dev.regs = d.regs ∧ SameMemory d t.dev ∧ SameArms d t.dev))
      ∧ Answers .jtagExtest s (stops 3 d.tst.boundary) ∧ Answers .jtagClamp s (stops 4 0) ∧ Answers .jtagHighz s (stops 5 0)
      ∧ Answers .jtagThmstat s (fun t => t.dev = loaded 0x10 (rd THM_STAT_STEP d + 4 * rd THM_STAT_PREHEAT d
          + 8 * rd THM_STAT_COLDSTOP d + 16 * rd THM_STAT_HOLD d + 32 * rd THM_STAT_LATCHED d + 65536 * rd THM_STAT_DIESUB d))
      ∧ (∀ code : Fin 256, (code.val ∈ [1, 2, 3, 4, 5, 0x10] → exec (.jtagBypass code) s = .next s)
          ∧ (code.val ∉ [1, 2, 3, 4, 5, 0x10] → Answers (.jtagBypass code) s (fun t => t.dev = loaded code 0))))
end

