-- ==== Sys2Proof/Laws/Aes.lean ====
section
/-!
SUPPORT. Laws/Aes.lean: handing a number on by its value is applying the function to it, so that a proof may forget it; and the
S-box is a permutation of the bytes with the listed inverse.
-/
namespace Sys2Proof.Machine

@[simp] theorem byValue_eq {α : Type} (v : Nat) (f : Nat → α) : byValue v f = f v := by
  cases v <;> rfl

@[simp] theorem bytesByValue_eq {α : Type} (bs : List Nat) (f : List Nat → α) :
    bytesByValue bs f = f (leBytes (leNat bs) bs.length) := by
  simp [bytesByValue]

theorem sboxInv_sbox : ∀ a, a < 256 → sboxInv (sbox a) = a := by decide +kernel

end Sys2Proof.Machine
end

