-- ==== Sys2Proof/Laws/Store.lean ====
section
/-!
SUPPORT. Laws/Store.lean: the laws of sparse storage. A read after a write to the same key gives the value written,
a write leaves every other key alone, and a write keeps the canonical form.
-/
namespace Sys2Proof.Machine

variable {β : Type}

@[simp] theorem Store.get_nil (d : β) (k : Nat) : Store.get d k [] = d := rfl

theorem Store.get_del_same (d : β) (k : Nat) (m : Store β) : Store.get d k (Store.del k m) = d := by
  induction m with
  | nil => rfl
  | cons p m ih =>
    obtain ⟨j, v⟩ := p
    by_cases h : j = k
    · simpa [Store.del, h] using ih
    · simp [Store.del, Store.get, h, ih]

theorem Store.get_del_ne (d : β) {i k : Nat} (h : i ≠ k) (m : Store β) :
    Store.get d i (Store.del k m) = Store.get d i m := by
  induction m with
  | nil => rfl
  | cons p m ih =>
    obtain ⟨j, v⟩ := p
    by_cases hk : j = k
    · simp [Store.del, Store.get, hk, ih, Ne.symm h]
    · simp [Store.del, Store.get, hk, ih]

theorem Store.get_ins_same (d : β) (k : Nat) (v : β) (m : Store β) :
    Store.get d k (Store.ins k v m) = v := by
  induction m with
  | nil => simp [Store.ins, Store.get]
  | cons p m ih =>
    obtain ⟨j, u⟩ := p
    simp only [Store.ins]
    split
    · simp [Store.get]
    · split
      · simp [Store.get]
      · rename_i h
        simp [Store.get, Ne.symm h, ih]

theorem Store.get_ins_ne (d : β) {i k : Nat} (h : i ≠ k) (v : β) (m : Store β) :
    Store.get d i (Store.ins k v m) = Store.get d i m := by
  induction m with
  | nil => simp [Store.ins, Store.get, Ne.symm h]
  | cons p m ih =>
    obtain ⟨j, u⟩ := p
    simp only [Store.ins]
    split
    · simp [Store.get, Ne.symm h]
    · split
      · rename_i hk
        subst hk
        simp [Store.get, Ne.symm h]
      · simp [Store.get, ih]

/-- A read after a write to the same key gives the value written. -/
@[simp] theorem Store.get_put_same [DecidableEq β] (d : β) (k : Nat) (v : β) (m : Store β) :
    Store.get d k (Store.put d k v m) = v := by
  unfold Store.put
  split
  · rename_i h
    rw [h, Store.get_del_same]
  · exact Store.get_ins_same d k v m

/-- A write leaves every other key alone, whatever default the two accesses name. -/
theorem Store.get_put_ne [DecidableEq β] (d e : β) {i k : Nat} (h : i ≠ k) (v : β) (m : Store β) :
    Store.get d i (Store.put e k v m) = Store.get d i m := by
  unfold Store.put
  split
  · exact Store.get_del_ne d h m
  · exact Store.get_ins_ne d h v m

theorem Store.wfFrom_le [DecidableEq β] (f : Nat → β) {lo lo' : Nat} (h : lo' ≤ lo) {m : Store β}
    (hm : Store.wfFrom f lo m = true) : Store.wfFrom f lo' m = true := by
  cases m with
  | nil => rfl
  | cons p m =>
    simp only [Store.wfFrom, Bool.and_eq_true, decide_eq_true_eq] at hm ⊢
    exact ⟨⟨Nat.le_trans h hm.1.1, hm.1.2⟩, hm.2⟩

theorem Store.wfFrom_del [DecidableEq β] (f : Nat → β) (k : Nat) {m : Store β} : ∀ {lo : Nat},
    Store.wfFrom f lo m = true → Store.wfFrom f lo (Store.del k m) = true := by
  induction m with
  | nil => intro lo h; exact h
  | cons p m ih =>
    intro lo h
    simp only [Store.wfFrom, Bool.and_eq_true, decide_eq_true_eq] at h
    simp only [Store.del]
    split
    · exact ih (Store.wfFrom_le f (by omega) h.2)
    · simp only [Store.wfFrom, Bool.and_eq_true, decide_eq_true_eq]
      exact ⟨h.1, ih h.2⟩

theorem Store.wfFrom_ins [DecidableEq β] (f : Nat → β) (k : Nat) {v : β} (hv : v ≠ f k) {m : Store β} :
    ∀ {lo : Nat}, lo ≤ k → Store.wfFrom f lo m = true → Store.wfFrom f lo (Store.ins k v m) = true := by
  induction m with
  | nil => intro lo hk _; simp [Store.ins, Store.wfFrom, hk, hv]
  | cons p m ih =>
    intro lo hk h
    simp only [Store.wfFrom, Bool.and_eq_true, decide_eq_true_eq] at h
    simp only [Store.ins]
    split
    · simp only [Store.wfFrom, Bool.and_eq_true, decide_eq_true_eq]
      exact ⟨⟨hk, hv⟩, ⟨by omega, h.1.2⟩, h.2⟩
    · split
      · rename_i hkj
        subst hkj
        simp only [Store.wfFrom, Bool.and_eq_true, decide_eq_true_eq]
        exact ⟨⟨hk, hv⟩, h.2⟩
      · simp only [Store.wfFrom, Bool.and_eq_true, decide_eq_true_eq]
        exact ⟨h.1, ih (by omega) h.2⟩

/-- Every write keeps the canonical form. -/
theorem Store.wf_put [DecidableEq β] (f : Nat → β) (k : Nat) (v : β) {m : Store β}
    (h : Store.wf f m = true) : Store.wf f (Store.put (f k) k v m) = true := by
  unfold Store.put Store.wf at *
  split
  · exact Store.wfFrom_del f k h
  · rename_i hv
    exact Store.wfFrom_ins f k hv (Nat.zero_le k) h

/-- Writing a list of values keeps the canonical form. -/
theorem Store.wf_puts [DecidableEq β] (f : Nat → β) (vs : List β) : ∀ (k : Nat) {m : Store β},
    Store.wf f m = true → Store.wf f (Store.puts f k vs m) = true := by
  induction vs with
  | nil => intro k m h; exact h
  | cons v vs ih => intro k m h; exact ih (k + 1) (Store.wf_put f k v h)

/-- Taking a range of entries out keeps the canonical form, also when the range's unlisted keys come to hold
something else. -/
theorem Store.wfFrom_cut [DecidableEq β] (f g : Nat → β) (lo hi : Nat)
    (hfg : ∀ k, k < lo ∨ hi ≤ k → f k = g k) {m : Store β} : ∀ {b : Nat},
    Store.wfFrom f b m = true → Store.wfFrom g b (Store.cut lo hi m) = true := by
  induction m with
  | nil => intro b h; exact h
  | cons p m ih =>
    intro b h
    simp only [Store.wfFrom, Bool.and_eq_true, decide_eq_true_eq] at h
    by_cases hp : p.1 < lo ∨ hi ≤ p.1
    · have : Store.cut lo hi (p :: m) = p :: Store.cut lo hi m := by
        simp [Store.cut, hp]
      rw [this]
      simp only [Store.wfFrom, Bool.and_eq_true, decide_eq_true_eq]
      exact ⟨⟨h.1.1, (hfg p.1 hp) ▸ h.1.2⟩, ih h.2⟩
    · have : Store.cut lo hi (p :: m) = Store.cut lo hi m := by
        have h1 : ¬ p.1 < lo := fun q => hp (Or.inl q)
        have h2 : ¬ hi ≤ p.1 := fun q => hp (Or.inr q)
        simp [Store.cut, h1, h2]
      rw [this]
      exact ih (Store.wfFrom_le f (by omega) h.2) |> fun q => q

end Sys2Proof.Machine
end

