-- ==== Sys2Proof/Laws/State.lean ====
section
/-!
SUPPORT. Laws/State.lean: what each update of the device changes and leaves alone: one lemma per field and update; reading a
register field after a write; and, once for all, what the occurrence of an event can do.
-/
namespace Sys2Proof.Machine

/-! ## Direct updates -/

@[simp] theorem wr_part (f : Fld) (v : Nat) (d : Dev) : (wr f v d).part = d.part := rfl
@[simp] theorem wr_pages (f : Fld) (v : Nat) (d : Dev) : (wr f v d).pages = d.pages := rfl
@[simp] theorem wr_chain (f : Fld) (v : Nat) (d : Dev) : (wr f v d).chain = d.chain := rfl
@[simp] theorem wr_dir (f : Fld) (v : Nat) (d : Dev) : (wr f v d).dir = d.dir := rfl
@[simp] theorem wr_time (f : Fld) (v : Nat) (d : Dev) : (wr f v d).time = d.time := rfl
@[simp] theorem wr_rdata (f : Fld) (v : Nat) (d : Dev) : (wr f v d).rdata = d.rdata := rfl
@[simp] theorem wr_ur (f : Fld) (v : Nat) (d : Dev) : (wr f v d).ur = d.ur := rfl
@[simp] theorem wr_links (f : Fld) (v : Nat) (d : Dev) : (wr f v d).links = d.links := rfl
@[simp] theorem wr_cores (f : Fld) (v : Nat) (d : Dev) : (wr f v d).cores = d.cores := rfl
@[simp] theorem wr_host (f : Fld) (v : Nat) (d : Dev) : (wr f v d).host = d.host := rfl
@[simp] theorem wr_recd (f : Fld) (v : Nat) (d : Dev) : (wr f v d).recd = d.recd := rfl
@[simp] theorem wr_mem (f : Fld) (v : Nat) (d : Dev) : (wr f v d).mem = d.mem := rfl
@[simp] theorem wr_cache (f : Fld) (v : Nat) (d : Dev) : (wr f v d).cache = d.cache := rfl
@[simp] theorem wr_fresh (f : Fld) (v : Nat) (d : Dev) : (wr f v d).fresh = d.fresh := rfl
@[simp] theorem wr_arms (f : Fld) (v : Nat) (d : Dev) : (wr f v d).arms = d.arms := rfl
@[simp] theorem wr_hands (f : Fld) (v : Nat) (d : Dev) : (wr f v d).hands = d.hands := rfl
@[simp] theorem wr_workNext (f : Fld) (v : Nat) (d : Dev) : (wr f v d).workNext = d.workNext := rfl
@[simp] theorem wr_zon (f : Fld) (v : Nat) (d : Dev) : (wr f v d).zon = d.zon := rfl
@[simp] theorem wr_deal (f : Fld) (v : Nat) (d : Dev) : (wr f v d).deal = d.deal := rfl
@[simp] theorem wr_vault (f : Fld) (v : Nat) (d : Dev) : (wr f v d).vault = d.vault := rfl
@[simp] theorem wr_pwr (f : Fld) (v : Nat) (d : Dev) : (wr f v d).pwr = d.pwr := rfl
@[simp] theorem wr_keys (f : Fld) (v : Nat) (d : Dev) : (wr f v d).keys = d.keys := rfl
@[simp] theorem wr_redirect (f : Fld) (v : Nat) (d : Dev) : (wr f v d).redirect = d.redirect := rfl
@[simp] theorem wr_kmu (f : Fld) (v : Nat) (d : Dev) : (wr f v d).kmu = d.kmu := rfl
@[simp] theorem wr_thm (f : Fld) (v : Nat) (d : Dev) : (wr f v d).thm = d.thm := rfl
@[simp] theorem wr_pws (f : Fld) (v : Nat) (d : Dev) : (wr f v d).pws = d.pws := rfl
@[simp] theorem wr_tst (f : Fld) (v : Nat) (d : Dev) : (wr f v d).tst = d.tst := rfl
@[simp] theorem wr_sup (f : Fld) (v : Nat) (d : Dev) : (wr f v d).sup = d.sup := rfl
@[simp] theorem wr_uart (f : Fld) (v : Nat) (d : Dev) : (wr f v d).uart = d.uart := rfl
@[simp] theorem setPage_part (b : Nat) (h : PageHdr) (d : Dev) : (setPage b h d).part = d.part := rfl
@[simp] theorem setPage_regs (b : Nat) (h : PageHdr) (d : Dev) : (setPage b h d).regs = d.regs := rfl
@[simp] theorem setPage_chain (b : Nat) (h : PageHdr) (d : Dev) : (setPage b h d).chain = d.chain := rfl
@[simp] theorem setPage_dir (b : Nat) (h : PageHdr) (d : Dev) : (setPage b h d).dir = d.dir := rfl
@[simp] theorem setPage_time (b : Nat) (h : PageHdr) (d : Dev) : (setPage b h d).time = d.time := rfl
@[simp] theorem setPage_rdata (b : Nat) (h : PageHdr) (d : Dev) : (setPage b h d).rdata = d.rdata := rfl
@[simp] theorem setPage_ur (b : Nat) (h : PageHdr) (d : Dev) : (setPage b h d).ur = d.ur := rfl
@[simp] theorem setPage_links (b : Nat) (h : PageHdr) (d : Dev) : (setPage b h d).links = d.links := rfl
@[simp] theorem setPage_cores (b : Nat) (h : PageHdr) (d : Dev) : (setPage b h d).cores = d.cores := rfl
@[simp] theorem setPage_host (b : Nat) (h : PageHdr) (d : Dev) : (setPage b h d).host = d.host := rfl
@[simp] theorem setPage_recd (b : Nat) (h : PageHdr) (d : Dev) : (setPage b h d).recd = d.recd := rfl
@[simp] theorem setPage_mem (b : Nat) (h : PageHdr) (d : Dev) : (setPage b h d).mem = d.mem := rfl
@[simp] theorem setPage_cache (b : Nat) (h : PageHdr) (d : Dev) : (setPage b h d).cache = d.cache := rfl
@[simp] theorem setPage_fresh (b : Nat) (h : PageHdr) (d : Dev) : (setPage b h d).fresh = d.fresh := rfl
@[simp] theorem setPage_arms (b : Nat) (h : PageHdr) (d : Dev) : (setPage b h d).arms = d.arms := rfl
@[simp] theorem setPage_hands (b : Nat) (h : PageHdr) (d : Dev) : (setPage b h d).hands = d.hands := rfl
@[simp] theorem setPage_workNext (b : Nat) (h : PageHdr) (d : Dev) : (setPage b h d).workNext = d.workNext := rfl
@[simp] theorem setPage_zon (b : Nat) (h : PageHdr) (d : Dev) : (setPage b h d).zon = d.zon := rfl
@[simp] theorem setPage_deal (b : Nat) (h : PageHdr) (d : Dev) : (setPage b h d).deal = d.deal := rfl
@[simp] theorem setPage_vault (b : Nat) (h : PageHdr) (d : Dev) : (setPage b h d).vault = d.vault := rfl
@[simp] theorem setPage_pwr (b : Nat) (h : PageHdr) (d : Dev) : (setPage b h d).pwr = d.pwr := rfl
@[simp] theorem setPage_keys (b : Nat) (h : PageHdr) (d : Dev) : (setPage b h d).keys = d.keys := rfl
@[simp] theorem setPage_redirect (b : Nat) (h : PageHdr) (d : Dev) : (setPage b h d).redirect = d.redirect := rfl
@[simp] theorem setPage_kmu (b : Nat) (h : PageHdr) (d : Dev) : (setPage b h d).kmu = d.kmu := rfl
@[simp] theorem setPage_thm (b : Nat) (h : PageHdr) (d : Dev) : (setPage b h d).thm = d.thm := rfl
@[simp] theorem setPage_pws (b : Nat) (h : PageHdr) (d : Dev) : (setPage b h d).pws = d.pws := rfl
@[simp] theorem setPage_tst (b : Nat) (h : PageHdr) (d : Dev) : (setPage b h d).tst = d.tst := rfl
@[simp] theorem setPage_sup (b : Nat) (h : PageHdr) (d : Dev) : (setPage b h d).sup = d.sup := rfl
@[simp] theorem setPage_uart (b : Nat) (h : PageHdr) (d : Dev) : (setPage b h d).uart = d.uart := rfl
@[simp] theorem onPage_part (b : Nat) (g : PageHdr → PageHdr) (d : Dev) : (onPage b g d).part = d.part := rfl
@[simp] theorem onPage_regs (b : Nat) (g : PageHdr → PageHdr) (d : Dev) : (onPage b g d).regs = d.regs := rfl
@[simp] theorem onPage_chain (b : Nat) (g : PageHdr → PageHdr) (d : Dev) : (onPage b g d).chain = d.chain := rfl
@[simp] theorem onPage_dir (b : Nat) (g : PageHdr → PageHdr) (d : Dev) : (onPage b g d).dir = d.dir := rfl
@[simp] theorem onPage_time (b : Nat) (g : PageHdr → PageHdr) (d : Dev) : (onPage b g d).time = d.time := rfl
@[simp] theorem onPage_rdata (b : Nat) (g : PageHdr → PageHdr) (d : Dev) : (onPage b g d).rdata = d.rdata := rfl
@[simp] theorem onPage_ur (b : Nat) (g : PageHdr → PageHdr) (d : Dev) : (onPage b g d).ur = d.ur := rfl
@[simp] theorem onPage_links (b : Nat) (g : PageHdr → PageHdr) (d : Dev) : (onPage b g d).links = d.links := rfl
@[simp] theorem onPage_cores (b : Nat) (g : PageHdr → PageHdr) (d : Dev) : (onPage b g d).cores = d.cores := rfl
@[simp] theorem onPage_host (b : Nat) (g : PageHdr → PageHdr) (d : Dev) : (onPage b g d).host = d.host := rfl
@[simp] theorem onPage_recd (b : Nat) (g : PageHdr → PageHdr) (d : Dev) : (onPage b g d).recd = d.recd := rfl
@[simp] theorem onPage_mem (b : Nat) (g : PageHdr → PageHdr) (d : Dev) : (onPage b g d).mem = d.mem := rfl
@[simp] theorem onPage_cache (b : Nat) (g : PageHdr → PageHdr) (d : Dev) : (onPage b g d).cache = d.cache := rfl
@[simp] theorem onPage_fresh (b : Nat) (g : PageHdr → PageHdr) (d : Dev) : (onPage b g d).fresh = d.fresh := rfl
@[simp] theorem onPage_arms (b : Nat) (g : PageHdr → PageHdr) (d : Dev) : (onPage b g d).arms = d.arms := rfl
@[simp] theorem onPage_hands (b : Nat) (g : PageHdr → PageHdr) (d : Dev) : (onPage b g d).hands = d.hands := rfl
@[simp] theorem onPage_workNext (b : Nat) (g : PageHdr → PageHdr) (d : Dev) : (onPage b g d).workNext = d.workNext := rfl
@[simp] theorem onPage_zon (b : Nat) (g : PageHdr → PageHdr) (d : Dev) : (onPage b g d).zon = d.zon := rfl
@[simp] theorem onPage_deal (b : Nat) (g : PageHdr → PageHdr) (d : Dev) : (onPage b g d).deal = d.deal := rfl
@[simp] theorem onPage_vault (b : Nat) (g : PageHdr → PageHdr) (d : Dev) : (onPage b g d).vault = d.vault := rfl
@[simp] theorem onPage_pwr (b : Nat) (g : PageHdr → PageHdr) (d : Dev) : (onPage b g d).pwr = d.pwr := rfl
@[simp] theorem onPage_keys (b : Nat) (g : PageHdr → PageHdr) (d : Dev) : (onPage b g d).keys = d.keys := rfl
@[simp] theorem onPage_redirect (b : Nat) (g : PageHdr → PageHdr) (d : Dev) : (onPage b g d).redirect = d.redirect := rfl
@[simp] theorem onPage_kmu (b : Nat) (g : PageHdr → PageHdr) (d : Dev) : (onPage b g d).kmu = d.kmu := rfl
@[simp] theorem onPage_thm (b : Nat) (g : PageHdr → PageHdr) (d : Dev) : (onPage b g d).thm = d.thm := rfl
@[simp] theorem onPage_pws (b : Nat) (g : PageHdr → PageHdr) (d : Dev) : (onPage b g d).pws = d.pws := rfl
@[simp] theorem onPage_tst (b : Nat) (g : PageHdr → PageHdr) (d : Dev) : (onPage b g d).tst = d.tst := rfl
@[simp] theorem onPage_sup (b : Nat) (g : PageHdr → PageHdr) (d : Dev) : (onPage b g d).sup = d.sup := rfl
@[simp] theorem onPage_uart (b : Nat) (g : PageHdr → PageHdr) (d : Dev) : (onPage b g d).uart = d.uart := rfl
@[simp] theorem setCore_part (c : Nat) (x : Core) (d : Dev) : (setCore c x d).part = d.part := rfl
@[simp] theorem setCore_regs (c : Nat) (x : Core) (d : Dev) : (setCore c x d).regs = d.regs := rfl
@[simp] theorem setCore_pages (c : Nat) (x : Core) (d : Dev) : (setCore c x d).pages = d.pages := rfl
@[simp] theorem setCore_chain (c : Nat) (x : Core) (d : Dev) : (setCore c x d).chain = d.chain := rfl
@[simp] theorem setCore_dir (c : Nat) (x : Core) (d : Dev) : (setCore c x d).dir = d.dir := rfl
@[simp] theorem setCore_time (c : Nat) (x : Core) (d : Dev) : (setCore c x d).time = d.time := rfl
@[simp] theorem setCore_rdata (c : Nat) (x : Core) (d : Dev) : (setCore c x d).rdata = d.rdata := rfl
@[simp] theorem setCore_ur (c : Nat) (x : Core) (d : Dev) : (setCore c x d).ur = d.ur := rfl
@[simp] theorem setCore_links (c : Nat) (x : Core) (d : Dev) : (setCore c x d).links = d.links := rfl
@[simp] theorem setCore_host (c : Nat) (x : Core) (d : Dev) : (setCore c x d).host = d.host := rfl
@[simp] theorem setCore_recd (c : Nat) (x : Core) (d : Dev) : (setCore c x d).recd = d.recd := rfl
@[simp] theorem setCore_mem (c : Nat) (x : Core) (d : Dev) : (setCore c x d).mem = d.mem := rfl
@[simp] theorem setCore_cache (c : Nat) (x : Core) (d : Dev) : (setCore c x d).cache = d.cache := rfl
@[simp] theorem setCore_fresh (c : Nat) (x : Core) (d : Dev) : (setCore c x d).fresh = d.fresh := rfl
@[simp] theorem setCore_arms (c : Nat) (x : Core) (d : Dev) : (setCore c x d).arms = d.arms := rfl
@[simp] theorem setCore_hands (c : Nat) (x : Core) (d : Dev) : (setCore c x d).hands = d.hands := rfl
@[simp] theorem setCore_workNext (c : Nat) (x : Core) (d : Dev) : (setCore c x d).workNext = d.workNext := rfl
@[simp] theorem setCore_zon (c : Nat) (x : Core) (d : Dev) : (setCore c x d).zon = d.zon := rfl
@[simp] theorem setCore_deal (c : Nat) (x : Core) (d : Dev) : (setCore c x d).deal = d.deal := rfl
@[simp] theorem setCore_vault (c : Nat) (x : Core) (d : Dev) : (setCore c x d).vault = d.vault := rfl
@[simp] theorem setCore_pwr (c : Nat) (x : Core) (d : Dev) : (setCore c x d).pwr = d.pwr := rfl
@[simp] theorem setCore_keys (c : Nat) (x : Core) (d : Dev) : (setCore c x d).keys = d.keys := rfl
@[simp] theorem setCore_redirect (c : Nat) (x : Core) (d : Dev) : (setCore c x d).redirect = d.redirect := rfl
@[simp] theorem setCore_kmu (c : Nat) (x : Core) (d : Dev) : (setCore c x d).kmu = d.kmu := rfl
@[simp] theorem setCore_thm (c : Nat) (x : Core) (d : Dev) : (setCore c x d).thm = d.thm := rfl
@[simp] theorem setCore_pws (c : Nat) (x : Core) (d : Dev) : (setCore c x d).pws = d.pws := rfl
@[simp] theorem setCore_tst (c : Nat) (x : Core) (d : Dev) : (setCore c x d).tst = d.tst := rfl
@[simp] theorem setCore_sup (c : Nat) (x : Core) (d : Dev) : (setCore c x d).sup = d.sup := rfl
@[simp] theorem setCore_uart (c : Nat) (x : Core) (d : Dev) : (setCore c x d).uart = d.uart := rfl
@[simp] theorem onCore_part (c : Nat) (g : Core → Core) (d : Dev) : (onCore c g d).part = d.part := rfl
@[simp] theorem onCore_regs (c : Nat) (g : Core → Core) (d : Dev) : (onCore c g d).regs = d.regs := rfl
@[simp] theorem onCore_pages (c : Nat) (g : Core → Core) (d : Dev) : (onCore c g d).pages = d.pages := rfl
@[simp] theorem onCore_chain (c : Nat) (g : Core → Core) (d : Dev) : (onCore c g d).chain = d.chain := rfl
@[simp] theorem onCore_dir (c : Nat) (g : Core → Core) (d : Dev) : (onCore c g d).dir = d.dir := rfl
@[simp] theorem onCore_time (c : Nat) (g : Core → Core) (d : Dev) : (onCore c g d).time = d.time := rfl
@[simp] theorem onCore_rdata (c : Nat) (g : Core → Core) (d : Dev) : (onCore c g d).rdata = d.rdata := rfl
@[simp] theorem onCore_ur (c : Nat) (g : Core → Core) (d : Dev) : (onCore c g d).ur = d.ur := rfl
@[simp] theorem onCore_links (c : Nat) (g : Core → Core) (d : Dev) : (onCore c g d).links = d.links := rfl
@[simp] theorem onCore_host (c : Nat) (g : Core → Core) (d : Dev) : (onCore c g d).host = d.host := rfl
@[simp] theorem onCore_recd (c : Nat) (g : Core → Core) (d : Dev) : (onCore c g d).recd = d.recd := rfl
@[simp] theorem onCore_mem (c : Nat) (g : Core → Core) (d : Dev) : (onCore c g d).mem = d.mem := rfl
@[simp] theorem onCore_cache (c : Nat) (g : Core → Core) (d : Dev) : (onCore c g d).cache = d.cache := rfl
@[simp] theorem onCore_fresh (c : Nat) (g : Core → Core) (d : Dev) : (onCore c g d).fresh = d.fresh := rfl
@[simp] theorem onCore_arms (c : Nat) (g : Core → Core) (d : Dev) : (onCore c g d).arms = d.arms := rfl
@[simp] theorem onCore_hands (c : Nat) (g : Core → Core) (d : Dev) : (onCore c g d).hands = d.hands := rfl
@[simp] theorem onCore_workNext (c : Nat) (g : Core → Core) (d : Dev) : (onCore c g d).workNext = d.workNext := rfl
@[simp] theorem onCore_zon (c : Nat) (g : Core → Core) (d : Dev) : (onCore c g d).zon = d.zon := rfl
@[simp] theorem onCore_deal (c : Nat) (g : Core → Core) (d : Dev) : (onCore c g d).deal = d.deal := rfl
@[simp] theorem onCore_vault (c : Nat) (g : Core → Core) (d : Dev) : (onCore c g d).vault = d.vault := rfl
@[simp] theorem onCore_pwr (c : Nat) (g : Core → Core) (d : Dev) : (onCore c g d).pwr = d.pwr := rfl
@[simp] theorem onCore_keys (c : Nat) (g : Core → Core) (d : Dev) : (onCore c g d).keys = d.keys := rfl
@[simp] theorem onCore_redirect (c : Nat) (g : Core → Core) (d : Dev) : (onCore c g d).redirect = d.redirect := rfl
@[simp] theorem onCore_kmu (c : Nat) (g : Core → Core) (d : Dev) : (onCore c g d).kmu = d.kmu := rfl
@[simp] theorem onCore_thm (c : Nat) (g : Core → Core) (d : Dev) : (onCore c g d).thm = d.thm := rfl
@[simp] theorem onCore_pws (c : Nat) (g : Core → Core) (d : Dev) : (onCore c g d).pws = d.pws := rfl
@[simp] theorem onCore_tst (c : Nat) (g : Core → Core) (d : Dev) : (onCore c g d).tst = d.tst := rfl
@[simp] theorem onCore_sup (c : Nat) (g : Core → Core) (d : Dev) : (onCore c g d).sup = d.sup := rfl
@[simp] theorem onCore_uart (c : Nat) (g : Core → Core) (d : Dev) : (onCore c g d).uart = d.uart := rfl
@[simp] theorem setLink_part (l : Nat) (x : Link) (d : Dev) : (setLink l x d).part = d.part := rfl
@[simp] theorem setLink_regs (l : Nat) (x : Link) (d : Dev) : (setLink l x d).regs = d.regs := rfl
@[simp] theorem setLink_pages (l : Nat) (x : Link) (d : Dev) : (setLink l x d).pages = d.pages := rfl
@[simp] theorem setLink_chain (l : Nat) (x : Link) (d : Dev) : (setLink l x d).chain = d.chain := rfl
@[simp] theorem setLink_dir (l : Nat) (x : Link) (d : Dev) : (setLink l x d).dir = d.dir := rfl
@[simp] theorem setLink_time (l : Nat) (x : Link) (d : Dev) : (setLink l x d).time = d.time := rfl
@[simp] theorem setLink_rdata (l : Nat) (x : Link) (d : Dev) : (setLink l x d).rdata = d.rdata := rfl
@[simp] theorem setLink_ur (l : Nat) (x : Link) (d : Dev) : (setLink l x d).ur = d.ur := rfl
@[simp] theorem setLink_cores (l : Nat) (x : Link) (d : Dev) : (setLink l x d).cores = d.cores := rfl
@[simp] theorem setLink_host (l : Nat) (x : Link) (d : Dev) : (setLink l x d).host = d.host := rfl
@[simp] theorem setLink_recd (l : Nat) (x : Link) (d : Dev) : (setLink l x d).recd = d.recd := rfl
@[simp] theorem setLink_mem (l : Nat) (x : Link) (d : Dev) : (setLink l x d).mem = d.mem := rfl
@[simp] theorem setLink_cache (l : Nat) (x : Link) (d : Dev) : (setLink l x d).cache = d.cache := rfl
@[simp] theorem setLink_fresh (l : Nat) (x : Link) (d : Dev) : (setLink l x d).fresh = d.fresh := rfl
@[simp] theorem setLink_arms (l : Nat) (x : Link) (d : Dev) : (setLink l x d).arms = d.arms := rfl
@[simp] theorem setLink_hands (l : Nat) (x : Link) (d : Dev) : (setLink l x d).hands = d.hands := rfl
@[simp] theorem setLink_workNext (l : Nat) (x : Link) (d : Dev) : (setLink l x d).workNext = d.workNext := rfl
@[simp] theorem setLink_zon (l : Nat) (x : Link) (d : Dev) : (setLink l x d).zon = d.zon := rfl
@[simp] theorem setLink_deal (l : Nat) (x : Link) (d : Dev) : (setLink l x d).deal = d.deal := rfl
@[simp] theorem setLink_vault (l : Nat) (x : Link) (d : Dev) : (setLink l x d).vault = d.vault := rfl
@[simp] theorem setLink_pwr (l : Nat) (x : Link) (d : Dev) : (setLink l x d).pwr = d.pwr := rfl
@[simp] theorem setLink_keys (l : Nat) (x : Link) (d : Dev) : (setLink l x d).keys = d.keys := rfl
@[simp] theorem setLink_redirect (l : Nat) (x : Link) (d : Dev) : (setLink l x d).redirect = d.redirect := rfl
@[simp] theorem setLink_kmu (l : Nat) (x : Link) (d : Dev) : (setLink l x d).kmu = d.kmu := rfl
@[simp] theorem setLink_thm (l : Nat) (x : Link) (d : Dev) : (setLink l x d).thm = d.thm := rfl
@[simp] theorem setLink_pws (l : Nat) (x : Link) (d : Dev) : (setLink l x d).pws = d.pws := rfl
@[simp] theorem setLink_tst (l : Nat) (x : Link) (d : Dev) : (setLink l x d).tst = d.tst := rfl
@[simp] theorem setLink_sup (l : Nat) (x : Link) (d : Dev) : (setLink l x d).sup = d.sup := rfl
@[simp] theorem setLink_uart (l : Nat) (x : Link) (d : Dev) : (setLink l x d).uart = d.uart := rfl
@[simp] theorem deliver_part (e sev mask : Nat) (d : Dev) : (deliver e sev mask d).part = d.part := rfl
@[simp] theorem deliver_regs (e sev mask : Nat) (d : Dev) : (deliver e sev mask d).regs = d.regs := rfl
@[simp] theorem deliver_pages (e sev mask : Nat) (d : Dev) : (deliver e sev mask d).pages = d.pages := rfl
@[simp] theorem deliver_chain (e sev mask : Nat) (d : Dev) : (deliver e sev mask d).chain = d.chain := rfl
@[simp] theorem deliver_dir (e sev mask : Nat) (d : Dev) : (deliver e sev mask d).dir = d.dir := rfl
@[simp] theorem deliver_time (e sev mask : Nat) (d : Dev) : (deliver e sev mask d).time = d.time := rfl
@[simp] theorem deliver_rdata (e sev mask : Nat) (d : Dev) : (deliver e sev mask d).rdata = d.rdata := rfl
@[simp] theorem deliver_ur (e sev mask : Nat) (d : Dev) : (deliver e sev mask d).ur = d.ur := rfl
@[simp] theorem deliver_links (e sev mask : Nat) (d : Dev) : (deliver e sev mask d).links = d.links := rfl
@[simp] theorem deliver_recd (e sev mask : Nat) (d : Dev) : (deliver e sev mask d).recd = d.recd := rfl
@[simp] theorem deliver_mem (e sev mask : Nat) (d : Dev) : (deliver e sev mask d).mem = d.mem := rfl
@[simp] theorem deliver_cache (e sev mask : Nat) (d : Dev) : (deliver e sev mask d).cache = d.cache := rfl
@[simp] theorem deliver_fresh (e sev mask : Nat) (d : Dev) : (deliver e sev mask d).fresh = d.fresh := rfl
@[simp] theorem deliver_arms (e sev mask : Nat) (d : Dev) : (deliver e sev mask d).arms = d.arms := rfl
@[simp] theorem deliver_hands (e sev mask : Nat) (d : Dev) : (deliver e sev mask d).hands = d.hands := rfl
@[simp] theorem deliver_workNext (e sev mask : Nat) (d : Dev) : (deliver e sev mask d).workNext = d.workNext := rfl
@[simp] theorem deliver_zon (e sev mask : Nat) (d : Dev) : (deliver e sev mask d).zon = d.zon := rfl
@[simp] theorem deliver_deal (e sev mask : Nat) (d : Dev) : (deliver e sev mask d).deal = d.deal := rfl
@[simp] theorem deliver_vault (e sev mask : Nat) (d : Dev) : (deliver e sev mask d).vault = d.vault := rfl
@[simp] theorem deliver_pwr (e sev mask : Nat) (d : Dev) : (deliver e sev mask d).pwr = d.pwr := rfl
@[simp] theorem deliver_keys (e sev mask : Nat) (d : Dev) : (deliver e sev mask d).keys = d.keys := rfl
@[simp] theorem deliver_redirect (e sev mask : Nat) (d : Dev) : (deliver e sev mask d).redirect = d.redirect := rfl
@[simp] theorem deliver_kmu (e sev mask : Nat) (d : Dev) : (deliver e sev mask d).kmu = d.kmu := rfl
@[simp] theorem deliver_thm (e sev mask : Nat) (d : Dev) : (deliver e sev mask d).thm = d.thm := rfl
@[simp] theorem deliver_pws (e sev mask : Nat) (d : Dev) : (deliver e sev mask d).pws = d.pws := rfl
@[simp] theorem deliver_tst (e sev mask : Nat) (d : Dev) : (deliver e sev mask d).tst = d.tst := rfl
@[simp] theorem deliver_sup (e sev mask : Nat) (d : Dev) : (deliver e sev mask d).sup = d.sup := rfl
@[simp] theorem deliver_uart (e sev mask : Nat) (d : Dev) : (deliver e sev mask d).uart = d.uart := rfl
@[simp] theorem noteStat_part (b k : Nat) (d : Dev) : (noteStat b k d).part = d.part := rfl
@[simp] theorem noteStat_regs (b k : Nat) (d : Dev) : (noteStat b k d).regs = d.regs := rfl
@[simp] theorem noteStat_chain (b k : Nat) (d : Dev) : (noteStat b k d).chain = d.chain := rfl
@[simp] theorem noteStat_dir (b k : Nat) (d : Dev) : (noteStat b k d).dir = d.dir := rfl
@[simp] theorem noteStat_time (b k : Nat) (d : Dev) : (noteStat b k d).time = d.time := rfl
@[simp] theorem noteStat_rdata (b k : Nat) (d : Dev) : (noteStat b k d).rdata = d.rdata := rfl
@[simp] theorem noteStat_ur (b k : Nat) (d : Dev) : (noteStat b k d).ur = d.ur := rfl
@[simp] theorem noteStat_links (b k : Nat) (d : Dev) : (noteStat b k d).links = d.links := rfl
@[simp] theorem noteStat_cores (b k : Nat) (d : Dev) : (noteStat b k d).cores = d.cores := rfl
@[simp] theorem noteStat_host (b k : Nat) (d : Dev) : (noteStat b k d).host = d.host := rfl
@[simp] theorem noteStat_recd (b k : Nat) (d : Dev) : (noteStat b k d).recd = d.recd := rfl
@[simp] theorem noteStat_mem (b k : Nat) (d : Dev) : (noteStat b k d).mem = d.mem := rfl
@[simp] theorem noteStat_cache (b k : Nat) (d : Dev) : (noteStat b k d).cache = d.cache := rfl
@[simp] theorem noteStat_fresh (b k : Nat) (d : Dev) : (noteStat b k d).fresh = d.fresh := rfl
@[simp] theorem noteStat_arms (b k : Nat) (d : Dev) : (noteStat b k d).arms = d.arms := rfl
@[simp] theorem noteStat_hands (b k : Nat) (d : Dev) : (noteStat b k d).hands = d.hands := rfl
@[simp] theorem noteStat_workNext (b k : Nat) (d : Dev) : (noteStat b k d).workNext = d.workNext := rfl
@[simp] theorem noteStat_zon (b k : Nat) (d : Dev) : (noteStat b k d).zon = d.zon := rfl
@[simp] theorem noteStat_deal (b k : Nat) (d : Dev) : (noteStat b k d).deal = d.deal := rfl
@[simp] theorem noteStat_vault (b k : Nat) (d : Dev) : (noteStat b k d).vault = d.vault := rfl
@[simp] theorem noteStat_pwr (b k : Nat) (d : Dev) : (noteStat b k d).pwr = d.pwr := rfl
@[simp] theorem noteStat_keys (b k : Nat) (d : Dev) : (noteStat b k d).keys = d.keys := rfl
@[simp] theorem noteStat_redirect (b k : Nat) (d : Dev) : (noteStat b k d).redirect = d.redirect := rfl
@[simp] theorem noteStat_kmu (b k : Nat) (d : Dev) : (noteStat b k d).kmu = d.kmu := rfl
@[simp] theorem noteStat_thm (b k : Nat) (d : Dev) : (noteStat b k d).thm = d.thm := rfl
@[simp] theorem noteStat_pws (b k : Nat) (d : Dev) : (noteStat b k d).pws = d.pws := rfl
@[simp] theorem noteStat_tst (b k : Nat) (d : Dev) : (noteStat b k d).tst = d.tst := rfl
@[simp] theorem noteStat_sup (b k : Nat) (d : Dev) : (noteStat b k d).sup = d.sup := rfl
@[simp] theorem noteStat_uart (b k : Nat) (d : Dev) : (noteStat b k d).uart = d.uart := rfl

/-! ## Register fields -/

/-- Two devices with the same registers read alike. -/
theorem rd_congr {a b : Dev} (h : a.regs = b.regs) (f : Fld) : rd f a = rd f b := by simp [rd, h]

/-- A field reads what was written to it, cut to its width. -/
@[simp] theorem rd_wr (f : Fld) (v : Nat) (d : Dev) : rd f (wr f v d) = v % 2 ^ f.w := by simp [rd, wr]

/-- A write leaves every other field alone. -/
theorem rd_wr_ne {f g : Fld} (h : g.key ≠ f.key) (v : Nat) (d : Dev) : rd g (wr f v d) = rd g d :=
  Store.get_put_ne _ _ h _ _

theorem isSet_wr_ne {f g : Fld} (h : g.key ≠ f.key) (v : Nat) (d : Dev) : isSet g (wr f v d) = isSet g d := by
  simp [isSet, rd_wr_ne h]

@[simp] theorem rd_setPage (f : Fld) (b : Nat) (h : PageHdr) (d : Dev) : rd f (setPage b h d) = rd f d := rfl
@[simp] theorem rd_onPage (f : Fld) (b : Nat) (g : PageHdr → PageHdr) (d : Dev) : rd f (onPage b g d) = rd f d := rfl
@[simp] theorem rd_setCore (f : Fld) (c : Nat) (x : Core) (d : Dev) : rd f (setCore c x d) = rd f d := rfl
@[simp] theorem rd_onCore (f : Fld) (c : Nat) (g : Core → Core) (d : Dev) : rd f (onCore c g d) = rd f d := rfl
@[simp] theorem rd_setLink (f : Fld) (l : Nat) (x : Link) (d : Dev) : rd f (setLink l x d) = rd f d := rfl
@[simp] theorem rd_deliver (f : Fld) (e sev mask : Nat) (d : Dev) : rd f (deliver e sev mask d) = rd f d := rfl
@[simp] theorem rd_noteStat (f : Fld) (b k : Nat) (d : Dev) : rd f (noteStat b k d) = rd f d := rfl

/-! ## Page headers, cores and links -/

@[simp] theorem page_wr (b : Nat) (f : Fld) (v : Nat) (d : Dev) : page b (wr f v d) = page b d := rfl
@[simp] theorem page_onCore (b c : Nat) (g : Core → Core) (d : Dev) : page b (onCore c g d) = page b d := rfl
@[simp] theorem page_setPage (b : Nat) (h : PageHdr) (d : Dev) : page b (setPage b h d) = h := by simp [page, setPage]
@[simp] theorem page_onPage (b : Nat) (g : PageHdr → PageHdr) (d : Dev) : page b (onPage b g d) = g (page b d) := by
  simp [onPage]
theorem page_setPage_ne {b c : Nat} (n : b ≠ c) (h : PageHdr) (d : Dev) : page b (setPage c h d) = page b d :=
  Store.get_put_ne _ _ n _ _
theorem page_onPage_ne {b c : Nat} (n : b ≠ c) (g : PageHdr → PageHdr) (d : Dev) : page b (onPage c g d) = page b d :=
  page_setPage_ne n _ d
@[simp] theorem core_wr (c : Nat) (f : Fld) (v : Nat) (d : Dev) : core c (wr f v d) = core c d := rfl
@[simp] theorem core_onPage (c b : Nat) (g : PageHdr → PageHdr) (d : Dev) : core c (onPage b g d) = core c d := rfl
@[simp] theorem core_setCore (c : Nat) (x : Core) (d : Dev) : core c (setCore c x d) = x := by simp [core, setCore]
@[simp] theorem core_onCore (c : Nat) (g : Core → Core) (d : Dev) : core c (onCore c g d) = g (core c d) := by simp [onCore]
theorem core_setCore_ne {b c : Nat} (n : b ≠ c) (x : Core) (d : Dev) : core b (setCore c x d) = core b d :=
  Store.get_put_ne _ _ n _ _
theorem core_onCore_ne {b c : Nat} (n : b ≠ c) (g : Core → Core) (d : Dev) : core b (onCore c g d) = core b d :=
  core_setCore_ne n _ d
@[simp] theorem link_setLink (l : Nat) (x : Link) (d : Dev) : link l (setLink l x d) = x := by simp [link, setLink]

/-! ## The occurrence of an event -/

/-- An occurrence changes page headers, pending sets and MSI-X, and the recorder; nothing else. -/
theorem queueRec_eq (r : LogRec) (d : Dev) :
    ∃ p c h x, queueRec r d = { d with pages := p, cores := c, host := h, recd := x } := by
  unfold queueRec raiseDrop
  simp only
  repeat' split
  all_goals exact ⟨_, _, _, _, rfl⟩

theorem occur_eq (b k : Nat) (own : Option (Nat × List Nat)) (d : Dev) :
    ∃ p c h x, occur b k own d = { d with pages := p, cores := c, host := h, recd := x } := by
  unfold occur
  simp only
  repeat' split
  all_goals first
    | exact ⟨_, _, _, _, rfl⟩
    | (obtain ⟨p, c, h, x, e⟩ := queueRec_eq _ _; exact ⟨p, c, h, x, e⟩)

theorem raise_eq (b k : Nat) (d : Dev) : ∃ p c h x, raise b k d = { d with pages := p, cores := c, host := h, recd := x } := by
  unfold raise
  split
  · exact ⟨_, _, _, _, rfl⟩
  · exact occur_eq b k none d

theorem raiseRec_eq (b k sev : Nat) (pay : List Nat) (d : Dev) :
    ∃ p c h x, raiseRec b k sev pay d = { d with pages := p, cores := c, host := h, recd := x } := occur_eq _ _ _ _

theorem raiseFree_eq (e sev mask : Nat) (d : Dev) :
    ∃ p c h x, raiseFree e sev mask d = { d with pages := p, cores := c, host := h, recd := x } := by
  unfold raiseFree
  simp only
  split
  · obtain ⟨p, c, h, x, e⟩ := queueRec_eq ⟨_, _, _⟩ (deliver e sev mask d)
    exact ⟨p, c, h, x, e⟩
  · exact ⟨_, _, _, _, rfl⟩

theorem setRaw_eq (b k : Nat) (v : Bool) (d : Dev) :
    ∃ p c h x, setRaw b k v d = { d with pages := p, cores := c, host := h, recd := x } := by
  unfold setRaw
  split
  · split
    · exact ⟨_, _, _, _, rfl⟩
    · obtain ⟨p, c, h, x, e⟩ := occur_eq b k none d
      rw [e]
      exact ⟨_, _, _, _, rfl⟩
  · exact ⟨_, _, _, _, rfl⟩

@[simp] theorem queueRec_part (r : LogRec) (d : Dev) : (queueRec r d).part = d.part := by
  obtain ⟨_, _, _, _, e⟩ := queueRec_eq r d; rw [e]
@[simp] theorem queueRec_regs (r : LogRec) (d : Dev) : (queueRec r d).regs = d.regs := by
  obtain ⟨_, _, _, _, e⟩ := queueRec_eq r d; rw [e]
@[simp] theorem queueRec_chain (r : LogRec) (d : Dev) : (queueRec r d).chain = d.chain := by
  obtain ⟨_, _, _, _, e⟩ := queueRec_eq r d; rw [e]
@[simp] theorem queueRec_dir (r : LogRec) (d : Dev) : (queueRec r d).dir = d.dir := by
  obtain ⟨_, _, _, _, e⟩ := queueRec_eq r d; rw [e]
@[simp] theorem queueRec_time (r : LogRec) (d : Dev) : (queueRec r d).time = d.time := by
  obtain ⟨_, _, _, _, e⟩ := queueRec_eq r d; rw [e]
@[simp] theorem queueRec_rdata (r : LogRec) (d : Dev) : (queueRec r d).rdata = d.rdata := by
  obtain ⟨_, _, _, _, e⟩ := queueRec_eq r d; rw [e]
@[simp] theorem queueRec_ur (r : LogRec) (d : Dev) : (queueRec r d).ur = d.ur := by
  obtain ⟨_, _, _, _, e⟩ := queueRec_eq r d; rw [e]
@[simp] theorem queueRec_links (r : LogRec) (d : Dev) : (queueRec r d).links = d.links := by
  obtain ⟨_, _, _, _, e⟩ := queueRec_eq r d; rw [e]
@[simp] theorem queueRec_mem (r : LogRec) (d : Dev) : (queueRec r d).mem = d.mem := by
  obtain ⟨_, _, _, _, e⟩ := queueRec_eq r d; rw [e]
@[simp] theorem queueRec_cache (r : LogRec) (d : Dev) : (queueRec r d).cache = d.cache := by
  obtain ⟨_, _, _, _, e⟩ := queueRec_eq r d; rw [e]
@[simp] theorem queueRec_fresh (r : LogRec) (d : Dev) : (queueRec r d).fresh = d.fresh := by
  obtain ⟨_, _, _, _, e⟩ := queueRec_eq r d; rw [e]
@[simp] theorem queueRec_arms (r : LogRec) (d : Dev) : (queueRec r d).arms = d.arms := by
  obtain ⟨_, _, _, _, e⟩ := queueRec_eq r d; rw [e]
@[simp] theorem queueRec_hands (r : LogRec) (d : Dev) : (queueRec r d).hands = d.hands := by
  obtain ⟨_, _, _, _, e⟩ := queueRec_eq r d; rw [e]
@[simp] theorem queueRec_workNext (r : LogRec) (d : Dev) : (queueRec r d).workNext = d.workNext := by
  obtain ⟨_, _, _, _, e⟩ := queueRec_eq r d; rw [e]
@[simp] theorem queueRec_zon (r : LogRec) (d : Dev) : (queueRec r d).zon = d.zon := by
  obtain ⟨_, _, _, _, e⟩ := queueRec_eq r d; rw [e]
@[simp] theorem queueRec_deal (r : LogRec) (d : Dev) : (queueRec r d).deal = d.deal := by
  obtain ⟨_, _, _, _, e⟩ := queueRec_eq r d; rw [e]
@[simp] theorem queueRec_vault (r : LogRec) (d : Dev) : (queueRec r d).vault = d.vault := by
  obtain ⟨_, _, _, _, e⟩ := queueRec_eq r d; rw [e]
@[simp] theorem queueRec_pwr (r : LogRec) (d : Dev) : (queueRec r d).pwr = d.pwr := by
  obtain ⟨_, _, _, _, e⟩ := queueRec_eq r d; rw [e]
@[simp] theorem queueRec_keys (r : LogRec) (d : Dev) : (queueRec r d).keys = d.keys := by
  obtain ⟨_, _, _, _, e⟩ := queueRec_eq r d; rw [e]
@[simp] theorem queueRec_redirect (r : LogRec) (d : Dev) : (queueRec r d).redirect = d.redirect := by
  obtain ⟨_, _, _, _, e⟩ := queueRec_eq r d; rw [e]
@[simp] theorem queueRec_kmu (r : LogRec) (d : Dev) : (queueRec r d).kmu = d.kmu := by
  obtain ⟨_, _, _, _, e⟩ := queueRec_eq r d; rw [e]
@[simp] theorem queueRec_thm (r : LogRec) (d : Dev) : (queueRec r d).thm = d.thm := by
  obtain ⟨_, _, _, _, e⟩ := queueRec_eq r d; rw [e]
@[simp] theorem queueRec_pws (r : LogRec) (d : Dev) : (queueRec r d).pws = d.pws := by
  obtain ⟨_, _, _, _, e⟩ := queueRec_eq r d; rw [e]
@[simp] theorem queueRec_tst (r : LogRec) (d : Dev) : (queueRec r d).tst = d.tst := by
  obtain ⟨_, _, _, _, e⟩ := queueRec_eq r d; rw [e]
@[simp] theorem queueRec_sup (r : LogRec) (d : Dev) : (queueRec r d).sup = d.sup := by
  obtain ⟨_, _, _, _, e⟩ := queueRec_eq r d; rw [e]
@[simp] theorem queueRec_uart (r : LogRec) (d : Dev) : (queueRec r d).uart = d.uart := by
  obtain ⟨_, _, _, _, e⟩ := queueRec_eq r d; rw [e]
@[simp] theorem rd_queueRec (f : Fld) (r : LogRec) (d : Dev) : rd f (queueRec r d) = rd f d := rd_congr (by simp) f
@[simp] theorem occur_part (b k : Nat) (own : Option (Nat × List Nat)) (d : Dev) : (occur b k own d).part = d.part := by
  obtain ⟨_, _, _, _, e⟩ := occur_eq b k own d; rw [e]
@[simp] theorem occur_regs (b k : Nat) (own : Option (Nat × List Nat)) (d : Dev) : (occur b k own d).regs = d.regs := by
  obtain ⟨_, _, _, _, e⟩ := occur_eq b k own d; rw [e]
@[simp] theorem occur_chain (b k : Nat) (own : Option (Nat × List Nat)) (d : Dev) : (occur b k own d).chain = d.chain := by
  obtain ⟨_, _, _, _, e⟩ := occur_eq b k own d; rw [e]
@[simp] theorem occur_dir (b k : Nat) (own : Option (Nat × List Nat)) (d : Dev) : (occur b k own d).dir = d.dir := by
  obtain ⟨_, _, _, _, e⟩ := occur_eq b k own d; rw [e]
@[simp] theorem occur_time (b k : Nat) (own : Option (Nat × List Nat)) (d : Dev) : (occur b k own d).time = d.time := by
  obtain ⟨_, _, _, _, e⟩ := occur_eq b k own d; rw [e]
@[simp] theorem occur_rdata (b k : Nat) (own : Option (Nat × List Nat)) (d : Dev) : (occur b k own d).rdata = d.rdata := by
  obtain ⟨_, _, _, _, e⟩ := occur_eq b k own d; rw [e]
@[simp] theorem occur_ur (b k : Nat) (own : Option (Nat × List Nat)) (d : Dev) : (occur b k own d).ur = d.ur := by
  obtain ⟨_, _, _, _, e⟩ := occur_eq b k own d; rw [e]
@[simp] theorem occur_links (b k : Nat) (own : Option (Nat × List Nat)) (d : Dev) : (occur b k own d).links = d.links := by
  obtain ⟨_, _, _, _, e⟩ := occur_eq b k own d; rw [e]
@[simp] theorem occur_mem (b k : Nat) (own : Option (Nat × List Nat)) (d : Dev) : (occur b k own d).mem = d.mem := by
  obtain ⟨_, _, _, _, e⟩ := occur_eq b k own d; rw [e]
@[simp] theorem occur_cache (b k : Nat) (own : Option (Nat × List Nat)) (d : Dev) : (occur b k own d).cache = d.cache := by
  obtain ⟨_, _, _, _, e⟩ := occur_eq b k own d; rw [e]
@[simp] theorem occur_fresh (b k : Nat) (own : Option (Nat × List Nat)) (d : Dev) : (occur b k own d).fresh = d.fresh := by
  obtain ⟨_, _, _, _, e⟩ := occur_eq b k own d; rw [e]
@[simp] theorem occur_arms (b k : Nat) (own : Option (Nat × List Nat)) (d : Dev) : (occur b k own d).arms = d.arms := by
  obtain ⟨_, _, _, _, e⟩ := occur_eq b k own d; rw [e]
@[simp] theorem occur_hands (b k : Nat) (own : Option (Nat × List Nat)) (d : Dev) : (occur b k own d).hands = d.hands := by
  obtain ⟨_, _, _, _, e⟩ := occur_eq b k own d; rw [e]
@[simp] theorem occur_workNext (b k : Nat) (own : Option (Nat × List Nat)) (d : Dev) : (occur b k own d).workNext = d.workNext := by
  obtain ⟨_, _, _, _, e⟩ := occur_eq b k own d; rw [e]
@[simp] theorem occur_zon (b k : Nat) (own : Option (Nat × List Nat)) (d : Dev) : (occur b k own d).zon = d.zon := by
  obtain ⟨_, _, _, _, e⟩ := occur_eq b k own d; rw [e]
@[simp] theorem occur_deal (b k : Nat) (own : Option (Nat × List Nat)) (d : Dev) : (occur b k own d).deal = d.deal := by
  obtain ⟨_, _, _, _, e⟩ := occur_eq b k own d; rw [e]
@[simp] theorem occur_vault (b k : Nat) (own : Option (Nat × List Nat)) (d : Dev) : (occur b k own d).vault = d.vault := by
  obtain ⟨_, _, _, _, e⟩ := occur_eq b k own d; rw [e]
@[simp] theorem occur_pwr (b k : Nat) (own : Option (Nat × List Nat)) (d : Dev) : (occur b k own d).pwr = d.pwr := by
  obtain ⟨_, _, _, _, e⟩ := occur_eq b k own d; rw [e]
@[simp] theorem occur_keys (b k : Nat) (own : Option (Nat × List Nat)) (d : Dev) : (occur b k own d).keys = d.keys := by
  obtain ⟨_, _, _, _, e⟩ := occur_eq b k own d; rw [e]
@[simp] theorem occur_redirect (b k : Nat) (own : Option (Nat × List Nat)) (d : Dev) : (occur b k own d).redirect = d.redirect := by
  obtain ⟨_, _, _, _, e⟩ := occur_eq b k own d; rw [e]
@[simp] theorem occur_kmu (b k : Nat) (own : Option (Nat × List Nat)) (d : Dev) : (occur b k own d).kmu = d.kmu := by
  obtain ⟨_, _, _, _, e⟩ := occur_eq b k own d; rw [e]
@[simp] theorem occur_thm (b k : Nat) (own : Option (Nat × List Nat)) (d : Dev) : (occur b k own d).thm = d.thm := by
  obtain ⟨_, _, _, _, e⟩ := occur_eq b k own d; rw [e]
@[simp] theorem occur_pws (b k : Nat) (own : Option (Nat × List Nat)) (d : Dev) : (occur b k own d).pws = d.pws := by
  obtain ⟨_, _, _, _, e⟩ := occur_eq b k own d; rw [e]
@[simp] theorem occur_tst (b k : Nat) (own : Option (Nat × List Nat)) (d : Dev) : (occur b k own d).tst = d.tst := by
  obtain ⟨_, _, _, _, e⟩ := occur_eq b k own d; rw [e]
@[simp] theorem occur_sup (b k : Nat) (own : Option (Nat × List Nat)) (d : Dev) : (occur b k own d).sup = d.sup := by
  obtain ⟨_, _, _, _, e⟩ := occur_eq b k own d; rw [e]
@[simp] theorem occur_uart (b k : Nat) (own : Option (Nat × List Nat)) (d : Dev) : (occur b k own d).uart = d.uart := by
  obtain ⟨_, _, _, _, e⟩ := occur_eq b k own d; rw [e]
@[simp] theorem rd_occur (f : Fld) (b k : Nat) (own : Option (Nat × List Nat)) (d : Dev) : rd f (occur b k own d) = rd f d := rd_congr (by simp) f
@[simp] theorem raise_part (b k : Nat) (d : Dev) : (raise b k d).part = d.part := by
  obtain ⟨_, _, _, _, e⟩ := raise_eq b k d; rw [e]
@[simp] theorem raise_regs (b k : Nat) (d : Dev) : (raise b k d).regs = d.regs := by
  obtain ⟨_, _, _, _, e⟩ := raise_eq b k d; rw [e]
@[simp] theorem raise_chain (b k : Nat) (d : Dev) : (raise b k d).chain = d.chain := by
  obtain ⟨_, _, _, _, e⟩ := raise_eq b k d; rw [e]
@[simp] theorem raise_dir (b k : Nat) (d : Dev) : (raise b k d).dir = d.dir := by
  obtain ⟨_, _, _, _, e⟩ := raise_eq b k d; rw [e]
@[simp] theorem raise_time (b k : Nat) (d : Dev) : (raise b k d).time = d.time := by
  obtain ⟨_, _, _, _, e⟩ := raise_eq b k d; rw [e]
@[simp] theorem raise_rdata (b k : Nat) (d : Dev) : (raise b k d).rdata = d.rdata := by
  obtain ⟨_, _, _, _, e⟩ := raise_eq b k d; rw [e]
@[simp] theorem raise_ur (b k : Nat) (d : Dev) : (raise b k d).ur = d.ur := by
  obtain ⟨_, _, _, _, e⟩ := raise_eq b k d; rw [e]
@[simp] theorem raise_links (b k : Nat) (d : Dev) : (raise b k d).links = d.links := by
  obtain ⟨_, _, _, _, e⟩ := raise_eq b k d; rw [e]
@[simp] theorem raise_mem (b k : Nat) (d : Dev) : (raise b k d).mem = d.mem := by
  obtain ⟨_, _, _, _, e⟩ := raise_eq b k d; rw [e]
@[simp] theorem raise_cache (b k : Nat) (d : Dev) : (raise b k d).cache = d.cache := by
  obtain ⟨_, _, _, _, e⟩ := raise_eq b k d; rw [e]
@[simp] theorem raise_fresh (b k : Nat) (d : Dev) : (raise b k d).fresh = d.fresh := by
  obtain ⟨_, _, _, _, e⟩ := raise_eq b k d; rw [e]
@[simp] theorem raise_arms (b k : Nat) (d : Dev) : (raise b k d).arms = d.arms := by
  obtain ⟨_, _, _, _, e⟩ := raise_eq b k d; rw [e]
@[simp] theorem raise_hands (b k : Nat) (d : Dev) : (raise b k d).hands = d.hands := by
  obtain ⟨_, _, _, _, e⟩ := raise_eq b k d; rw [e]
@[simp] theorem raise_workNext (b k : Nat) (d : Dev) : (raise b k d).workNext = d.workNext := by
  obtain ⟨_, _, _, _, e⟩ := raise_eq b k d; rw [e]
@[simp] theorem raise_zon (b k : Nat) (d : Dev) : (raise b k d).zon = d.zon := by
  obtain ⟨_, _, _, _, e⟩ := raise_eq b k d; rw [e]
@[simp] theorem raise_deal (b k : Nat) (d : Dev) : (raise b k d).deal = d.deal := by
  obtain ⟨_, _, _, _, e⟩ := raise_eq b k d; rw [e]
@[simp] theorem raise_vault (b k : Nat) (d : Dev) : (raise b k d).vault = d.vault := by
  obtain ⟨_, _, _, _, e⟩ := raise_eq b k d; rw [e]
@[simp] theorem raise_pwr (b k : Nat) (d : Dev) : (raise b k d).pwr = d.pwr := by
  obtain ⟨_, _, _, _, e⟩ := raise_eq b k d; rw [e]
@[simp] theorem raise_keys (b k : Nat) (d : Dev) : (raise b k d).keys = d.keys := by
  obtain ⟨_, _, _, _, e⟩ := raise_eq b k d; rw [e]
@[simp] theorem raise_redirect (b k : Nat) (d : Dev) : (raise b k d).redirect = d.redirect := by
  obtain ⟨_, _, _, _, e⟩ := raise_eq b k d; rw [e]
@[simp] theorem raise_kmu (b k : Nat) (d : Dev) : (raise b k d).kmu = d.kmu := by
  obtain ⟨_, _, _, _, e⟩ := raise_eq b k d; rw [e]
@[simp] theorem raise_thm (b k : Nat) (d : Dev) : (raise b k d).thm = d.thm := by
  obtain ⟨_, _, _, _, e⟩ := raise_eq b k d; rw [e]
@[simp] theorem raise_pws (b k : Nat) (d : Dev) : (raise b k d).pws = d.pws := by
  obtain ⟨_, _, _, _, e⟩ := raise_eq b k d; rw [e]
@[simp] theorem raise_tst (b k : Nat) (d : Dev) : (raise b k d).tst = d.tst := by
  obtain ⟨_, _, _, _, e⟩ := raise_eq b k d; rw [e]
@[simp] theorem raise_sup (b k : Nat) (d : Dev) : (raise b k d).sup = d.sup := by
  obtain ⟨_, _, _, _, e⟩ := raise_eq b k d; rw [e]
@[simp] theorem raise_uart (b k : Nat) (d : Dev) : (raise b k d).uart = d.uart := by
  obtain ⟨_, _, _, _, e⟩ := raise_eq b k d; rw [e]
@[simp] theorem rd_raise (f : Fld) (b k : Nat) (d : Dev) : rd f (raise b k d) = rd f d := rd_congr (by simp) f
@[simp] theorem raiseRec_part (b k sev : Nat) (pay : List Nat) (d : Dev) : (raiseRec b k sev pay d).part = d.part := by
  obtain ⟨_, _, _, _, e⟩ := raiseRec_eq b k sev pay d; rw [e]
@[simp] theorem raiseRec_regs (b k sev : Nat) (pay : List Nat) (d : Dev) : (raiseRec b k sev pay d).regs = d.regs := by
  obtain ⟨_, _, _, _, e⟩ := raiseRec_eq b k sev pay d; rw [e]
@[simp] theorem raiseRec_chain (b k sev : Nat) (pay : List Nat) (d : Dev) : (raiseRec b k sev pay d).chain = d.chain := by
  obtain ⟨_, _, _, _, e⟩ := raiseRec_eq b k sev pay d; rw [e]
@[simp] theorem raiseRec_dir (b k sev : Nat) (pay : List Nat) (d : Dev) : (raiseRec b k sev pay d).dir = d.dir := by
  obtain ⟨_, _, _, _, e⟩ := raiseRec_eq b k sev pay d; rw [e]
@[simp] theorem raiseRec_time (b k sev : Nat) (pay : List Nat) (d : Dev) : (raiseRec b k sev pay d).time = d.time := by
  obtain ⟨_, _, _, _, e⟩ := raiseRec_eq b k sev pay d; rw [e]
@[simp] theorem raiseRec_rdata (b k sev : Nat) (pay : List Nat) (d : Dev) : (raiseRec b k sev pay d).rdata = d.rdata := by
  obtain ⟨_, _, _, _, e⟩ := raiseRec_eq b k sev pay d; rw [e]
@[simp] theorem raiseRec_ur (b k sev : Nat) (pay : List Nat) (d : Dev) : (raiseRec b k sev pay d).ur = d.ur := by
  obtain ⟨_, _, _, _, e⟩ := raiseRec_eq b k sev pay d; rw [e]
@[simp] theorem raiseRec_links (b k sev : Nat) (pay : List Nat) (d : Dev) : (raiseRec b k sev pay d).links = d.links := by
  obtain ⟨_, _, _, _, e⟩ := raiseRec_eq b k sev pay d; rw [e]
@[simp] theorem raiseRec_mem (b k sev : Nat) (pay : List Nat) (d : Dev) : (raiseRec b k sev pay d).mem = d.mem := by
  obtain ⟨_, _, _, _, e⟩ := raiseRec_eq b k sev pay d; rw [e]
@[simp] theorem raiseRec_cache (b k sev : Nat) (pay : List Nat) (d : Dev) : (raiseRec b k sev pay d).cache = d.cache := by
  obtain ⟨_, _, _, _, e⟩ := raiseRec_eq b k sev pay d; rw [e]
@[simp] theorem raiseRec_fresh (b k sev : Nat) (pay : List Nat) (d : Dev) : (raiseRec b k sev pay d).fresh = d.fresh := by
  obtain ⟨_, _, _, _, e⟩ := raiseRec_eq b k sev pay d; rw [e]
@[simp] theorem raiseRec_arms (b k sev : Nat) (pay : List Nat) (d : Dev) : (raiseRec b k sev pay d).arms = d.arms := by
  obtain ⟨_, _, _, _, e⟩ := raiseRec_eq b k sev pay d; rw [e]
@[simp] theorem raiseRec_hands (b k sev : Nat) (pay : List Nat) (d : Dev) : (raiseRec b k sev pay d).hands = d.hands := by
  obtain ⟨_, _, _, _, e⟩ := raiseRec_eq b k sev pay d; rw [e]
@[simp] theorem raiseRec_workNext (b k sev : Nat) (pay : List Nat) (d : Dev) : (raiseRec b k sev pay d).workNext = d.workNext := by
  obtain ⟨_, _, _, _, e⟩ := raiseRec_eq b k sev pay d; rw [e]
@[simp] theorem raiseRec_zon (b k sev : Nat) (pay : List Nat) (d : Dev) : (raiseRec b k sev pay d).zon = d.zon := by
  obtain ⟨_, _, _, _, e⟩ := raiseRec_eq b k sev pay d; rw [e]
@[simp] theorem raiseRec_deal (b k sev : Nat) (pay : List Nat) (d : Dev) : (raiseRec b k sev pay d).deal = d.deal := by
  obtain ⟨_, _, _, _, e⟩ := raiseRec_eq b k sev pay d; rw [e]
@[simp] theorem raiseRec_vault (b k sev : Nat) (pay : List Nat) (d : Dev) : (raiseRec b k sev pay d).vault = d.vault := by
  obtain ⟨_, _, _, _, e⟩ := raiseRec_eq b k sev pay d; rw [e]
@[simp] theorem raiseRec_pwr (b k sev : Nat) (pay : List Nat) (d : Dev) : (raiseRec b k sev pay d).pwr = d.pwr := by
  obtain ⟨_, _, _, _, e⟩ := raiseRec_eq b k sev pay d; rw [e]
@[simp] theorem raiseRec_keys (b k sev : Nat) (pay : List Nat) (d : Dev) : (raiseRec b k sev pay d).keys = d.keys := by
  obtain ⟨_, _, _, _, e⟩ := raiseRec_eq b k sev pay d; rw [e]
@[simp] theorem raiseRec_redirect (b k sev : Nat) (pay : List Nat) (d : Dev) : (raiseRec b k sev pay d).redirect = d.redirect := by
  obtain ⟨_, _, _, _, e⟩ := raiseRec_eq b k sev pay d; rw [e]
@[simp] theorem raiseRec_kmu (b k sev : Nat) (pay : List Nat) (d : Dev) : (raiseRec b k sev pay d).kmu = d.kmu := by
  obtain ⟨_, _, _, _, e⟩ := raiseRec_eq b k sev pay d; rw [e]
@[simp] theorem raiseRec_thm (b k sev : Nat) (pay : List Nat) (d : Dev) : (raiseRec b k sev pay d).thm = d.thm := by
  obtain ⟨_, _, _, _, e⟩ := raiseRec_eq b k sev pay d; rw [e]
@[simp] theorem raiseRec_pws (b k sev : Nat) (pay : List Nat) (d : Dev) : (raiseRec b k sev pay d).pws = d.pws := by
  obtain ⟨_, _, _, _, e⟩ := raiseRec_eq b k sev pay d; rw [e]
@[simp] theorem raiseRec_tst (b k sev : Nat) (pay : List Nat) (d : Dev) : (raiseRec b k sev pay d).tst = d.tst := by
  obtain ⟨_, _, _, _, e⟩ := raiseRec_eq b k sev pay d; rw [e]
@[simp] theorem raiseRec_sup (b k sev : Nat) (pay : List Nat) (d : Dev) : (raiseRec b k sev pay d).sup = d.sup := by
  obtain ⟨_, _, _, _, e⟩ := raiseRec_eq b k sev pay d; rw [e]
@[simp] theorem raiseRec_uart (b k sev : Nat) (pay : List Nat) (d : Dev) : (raiseRec b k sev pay d).uart = d.uart := by
  obtain ⟨_, _, _, _, e⟩ := raiseRec_eq b k sev pay d; rw [e]
@[simp] theorem rd_raiseRec (f : Fld) (b k sev : Nat) (pay : List Nat) (d : Dev) : rd f (raiseRec b k sev pay d) = rd f d := rd_congr (by simp) f
@[simp] theorem raiseFree_part (e sev mask : Nat) (d : Dev) : (raiseFree e sev mask d).part = d.part := by
  obtain ⟨_, _, _, _, e⟩ := raiseFree_eq e sev mask d; rw [e]
@[simp] theorem raiseFree_regs (e sev mask : Nat) (d : Dev) : (raiseFree e sev mask d).regs = d.regs := by
  obtain ⟨_, _, _, _, e⟩ := raiseFree_eq e sev mask d; rw [e]
@[simp] theorem raiseFree_chain (e sev mask : Nat) (d : Dev) : (raiseFree e sev mask d).chain = d.chain := by
  obtain ⟨_, _, _, _, e⟩ := raiseFree_eq e sev mask d; rw [e]
@[simp] theorem raiseFree_dir (e sev mask : Nat) (d : Dev) : (raiseFree e sev mask d).dir = d.dir := by
  obtain ⟨_, _, _, _, e⟩ := raiseFree_eq e sev mask d; rw [e]
@[simp] theorem raiseFree_time (e sev mask : Nat) (d : Dev) : (raiseFree e sev mask d).time = d.time := by
  obtain ⟨_, _, _, _, e⟩ := raiseFree_eq e sev mask d; rw [e]
@[simp] theorem raiseFree_rdata (e sev mask : Nat) (d : Dev) : (raiseFree e sev mask d).rdata = d.rdata := by
  obtain ⟨_, _, _, _, e⟩ := raiseFree_eq e sev mask d; rw [e]
@[simp] theorem raiseFree_ur (e sev mask : Nat) (d : Dev) : (raiseFree e sev mask d).ur = d.ur := by
  obtain ⟨_, _, _, _, e⟩ := raiseFree_eq e sev mask d; rw [e]
@[simp] theorem raiseFree_links (e sev mask : Nat) (d : Dev) : (raiseFree e sev mask d).links = d.links := by
  obtain ⟨_, _, _, _, e⟩ := raiseFree_eq e sev mask d; rw [e]
@[simp] theorem raiseFree_mem (e sev mask : Nat) (d : Dev) : (raiseFree e sev mask d).mem = d.mem := by
  obtain ⟨_, _, _, _, e⟩ := raiseFree_eq e sev mask d; rw [e]
@[simp] theorem raiseFree_cache (e sev mask : Nat) (d : Dev) : (raiseFree e sev mask d).cache = d.cache := by
  obtain ⟨_, _, _, _, e⟩ := raiseFree_eq e sev mask d; rw [e]
@[simp] theorem raiseFree_fresh (e sev mask : Nat) (d : Dev) : (raiseFree e sev mask d).fresh = d.fresh := by
  obtain ⟨_, _, _, _, e⟩ := raiseFree_eq e sev mask d; rw [e]
@[simp] theorem raiseFree_arms (e sev mask : Nat) (d : Dev) : (raiseFree e sev mask d).arms = d.arms := by
  obtain ⟨_, _, _, _, e⟩ := raiseFree_eq e sev mask d; rw [e]
@[simp] theorem raiseFree_hands (e sev mask : Nat) (d : Dev) : (raiseFree e sev mask d).hands = d.hands := by
  obtain ⟨_, _, _, _, e⟩ := raiseFree_eq e sev mask d; rw [e]
@[simp] theorem raiseFree_workNext (e sev mask : Nat) (d : Dev) : (raiseFree e sev mask d).workNext = d.workNext := by
  obtain ⟨_, _, _, _, e⟩ := raiseFree_eq e sev mask d; rw [e]
@[simp] theorem raiseFree_zon (e sev mask : Nat) (d : Dev) : (raiseFree e sev mask d).zon = d.zon := by
  obtain ⟨_, _, _, _, e⟩ := raiseFree_eq e sev mask d; rw [e]
@[simp] theorem raiseFree_deal (e sev mask : Nat) (d : Dev) : (raiseFree e sev mask d).deal = d.deal := by
  obtain ⟨_, _, _, _, e⟩ := raiseFree_eq e sev mask d; rw [e]
@[simp] theorem raiseFree_vault (e sev mask : Nat) (d : Dev) : (raiseFree e sev mask d).vault = d.vault := by
  obtain ⟨_, _, _, _, e⟩ := raiseFree_eq e sev mask d; rw [e]
@[simp] theorem raiseFree_pwr (e sev mask : Nat) (d : Dev) : (raiseFree e sev mask d).pwr = d.pwr := by
  obtain ⟨_, _, _, _, e⟩ := raiseFree_eq e sev mask d; rw [e]
@[simp] theorem raiseFree_keys (e sev mask : Nat) (d : Dev) : (raiseFree e sev mask d).keys = d.keys := by
  obtain ⟨_, _, _, _, e⟩ := raiseFree_eq e sev mask d; rw [e]
@[simp] theorem raiseFree_redirect (e sev mask : Nat) (d : Dev) : (raiseFree e sev mask d).redirect = d.redirect := by
  obtain ⟨_, _, _, _, e⟩ := raiseFree_eq e sev mask d; rw [e]
@[simp] theorem raiseFree_kmu (e sev mask : Nat) (d : Dev) : (raiseFree e sev mask d).kmu = d.kmu := by
  obtain ⟨_, _, _, _, e⟩ := raiseFree_eq e sev mask d; rw [e]
@[simp] theorem raiseFree_thm (e sev mask : Nat) (d : Dev) : (raiseFree e sev mask d).thm = d.thm := by
  obtain ⟨_, _, _, _, e⟩ := raiseFree_eq e sev mask d; rw [e]
@[simp] theorem raiseFree_pws (e sev mask : Nat) (d : Dev) : (raiseFree e sev mask d).pws = d.pws := by
  obtain ⟨_, _, _, _, e⟩ := raiseFree_eq e sev mask d; rw [e]
@[simp] theorem raiseFree_tst (e sev mask : Nat) (d : Dev) : (raiseFree e sev mask d).tst = d.tst := by
  obtain ⟨_, _, _, _, e⟩ := raiseFree_eq e sev mask d; rw [e]
@[simp] theorem raiseFree_sup (e sev mask : Nat) (d : Dev) : (raiseFree e sev mask d).sup = d.sup := by
  obtain ⟨_, _, _, _, e⟩ := raiseFree_eq e sev mask d; rw [e]
@[simp] theorem raiseFree_uart (e sev mask : Nat) (d : Dev) : (raiseFree e sev mask d).uart = d.uart := by
  obtain ⟨_, _, _, _, e⟩ := raiseFree_eq e sev mask d; rw [e]
@[simp] theorem rd_raiseFree (f : Fld) (e sev mask : Nat) (d : Dev) : rd f (raiseFree e sev mask d) = rd f d := rd_congr (by simp) f
@[simp] theorem setRaw_part (b k : Nat) (v : Bool) (d : Dev) : (setRaw b k v d).part = d.part := by
  obtain ⟨_, _, _, _, e⟩ := setRaw_eq b k v d; rw [e]
@[simp] theorem setRaw_regs (b k : Nat) (v : Bool) (d : Dev) : (setRaw b k v d).regs = d.regs := by
  obtain ⟨_, _, _, _, e⟩ := setRaw_eq b k v d; rw [e]
@[simp] theorem setRaw_chain (b k : Nat) (v : Bool) (d : Dev) : (setRaw b k v d).chain = d.chain := by
  obtain ⟨_, _, _, _, e⟩ := setRaw_eq b k v d; rw [e]
@[simp] theorem setRaw_dir (b k : Nat) (v : Bool) (d : Dev) : (setRaw b k v d).dir = d.dir := by
  obtain ⟨_, _, _, _, e⟩ := setRaw_eq b k v d; rw [e]
@[simp] theorem setRaw_time (b k : Nat) (v : Bool) (d : Dev) : (setRaw b k v d).time = d.time := by
  obtain ⟨_, _, _, _, e⟩ := setRaw_eq b k v d; rw [e]
@[simp] theorem setRaw_rdata (b k : Nat) (v : Bool) (d : Dev) : (setRaw b k v d).rdata = d.rdata := by
  obtain ⟨_, _, _, _, e⟩ := setRaw_eq b k v d; rw [e]
@[simp] theorem setRaw_ur (b k : Nat) (v : Bool) (d : Dev) : (setRaw b k v d).ur = d.ur := by
  obtain ⟨_, _, _, _, e⟩ := setRaw_eq b k v d; rw [e]
@[simp] theorem setRaw_links (b k : Nat) (v : Bool) (d : Dev) : (setRaw b k v d).links = d.links := by
  obtain ⟨_, _, _, _, e⟩ := setRaw_eq b k v d; rw [e]
@[simp] theorem setRaw_mem (b k : Nat) (v : Bool) (d : Dev) : (setRaw b k v d).mem = d.mem := by
  obtain ⟨_, _, _, _, e⟩ := setRaw_eq b k v d; rw [e]
@[simp] theorem setRaw_cache (b k : Nat) (v : Bool) (d : Dev) : (setRaw b k v d).cache = d.cache := by
  obtain ⟨_, _, _, _, e⟩ := setRaw_eq b k v d; rw [e]
@[simp] theorem setRaw_fresh (b k : Nat) (v : Bool) (d : Dev) : (setRaw b k v d).fresh = d.fresh := by
  obtain ⟨_, _, _, _, e⟩ := setRaw_eq b k v d; rw [e]
@[simp] theorem setRaw_arms (b k : Nat) (v : Bool) (d : Dev) : (setRaw b k v d).arms = d.arms := by
  obtain ⟨_, _, _, _, e⟩ := setRaw_eq b k v d; rw [e]
@[simp] theorem setRaw_hands (b k : Nat) (v : Bool) (d : Dev) : (setRaw b k v d).hands = d.hands := by
  obtain ⟨_, _, _, _, e⟩ := setRaw_eq b k v d; rw [e]
@[simp] theorem setRaw_workNext (b k : Nat) (v : Bool) (d : Dev) : (setRaw b k v d).workNext = d.workNext := by
  obtain ⟨_, _, _, _, e⟩ := setRaw_eq b k v d; rw [e]
@[simp] theorem setRaw_zon (b k : Nat) (v : Bool) (d : Dev) : (setRaw b k v d).zon = d.zon := by
  obtain ⟨_, _, _, _, e⟩ := setRaw_eq b k v d; rw [e]
@[simp] theorem setRaw_deal (b k : Nat) (v : Bool) (d : Dev) : (setRaw b k v d).deal = d.deal := by
  obtain ⟨_, _, _, _, e⟩ := setRaw_eq b k v d; rw [e]
@[simp] theorem setRaw_vault (b k : Nat) (v : Bool) (d : Dev) : (setRaw b k v d).vault = d.vault := by
  obtain ⟨_, _, _, _, e⟩ := setRaw_eq b k v d; rw [e]
@[simp] theorem setRaw_pwr (b k : Nat) (v : Bool) (d : Dev) : (setRaw b k v d).pwr = d.pwr := by
  obtain ⟨_, _, _, _, e⟩ := setRaw_eq b k v d; rw [e]
@[simp] theorem setRaw_keys (b k : Nat) (v : Bool) (d : Dev) : (setRaw b k v d).keys = d.keys := by
  obtain ⟨_, _, _, _, e⟩ := setRaw_eq b k v d; rw [e]
@[simp] theorem setRaw_redirect (b k : Nat) (v : Bool) (d : Dev) : (setRaw b k v d).redirect = d.redirect := by
  obtain ⟨_, _, _, _, e⟩ := setRaw_eq b k v d; rw [e]
@[simp] theorem setRaw_kmu (b k : Nat) (v : Bool) (d : Dev) : (setRaw b k v d).kmu = d.kmu := by
  obtain ⟨_, _, _, _, e⟩ := setRaw_eq b k v d; rw [e]
@[simp] theorem setRaw_thm (b k : Nat) (v : Bool) (d : Dev) : (setRaw b k v d).thm = d.thm := by
  obtain ⟨_, _, _, _, e⟩ := setRaw_eq b k v d; rw [e]
@[simp] theorem setRaw_pws (b k : Nat) (v : Bool) (d : Dev) : (setRaw b k v d).pws = d.pws := by
  obtain ⟨_, _, _, _, e⟩ := setRaw_eq b k v d; rw [e]
@[simp] theorem setRaw_tst (b k : Nat) (v : Bool) (d : Dev) : (setRaw b k v d).tst = d.tst := by
  obtain ⟨_, _, _, _, e⟩ := setRaw_eq b k v d; rw [e]
@[simp] theorem setRaw_sup (b k : Nat) (v : Bool) (d : Dev) : (setRaw b k v d).sup = d.sup := by
  obtain ⟨_, _, _, _, e⟩ := setRaw_eq b k v d; rw [e]
@[simp] theorem setRaw_uart (b k : Nat) (v : Bool) (d : Dev) : (setRaw b k v d).uart = d.uart := by
  obtain ⟨_, _, _, _, e⟩ := setRaw_eq b k v d; rw [e]
@[simp] theorem rd_setRaw (f : Fld) (b k : Nat) (v : Bool) (d : Dev) : rd f (setRaw b k v d) = rd f d := rd_congr (by simp) f

end Sys2Proof.Machine
end

