-- ==== Sys2Proof/Laws/Step.lean ====
section
/-!
SUPPORT. Laws/Step.lean: what the forms that every meaning has can do: they answer a next state, keep the queue, and apply the
device's operation while its clocks run.
-/
namespace Sys2Proof.Machine

/-- A meaning of the device applies its operation while the clocks run. -/
theorem onDev_running {s : State} (h : running s) (f : Dev → Dev) : onDev f s = .next { s with dev := f s.dev } := by
  unfold running at h
  simp [onDev, onState, h]

/-- As `onDev_running`, for operations on the whole state. -/
theorem onState_running {s : State} (h : running s) (f : State → State) : onState f s = .next (f s) := by
  unfold running at h
  simp [onState, h]

/-- While the clocks are stopped nothing changes. -/
theorem onState_halted {s : State} (h : halted s.dev = true) (f : State → State) : onState f s = .next s := by
  simp [onState, h]

/-- A meaning of the device keeps the fuses and the queue, and answers a next state in any case. -/
theorem onDev_next (f : Dev → Dev) (s : State) : ∃ d, onDev f s = .next { s with dev := d } := by
  unfold onDev onState
  split
  · exact ⟨s.dev, rfl⟩
  · exact ⟨f s.dev, rfl⟩

theorem onState_next (f : State → State) (s : State) : ∃ t, onState f s = .next t ∧ (t = s ∨ t = f s) := by
  unfold onState
  split
  · exact ⟨s, rfl, .inl rfl⟩
  · exact ⟨f s, rfl, .inr rfl⟩

/-- How a statement about a command is met by its meaning. -/
theorem answers_onDev {c : Instr} {s : State} {f : Dev → Dev} {P : State → Prop} (h : running s) (e : exec c s = onDev f s)
    (p : P { s with dev := f s.dev }) : Answers c s P := ⟨_, e.trans (onDev_running h f), p⟩

theorem answers_onState {c : Instr} {s : State} {f : State → State} {P : State → Prop} (h : running s)
    (e : exec c s = onState f s) (p : P (f s)) : Answers c s P := ⟨_, e.trans (onState_running h f), p⟩

theorem answers_next {c : Instr} {s t : State} {P : State → Prop} (e : exec c s = .next t) (p : P t) : Answers c s P :=
  ⟨t, e, p⟩

end Sys2Proof.Machine
end

