-- ==== Sys2Proof/Laws/Dealer.lean ====
section
/-!
SUPPORT. Laws/Dealer.lean: a dealer that rests stays as it is when it is told to go on.
-/
namespace Sys2Proof.Machine

/-- A value that a store gives and that is not the default stands in its list. -/
theorem Store.mem_of_get {β : Type} [DecidableEq β] {dflt v : β} {k : Nat} {m : Store β} (h : Store.get dflt k m = v) (n : v ≠ dflt) :
    (k, v) ∈ m := by
  induction m with
  | nil => simp [Store.get] at h; exact absurd h.symm n
  | cons p l ih =>
    obtain ⟨a, b⟩ := p
    simp only [Store.get] at h
    split at h
    · rename_i e; subst h; simp [e]
    · exact List.mem_cons_of_mem _ (ih h)

theorem ctx_mem {i : Nat} {x : Ctx} {d : Dev} (h : ctx i d = some x) : (i, x) ∈ ctxList d := by
  have := Store.mem_of_get (m := d.deal.ctxs) h (by simp)
  unfold ctxList
  exact List.mem_filterMap.2 ⟨_, this, rfl⟩

/-- No write waits for its turn: nothing goes on. -/
theorem writeGo_rests {d : Dev} (h : ∀ p ∈ ctxList d, ¬ (p.2.stage = .pulling ∧ p.2.phase = 5)) : writeGo d = d := by
  unfold writeGo
  suffices g : ∀ l : List (Nat × Ctx), l.foldl (fun d p =>
      match ctx p.1 d with
      | none => d
      | some x => if x.stage == .pulling && x.phase == 5 && !zoneBusy x d then pullStart p.1 d else d) d = d from g _
  intro l
  induction l with
  | nil => rfl
  | cons p l ih =>
    rw [List.foldl_cons]
    have e : (match ctx p.1 d with
      | none => d
      | some x => if x.stage == .pulling && x.phase == 5 && !zoneBusy x d then pullStart p.1 d else d) = d := by
      split
      · rfl
      · rename_i x hx
        rw [if_neg]
        intro c
        simp only [Bool.and_eq_true, beq_iff_eq] at c
        exact h _ (ctx_mem hx) c.1
    rw [e]; exact ih

/-- A dealer that rests has nothing to go on with. -/
theorem dealerGo_rests {d : Dev} (h : dealerRests d) : dealerGo d = d := by
  unfold dealerGo
  rw [writeGo_rests h.1]
  unfold pump
  simp [h.2]
end Sys2Proof.Machine
end

