-- ==== Sys2Proof/Laws/Events.lean ====
section
/-!
SUPPORT. Laws/Events.lean: what delivering an event can do: it becomes pending at the cores its route names, nothing pending is
lost, no field and no event enable changes.
-/
namespace Sys2Proof.Machine

/-- Equal core lists give equal cores. -/
theorem core_congr {a b : Dev} (h : a.cores = b.cores) {c : Nat} : core c a = core c b := by simp [core, h]
/-- A core that a rewritten route entry no longer names loses the pending event. -/
theorem rt_fold (n : Nat) (p : Nat → Bool) (l : List Nat) (d : Dev) (c : Nat) (h : c ∈ l ∧ p c = true ∨ ¬ pendingAt c n d) :
    ¬ pendingAt c n (l.foldl (fun d c => if p c then onCore c (fun x => { x with pend := x.pend.filter (fun p => p.1 != n) }) d else d) d) := by
  induction l generalizing d with
  | nil => rcases h with ⟨h, _⟩ | h
           · simp at h
           · exact h
  | cons a l ih =>
    simp only [List.foldl_cons]
    apply ih
    by_cases e : c = a
    · subst e; right
      rcases h with ⟨_, h⟩ | h
      · rw [if_pos h]; simp [pendingAt]
      · split
        · simp [pendingAt]
        · exact h
    · rcases h with ⟨h, k⟩ | h
      · left; exact ⟨(List.mem_cons.1 h).resolve_left e, k⟩
      · right; split
        · unfold pendingAt; rw [core_onCore_ne e]; exact h
        · exact h
/-- Changes of listed fields and events compose. -/
theorem ofe_trans {fs} {a b c : Dev} (h : OnlyFieldsAndEvents fs a b) (k : OnlyFieldsAndEvents fs b c) : OnlyFieldsAndEvents fs a c := by
  refine ⟨?_, fun g hg => (k.2 g hg).trans (h.2 g hg)⟩
  have h1 := h.1; have k1 := k.1
  rw [k1, h1]
/-- Writing a listed field changes no other. -/
theorem ofe_wr {fs} (f : Fld) (v) (d) (h : f.key ∈ fs.map Fld.key) : OnlyFieldsAndEvents fs d (wr f v d) :=
  ⟨rfl, fun g hg => rd_wr_ne (f := f) (g := g) (fun e => hg (e ▸ h)) _ _⟩
/-- What only events touch changes no field. -/
theorem ofe_ev {fs} {d e : Dev} (h : ∃ p c h x, e = { d with pages := p, cores := c, host := h, recd := x }) : OnlyFieldsAndEvents fs d e := by
  obtain ⟨_, _, _, _, rfl⟩ := h; exact ⟨rfl, fun _ _ => rfl⟩
theorem ofe_refl {fs} (d) : OnlyFieldsAndEvents fs d d := ⟨rfl, fun _ _ => rfl⟩
theorem dc_fold (e sev mask : Nat) (l : List Nat) (cs : Store Core) (c : Nat) (hc : c ∈ l ∧ mask.testBit c = true ∨
    (Store.get Core.reset c cs).pend.any (fun p => p.1 == e) = true) :
    (Store.get Core.reset c (l.foldl (fun cs c =>
      if mask.testBit c then
        let x := Store.get Core.reset c cs
        if x.pend.any (fun p => p.1 == e) then cs
        else Store.put Core.reset c { x with pend := x.pend ++ [(e, sev)] } cs
      else cs) cs)).pend.any (fun p => p.1 == e) = true := by
  induction l generalizing cs with
  | nil => rcases hc with h | h
           · simp at h
           · exact h
  | cons a l ih =>
    simp only [List.foldl_cons]
    apply ih
    by_cases hac : c = a
    · subst hac
      right
      split
      · split
        · assumption
        · simp
      · rcases hc with h | h
        · simp_all
        · exact h
    · rcases hc with ⟨hm, hb⟩ | h
      · left; exact ⟨by rcases List.mem_cons.1 hm with h | h; exact absurd h hac; exact h, hb⟩
      · right
        split
        · split
          · exact h
          · rw [Store.get_put_ne _ _ hac]; exact h
        · exact h
/-- After a delivery the event is pending at each core named, and nothing that was pending is lost. -/
theorem deliver_pend (e sev mask c e' : Nat) (d : Dev) (h : c < 8 ∧ mask.testBit c = true ∧ e' = e ∨ pendingAt c e' d) :
    pendingAt c e' (deliver e sev mask d) := by
  unfold pendingAt core deliver deliverCores
  simp only
  by_cases q : e' = e
  · subst q
    refine dc_fold _ _ _ _ _ _ ?_
    rcases h with ⟨h1, h2, _⟩ | h
    · left; exact ⟨by simpa using h1, h2⟩
    · right; exact h
  · rcases h with ⟨_, _, h⟩ | h
    · exact absurd h q
    · have : ∀ (l : List Nat) (cs : Store Core), (Store.get Core.reset c cs).pend.any (fun p => p.1 == e') = true →
          (Store.get Core.reset c (l.foldl (fun cs c =>
      if mask.testBit c then
        let x := Store.get Core.reset c cs
        if x.pend.any (fun p => p.1 == e) then cs
        else Store.put Core.reset c { x with pend := x.pend ++ [(e, sev)] } cs
      else cs) cs)).pend.any (fun p => p.1 == e') = true := by
        intro l
        induction l with
        | nil => exact fun _ h => h
        | cons a l ih =>
          intro cs h
          simp only [List.foldl_cons]
          apply ih
          split
          · split
            · exact h
            · by_cases hac : c = a
              · subst hac; simp only [Store.get_put_same, List.any_append, h, Bool.true_or]
              · rw [Store.get_put_ne _ _ hac]; exact h
          · exact h
      exact this _ _ h
theorem noteStat_pend (b k c e : Nat) (d : Dev) : pendingAt c e (noteStat b k d) = pendingAt c e d := rfl
theorem raiseDrop_pend (c e : Nat) (d : Dev) (h : pendingAt c e d) : pendingAt c e (raiseDrop d) := by
  unfold raiseDrop; split
  · simp only
    have : pendingAt c e (noteStat pgLog 1 (deliver (evBase pgLog + 1) (rd (EVT_ROUTE_SEV (evBase pgLog + 1)) d) (rd (EVT_ROUTE_CORES (evBase pgLog + 1)) d) d)) := deliver_pend _ _ _ _ _ _ (.inr h)
    split <;> exact this
  · exact h
theorem queueRec_pend (r) (c e : Nat) (d : Dev) (h : pendingAt c e d) : pendingAt c e (queueRec r d) := by
  unfold queueRec; simp only; split
  · exact raiseDrop_pend _ _ _ h
  · exact h
/-- The same of the delivery of a newly enabled event. -/
theorem deliverNow_pend (b k c e : Nat) (d : Dev) (h : reach b d = true ∧ c < 8 ∧ (rd (EVT_ROUTE_CORES (evBase b + k)) d).testBit c = true ∧ e = evBase b + k ∨ pendingAt c e d) : pendingAt c e (deliverNow b k d) := by
  unfold deliverNow
  split
  · simp only
    have : pendingAt c e (deliver (evBase b + k) (rd (EVT_ROUTE_SEV (evBase b + k)) d) (rd (EVT_ROUTE_CORES (evBase b + k)) d) d) := by
      apply deliver_pend
      rcases h with ⟨_, h1, h2, h3⟩ | h
      · exact .inl ⟨h1, h2, h3⟩
      · exact .inr h
    split
    · exact queueRec_pend _ _ _ _ this
    · exact this
  · rcases h with ⟨h, _⟩ | h
    · simp_all
    · exact h
/-- The same of an event without a page bit. -/
theorem raiseFree_pend (e sev mask c e' : Nat) (d : Dev) (h : c < 8 ∧ mask.testBit c = true ∧ e' = e ∨ pendingAt c e' d) : pendingAt c e' (raiseFree e sev mask d) := by
  unfold raiseFree; simp only
  split
  · exact queueRec_pend _ _ _ _ (deliver_pend _ _ _ _ _ _ h)
  · exact deliver_pend _ _ _ _ _ _ h
/-- Nothing but what an occurrence of an event touches changes: headers, cores, what leaves for the host, the recorder. -/
def EvOnly (d e : Dev) : Prop := ∃ p c h x, e = { d with pages := p, cores := c, host := h, recd := x }
theorem EvOnly.refl (d) : EvOnly d d := ⟨_, _, _, _, rfl⟩
theorem EvOnly.trans {a b c : Dev} (h : EvOnly a b) (k : EvOnly b c) : EvOnly a c := by
  obtain ⟨_, _, _, _, rfl⟩ := h; obtain ⟨_, _, _, _, rfl⟩ := k; exact ⟨_, _, _, _, rfl⟩
theorem EvOnly.only {d e : Dev} (h : EvOnly d e) : OnlyFieldsAndEvents [] d e := by
  obtain ⟨_, _, _, _, rfl⟩ := h; exact ⟨rfl, fun _ _ => rfl⟩
theorem ev_raise (b k d) : EvOnly d (raise b k d) := raise_eq b k d
theorem ev_raiseRec (b k s p d) : EvOnly d (raiseRec b k s p d) := raiseRec_eq b k s p d
theorem ev_raiseFree (e s m d) : EvOnly d (raiseFree e s m d) := raiseFree_eq e s m d
theorem ev_queueRec (r d) : EvOnly d (queueRec r d) := queueRec_eq r d
theorem ev_deliver (e s m d) : EvOnly d (deliver e s m d) := ⟨_, _, _, _, rfl⟩
theorem ev_onPage (b f d) : EvOnly d (onPage b f d) := ⟨_, _, _, _, rfl⟩
theorem ev_onCore (c f d) : EvOnly d (onCore c f d) := ⟨_, _, _, _, rfl⟩
theorem ev_deliverNow (b k d) : EvOnly d (deliverNow b k d) := by
  unfold deliverNow; split
  · simp only; split
    · exact (ev_deliver _ _ _ _).trans (ev_queueRec _ _)
    · exact ev_deliver _ _ _ _
  · exact EvOnly.refl _
theorem ev_foldl {α} (l : List α) (f : Dev → α → Dev) (h : ∀ d a, EvOnly d (f d a)) (d : Dev) : EvOnly d (l.foldl f d) := by
  induction l generalizing d with
  | nil => exact EvOnly.refl _
  | cons a l ih => exact (h d a).trans (ih _)
theorem ev_rd {d e} (h : EvOnly d e) (f) : rd f e = rd f d := by obtain ⟨_, _, _, _, rfl⟩ := h; rfl
theorem ev_reach {d e} (h : EvOnly d e) (b) : reach b e = reach b d := by obtain ⟨_, _, _, _, rfl⟩ := h; rfl

theorem deliverCores_even (e s m) (b) (d : Dev) : (page b (deliver e s m d)).even = (page b d).even := rfl
theorem noteStat_even (b k b' d) : (page b' (noteStat b k d)).even = (page b' d).even := by
  unfold noteStat
  by_cases h : b' = b
  · subst h; simp
  · rw [page_onPage_ne h]
theorem raiseDrop_even (b d) : (page b (raiseDrop d)).even = (page b d).even := by
  unfold raiseDrop; split
  · simp only
    split
    · show (page b (noteStat _ _ _)).even = _; rw [noteStat_even]; rfl
    · rw [noteStat_even]; rfl
  · exact noteStat_even _ _ _ _
theorem queueRec_even (r b d) : (page b (queueRec r d)).even = (page b d).even := by
  unfold queueRec; simp only; split
  · rw [raiseDrop_even]; rfl
  · rfl
/-- A delivery changes no event enables. -/
theorem deliverNow_even (b k b' d) : (page b' (deliverNow b k d)).even = (page b' d).even := by
  unfold deliverNow; split
  · simp only; split
    · rw [queueRec_even]; rfl
    · rfl
  · rfl
theorem foldl_even (b b') (l : List Nat) (d) : (page b' (l.foldl (fun d k => deliverNow b k d) d)).even = (page b' d).even := by
  induction l generalizing d with
  | nil => rfl
  | cons a l ih => simp only [List.foldl_cons]; rw [ih, deliverNow_even]
theorem foldl_pend (b c k : Nat) (l : List Nat) (d) (h : (k ∈ l ∧ reach b d = true ∧ c < 8 ∧ (rd (EVT_ROUTE_CORES (evBase b + k)) d).testBit c = true) ∨ pendingAt c (evBase b + k) d) : pendingAt c (evBase b + k) (l.foldl (fun d k => deliverNow b k d) d) := by
  induction l generalizing d with
  | nil => rcases h with ⟨h, _⟩ | h
           · simp at h
           · exact h
  | cons a l ih =>
    simp only [List.foldl_cons]
    apply ih
    have ev := ev_deliverNow b a d
    rcases h with ⟨h1, h2, h3, h4⟩ | h
    · rcases List.mem_cons.1 h1 with rfl | h1
      · right; exact deliverNow_pend _ _ _ _ _ (.inl ⟨h2, h3, h4, rfl⟩)
      · left; exact ⟨h1, by rw [ev_reach ev]; exact h2, h3, by rw [ev_rd ev]; exact h4⟩
    · right; exact deliverNow_pend _ _ _ _ _ (.inr h)

end Sys2Proof.Machine
end

