-- ==== Sys2Proof/Laws/Ldpc.lean ====
section
/-!
SUPPORT. Laws/Ldpc.lean: the code of R78 is linear: the word of zeros has zero parity and is a codeword; and what the detector and the
decoder (R77, R79) make of no samples: that word.
-/
namespace Sys2Proof.Machine

theorem circ_zero (s : Nat) : circ s 0 = 0 := by simp [circ]

theorem replicate_set_zero (n k : Nat) : (List.replicate n 0).set k ((List.replicate n 0).getD k 0 ^^^ 0) = List.replicate n 0 := by
  have h : (List.replicate n 0).getD k 0 = 0 := by
    by_cases hk : k < n <;> simp [List.getD, hk]
  rw [h]; simp

theorem ldpcRows_zeros (n : Nat) : ldpcRows (List.replicate n 0) = List.replicate 127 0 := by
  unfold ldpcRows
  refine List.foldlRecOn (motive := fun acc => acc = List.replicate 127 0) _ _ rfl (fun acc hacc p hp => ?_)
  have h0 : p.1 = 0 := by
    have hm : p.1 ∈ List.take 1028 (List.replicate n 0) := by
      obtain ⟨a, b⟩ := p
      have := List.mem_zipIdx hp
      simp only [Nat.zero_add] at this
      rw [this.2.2]; exact List.getElem_mem _
    exact List.eq_of_mem_replicate (List.mem_of_mem_take hm)
  refine List.foldlRecOn (motive := fun acc => acc = List.replicate 127 0) _ _ hacc (fun acc hacc k _ => ?_)
  dsimp only
  rw [h0, circ_zero, hacc]
  exact replicate_set_zero _ _

theorem ldpcBlocks_zeros (m : Nat) : ldpcBlocks (List.replicate m 0) = List.replicate (m / 4) 0 := by
  unfold ldpcBlocks
  rw [List.length_replicate, List.eq_replicate_iff]
  refine ⟨by simp, fun b hb => ?_⟩
  obtain ⟨j, hj, rfl⟩ := List.mem_map.mp hb
  have h : 4 * j + 4 ≤ m := by have := List.mem_range.mp hj; omega
  rw [List.drop_replicate, List.take_replicate, Nat.min_eq_left (by omega)]
  decide

theorem parity_fold_zeros (n : Nat) (acc : List Nat) :
    (List.replicate n 0).foldl (fun (st : Nat × List Nat) r => let p := r ^^^ st.1; (p, st.2 ++ [p])) (0, acc)
      = (0, acc ++ List.replicate n 0) := by
  induction n generalizing acc with
  | zero => simp
  | succ n ih =>
    rw [List.replicate_succ, List.foldl_cons]
    simp only [Nat.xor_zero]
    rw [ih, List.append_assoc]
    rfl

theorem ldpcParity_zeros (n : Nat) : ldpcParity (List.replicate n 0) = List.replicate 127 0 := by
  unfold ldpcParity
  rw [ldpcRows_zeros, parity_fold_zeros]
  rfl

theorem zeros_are_a_codeword : ldpcOk (List.replicate 4620 0) = true := by
  have h : ldpcOk (List.replicate 4620 0) =
      ((List.replicate 4620 0).length == 4620 && (List.replicate (4620 / 4) 0).drop 1028 == ldpcParity ((List.replicate (4620 / 4) 0).take 1028)) := by
    unfold ldpcOk
    rw [ldpcBlocks_zeros]
  rw [h, List.take_replicate, ldpcParity_zeros, List.drop_replicate, List.length_replicate]
  simp

/-- Blocks without values. -/
def noValues (vs : List (List Int)) : Prop := ∀ l ∈ vs, l = []

theorem getD_noValues {vs : List (List Int)} (h : noValues vs) (j : Nat) : vs.getD j [] = [] := by
  rw [List.getD_eq_getElem?_getD]
  cases e : vs[j]? with
  | none => rfl
  | some l => exact h l (List.mem_of_getElem? e)

theorem set_noValues {vs : List (List Int)} (h : noValues vs) (j : Nat) : noValues (vs.set j []) := fun l hl =>
  (List.mem_or_eq_of_mem_set hl).elim (h l) id

theorem mem_zipWith {α β γ : Type} {f : α → β → γ} {z : γ} : ∀ {as : List α} {bs : List β}, z ∈ List.zipWith f as bs →
    ∃ a ∈ as, ∃ b ∈ bs, z = f a b
  | [], _, h => by simp at h
  | _ :: _, [], h => by simp at h
  | a :: as, b :: bs, h => by
    rw [List.zipWith_cons_cons, List.mem_cons] at h
    rcases h with rfl | h
    · exact ⟨a, List.mem_cons_self .., b, List.mem_cons_self .., rfl⟩
    · obtain ⟨x, hx, y, hy, e⟩ := mem_zipWith h
      exact ⟨x, List.mem_cons_of_mem _ hx, y, List.mem_cons_of_mem _ hy, e⟩

/-- A layer makes no value where there was none. -/
theorem layer_noValues (alpha p : Nat) (old : List (List Int)) {vs : List (List Int)} (h : noValues vs) :
    noValues (layer alpha p old vs).2 := by
  unfold layer
  dsimp only
  refine List.foldlRecOn (motive := noValues) _ _ h (fun acc hacc e he => ?_)
  obtain ⟨x, hx, y, -, hxy⟩ := mem_zipWith (List.of_mem_zip he).2
  obtain ⟨z, -, rfl⟩ := List.mem_map.mp hx
  have h2 : e.2 = [] := by rw [hxy, getD_noValues h]; simp [turn]
  rw [h2, show unturn e.1.2 [] = [] from by simp [unturn, turn]]
  exact set_noValues hacc _

theorem iteration_noValues (alpha : Nat) {st : List (List (List Int)) × List (List Int)} (h : noValues st.2) :
    noValues (iteration alpha st).2 := by
  unfold iteration
  exact List.foldlRecOn (motive := fun st : List (List (List Int)) × List (List Int) => noValues st.2) _ _ h
    (fun _ hacc _ _ => layer_noValues _ _ _ hacc)

theorem hardWord_noValues {vs : List (List Int)} (h : noValues vs) : hardWord vs = ldpcBytes (List.replicate 1155 0) := by
  unfold hardWord
  rw [show (fun j => hardBlock (vs.getD j [])) = fun _ => 0 from funext (fun j => by rw [getD_noValues h]; rfl)]
  rw [List.map_const', List.length_range]

theorem ldpcBytes_zeros (m : Nat) : ldpcBytes (List.replicate m 0) = List.replicate (4 * m) 0 := by
  induction m with
  | zero => rfl
  | succ n ih =>
    rw [List.replicate_succ, show 4 * (n + 1) = 4 * n + 1 + 1 + 1 + 1 from by omega]
    simp only [List.replicate_succ]
    rw [← ih]
    rfl

theorem blocks32_nil (n : Nat) : blocks32 n [] = List.replicate n [] := by
  induction n with
  | zero => rfl
  | succ n ih => simp [blocks32, ih, List.replicate_succ]

/-- The flag of a decode is the syndrome of its hard decisions (R79, R80). -/
theorem iterate_flag (alpha : Nat) (eterm : Bool) (lim used : Nat) (st : List (List (List Int)) × List (List Int)) :
    (iterate alpha eterm lim used st).2.1 = ldpcOk (iterate alpha eterm lim used st).1 := by
  induction lim generalizing used st with
  | zero => rw [iterate]
  | succ lim ih =>
    rw [iterate]
    generalize iteration alpha st = st
    generalize hw : hardWord st.2 = word
    by_cases h : (eterm && ldpcOk word) = true
    · simp only [h, if_true]
      exact ((Bool.and_eq_true_iff).mp h).2.symm
    · simp only [h]
      exact ih _ _

theorem decodeLlr_flag (alpha clip : Nat) (eterm : Bool) (lim : Nat) (xs : List Int) :
    (decodeLlr alpha clip eterm lim xs).2.1 = ldpcOk (decodeLlr alpha clip eterm lim xs).1 := by
  rw [decodeLlr, iterate_flag]

/-- A decoder without values ends after one iteration with the codeword of zeros. -/
theorem decodeLlr_nil (alpha clip lim : Nat) : decodeLlr alpha clip true (lim + 1) [] = (List.replicate 4620 0, true, 1) := by
  have h : noValues (iteration alpha (List.replicate 127 [], List.replicate 1155 [])).2 :=
    iteration_noValues alpha (fun l hl => List.eq_of_mem_replicate hl)
  have hw := (hardWord_noValues h).trans (ldpcBytes_zeros 1155)
  unfold decodeLlr
  rw [List.map_nil, blocks32_nil, iterate]
  generalize iteration alpha (List.replicate 127 [], List.replicate 1155 []) = st at hw
  simp only [hw, show 4 * 1155 = 4620 from rfl, zeros_are_a_codeword, Bool.and_self, if_true, Nat.zero_add]

theorem codeStreams_nil (set rs : List Nat) (split : Nat) (o : Int) : noValues (codeStreams set rs split o [] []) := fun l hl => by
  obtain ⟨r, _, rfl⟩ := List.mem_map.mp hl
  simp [equalised, delayed, fir, codeSpan]

theorem branches_nil {ys : List (List (List Int))} (h : ∀ l ∈ ys, l = []) : branches ys = [] := by
  cases ys with
  | nil => rfl
  | cons x xs =>
    have := h x (List.mem_cons_self ..)
    subst this
    cases xs <;> simp [branches]

/-- The detector finds nothing where there are no samples. -/
theorem detect_nil (set rs : List Nat) (split : Nat) (o : Int) : detect set rs (codeStreams set rs split o [] []) = [] := by
  have hb : ∀ (m : Nat), branches (List.zipWith (fun r y => readerBranches set m r (triples y)) rs (codeStreams set rs split o [] [])) = [] := by
    intro m
    refine branches_nil (fun l hl => ?_)
    obtain ⟨r, -, y, hy, rfl⟩ := mem_zipWith hl
    rw [codeStreams_nil set rs split o y hy]
    rfl
  unfold detect
  simp only [hb, maxLog, List.map_nil]

/-- A channel without samples ends its decode after one iteration with the codeword of zeros. -/
theorem channelDecode_nil {n c lim : Nat} {d : Dev} (set rs : List Nat) (split : Nat) (o : Int)
    (he : isSet (RCH_LDPCCTL_ETERM n c) d = true) (hl : 1 ≤ lim) :
    channelDecode n c set rs split o [] [] lim d = (List.replicate 4620 0, true, 1) := by
  obtain ⟨k, rfl⟩ := Nat.exists_eq_add_of_le' hl
  rw [channelDecode, detect_nil, he, decodeLlr_nil]

end Sys2Proof.Machine
end

