-- ==== Sys2Proof/Laws/Memory.lean ====
section
/-!
SUPPORT. Laws/Memory.lean: the laws of the memories. A word reads as it was written, a write leaves every other word alone, a
fill reads as zeros, and every operation keeps the canonical form.
-/
namespace Sys2Proof.Machine

@[simp] theorem Memory.unlisted_setWord (m : Memory) (w : Nat) (v : Option Cw) : (m.setWord w v).unlisted = m.unlisted := rfl

/-- A word reads as it was written. -/
@[simp] theorem Memory.word_setWord (m : Memory) (w : Nat) (v : Option Cw) : (m.setWord w v).word w = v :=
  Store.get_put_same _ _ _ _

/-- A write leaves every other word alone. -/
theorem Memory.word_setWord_ne (m : Memory) {w u : Nat} (h : u ≠ w) (v : Option Cw) : (m.setWord w v).word u = m.word u := by
  simp only [Memory.word, Memory.unlisted_setWord]
  exact Store.get_put_ne _ _ h _ _

/-- Writing a word keeps the canonical form. -/
theorem Memory.wf_setWord {m : Memory} (h : m.wf = true) (w : Nat) (v : Option Cw) : (m.setWord w v).wf = true :=
  Store.wf_put m.unlisted w v h

/-- Writing a line keeps the canonical form. -/
theorem Memory.wf_setLine {m : Memory} (h : m.wf = true) (ln : Nat) (ws : List Cw) : (m.setLine ln ws).wf = true :=
  Store.wf_puts m.unlisted (ws.map some) (ln * 16) h

/-- A fill keeps the canonical form. -/
theorem Memory.wf_fill {m : Memory} (h : m.wf = true) (lo hi : Nat) : (m.fill lo hi).wf = true := by
  refine Store.wfFrom_cut m.unlisted _ lo hi (fun k hk => ?_) h
  have : (decide (lo ≤ k) && decide (k < hi)) = false := by
    simp only [Bool.and_eq_false_iff, decide_eq_false_iff_not]; omega
  simp only [Memory.unlisted, Memory.fill, List.any_cons, this, Bool.false_or]

/-- What lies outside a forgotten range stays filled or empty as it was. -/
theorem Memory.unlisted_forget (m : Memory) (lo hi k : Nat) (hk : k < lo ∨ hi ≤ k) :
    (m.forget lo hi).unlisted k = m.unlisted k := by
  have key : ∀ l : List (Nat × Nat),
      (l.flatMap (fun r => [(r.1, min r.2 lo), (max r.1 hi, r.2)].filter (fun q => decide (q.1 < q.2)))).any
        (fun r => decide (r.1 ≤ k) && decide (k < r.2)) = l.any (fun r => decide (r.1 ≤ k) && decide (k < r.2)) := by
    intro l
    induction l with
    | nil => rfl
    | cons r l ih =>
      rw [List.flatMap_cons, List.any_append, ih, List.any_cons]
      congr 1
      rw [List.any_filter, Bool.eq_iff_iff]
      simp only [List.any_cons, List.any_nil, Bool.or_false, Bool.or_eq_true, Bool.and_eq_true, decide_eq_true_eq]
      omega
  simp only [Memory.unlisted, Memory.forget, key]

/-- Forgetting a range keeps the canonical form. -/
theorem Memory.wf_forget {m : Memory} (h : m.wf = true) (lo hi : Nat) : (m.forget lo hi).wf = true :=
  Store.wfFrom_cut m.unlisted _ lo hi (fun k hk => (Memory.unlisted_forget m lo hi k hk).symm) h

/-- The memory at reset is in its canonical form. -/
theorem Memory.wf_reset : (Dev.reset).mem.wf = true := rfl

end Sys2Proof.Machine
end

