-- ==== Sys2Proof/Tests/Slice0.lean ====
section
/-!
SUPPORT. Tests/Slice0.lean: the author's tests: commands that cannot be sent; single operations and steps against values from
outside the model; and for each obligation with hypotheses concrete states and operands that meet them.
-/
namespace Sys2Proof.Machine.Tests

-- One theorem at a time: checked side by side, the kernel evaluations below would add up to too much memory.
set_option Elab.async false

/-! ## Commands that cannot be sent: one for each check of WellFormed -/

def regEnv0 : RegEnv := ⟨7, [], [], true, []⟩
def slotImage0 : SlotImage := ⟨List.replicate 512 0, List.replicate 128 0⟩
def bootInput0 : BootInput := ⟨true, List.replicate 64 0, List.replicate 64 0, [], 0, 8, 2, 8533, true, true, slotImage0, slotImage0⟩

theorem test_wf_word : (Instr.czero (2 ^ 32 - 1)).wf = true ∧ (Instr.czero (2 ^ 32)).wf = false := by decide
theorem test_wf_byte : (Instr.fltNAssert 0 0xFFFF).wf = true ∧ (Instr.fltNAssert 0 0x10000).wf = false := by decide
theorem test_wf_width : (Instr.dlUp 4 true).wf = true ∧ (Instr.dlUp 3 true).wf = false := by decide
theorem test_wf_env : (Instr.registerWrite .host 0 .b4 0 regEnv0).wf = true ∧ (Instr.registerWrite .host 0 .b4 0 { regEnv0 with hall := 8 }).wf = false
    ∧ (Instr.registerWrite .host 0 .b4 0 { regEnv0 with hdr := [2 ^ 32] }).wf = false := by decide
theorem test_wf_register_access : (Instr.registerWrite .host 0x1000000 .b4 0 regEnv0).wf = false ∧ (Instr.registerWrite .host 0 .b1 256 regEnv0).wf = false
    ∧ (Instr.rcRead .host 0x1000000 .b4 []).wf = false ∧ (Instr.rcRead .host 0 .b4 [2 ^ 32]).wf = false := by decide
theorem test_wf_window : (Instr.windowRequest ⟨0, 1, some [5], []⟩).wf = true ∧ (Instr.windowRequest ⟨0, 4097, none, []⟩).wf = false
    ∧ (Instr.windowRequest ⟨0, 2, some [5], []⟩).wf = false ∧ (Instr.windowRequest ⟨0, 1, some [256], []⟩).wf = false
    ∧ (Instr.windowRequest ⟨0, 1, none, [2 ^ 32]⟩).wf = false := by decide
theorem test_wf_slot : slotImage0.wf = true ∧ ({ slotImage0 with payload := [0] }).wf = false ∧ ({ slotImage0 with header := [0] }).wf = false
    ∧ ({ slotImage0 with header := List.replicate 512 256 }).wf = false
    ∧ ({ slotImage0 with payload := List.replicate 128 256 }).wf = false := by decide +kernel
theorem test_wf_boot : (Instr.bootRomRun bootInput0).wf = true ∧ (Instr.bootRomRun { bootInput0 with chgib := 0 }).wf = false
    ∧ (Instr.bootRomRun { bootInput0 with chgib := 9 }).wf = false ∧ (Instr.bootRomRun { bootInput0 with ranks := 3 }).wf = false
    ∧ (Instr.bootRomRun { bootInput0 with ranks := 0 }).wf = false ∧ (Instr.bootRomRun { bootInput0 with mts := 3199 }).wf = false
    ∧ (Instr.bootRomRun { bootInput0 with mts := 8534 }).wf = false ∧ (Instr.bootRomRun { bootInput0 with ilv := 11 }).wf = false
    ∧ (Instr.bootRomRun { bootInput0 with dir0 := [0] }).wf = false ∧ (Instr.bootRomRun { bootInput0 with dir1 := [0] }).wf = false
    ∧ (Instr.bootRomRun { bootInput0 with dir1 := List.replicate 64 256 }).wf = false ∧ (Instr.bootRomRun { bootInput0 with mcr := [256] }).wf = false
    ∧ (Instr.bootRomRun { bootInput0 with slotB := { slotImage0 with payload := [0] } }).wf = false := by decide +kernel
theorem test_wf_instruction : CoreOp.wf false (.alu .add false 1 2 (.imm 2047)) = true ∧ CoreOp.wf false (.alu .add false 1 2 (.imm 2048)) = false
    ∧ CoreOp.wf false (.lui 1 1) = false ∧ CoreOp.wf true (.auipc 1 0) = false ∧ CoreOp.wf false (.jal 1 3) = false
    ∧ CoreOp.wf false (.jalr 1 2 2048) = false ∧ CoreOp.wf false (.branch .eq 1 2 4096) = false ∧ CoreOp.wf false (.load .b4 true 1 2 2048) = false
    ∧ CoreOp.wf false (.store .b4 1 2 (-2049)) = false ∧ CoreOp.wf true .fence = false ∧ CoreOp.wf false (.csr .write 1 0x1000 (.reg 0)) = false
    ∧ CoreOp.wf false (.csr .write 1 0 (.imm 32)) = false ∧ CoreOp.wf true .ecall = false ∧ CoreOp.wf true .mret = false
    ∧ CoreOp.wf true .wfi = false := by decide
theorem test_wf_decode : (Instr.sectorDecodeDone 0 ⟨0, 0, true, [36959], true⟩).wf = true
    ∧ (Instr.sectorDecodeDone 0 ⟨0, 0, true, [36960], true⟩).wf = false := by decide
theorem test_wf_samples : (Instr.sectorRead 0 ⟨[], [], [], false, false⟩).wf = false
    ∧ (Instr.ladderAttemptDone 0 [⟨⟨[], [], [], false, false⟩, [], false, []⟩]).wf = false
    ∧ (Instr.rawResult 0 ⟨⟨[], [], [], false, false⟩, false, []⟩).wf = false
    ∧ (Instr.deferredVerifyRead 0 [⟨⟨[], [], [], false, false⟩, false, []⟩]).wf = false := by decide
theorem test_wf_frame : FrameRsp.wf ⟨0xFFFF, 255, 255⟩ = true ∧ FrameRsp.wf ⟨0x10000, 0, 0⟩ = false ∧ FrameRsp.wf ⟨0, 256, 0⟩ = false
    ∧ FrameRsp.wf ⟨0, 0, 256⟩ = false := by decide
theorem test_wf_zone : (Instr.zoneReset 0x7FFFF).wf = true ∧ (Instr.zoneReset 0x80000).wf = false ∧ (Instr.zoneFinish 0x80000).wf = false
    ∧ (Instr.zoneOpen 0x80000).wf = false ∧ (Instr.zoneClose 0x80000).wf = false ∧ (Instr.zoneFinishByDevice 0x80000).wf = false := by decide
theorem test_wf_context : (Instr.nvmRead 16383).wf = true ∧ (Instr.nvmRead 16384).wf = false ∧ (Instr.flush 16384).wf = false
    ∧ (Instr.abort 16384).wf = false ∧ (Instr.writeAccept 16384).wf = false ∧ (Instr.setFeaturesTimestamp 0 [256]).wf = false := by decide
theorem test_wf_hall : (Instr.spindleStart 0 8).wf = false ∧ (Instr.powerStateOrder 0 8).wf = false ∧ (Instr.powerStateReached 8).wf = false := by decide
theorem test_wf_host : (Instr.linkRetrain 8 4).wf = false ∧ (Instr.configRequest 0x1000 none).wf = false
    ∧ (Instr.hostBar0Request 0x1000000 4 none regEnv0).wf = false ∧ (Instr.hostBar0Request 0 1 (some 256) regEnv0).wf = false
    ∧ (Instr.completionTimeout 256).wf = false ∧ (Instr.completionReceived 256 0 true [] []).wf = false := by decide
theorem test_wf_stripe : (Instr.zoneReconstructDone 0 [⟨0, []⟩]).wf = false := by decide

/-! ## Single operations and steps, with values from outside the model -/

/-- The table gives no command a word. -/
theorem test_no_word_decodes : decodeTableWord 32 0 = none ∧ (State.reset.withFetchWord 32 0).pending = [] := ⟨rfl, rfl⟩
/-- FIPS 197, appendix C.3. -/
theorem test_aes256_fips197 : aesEnc (List.range 32) ((List.range 16).map (fun i => i * 17))
    = [0x8E, 0xA2, 0xB7, 0xCA, 0x51, 0x67, 0x45, 0xBF, 0xEA, 0xFC, 0x49, 0x90, 0x4B, 0x49, 0x60, 0x89] := by decide +kernel
/-- FIPS 180-4, SHA-384 of "abc". -/
theorem test_sha384_abc : beNum (sha384 [0x61, 0x62, 0x63])
    = 0xcb00753f45a35e8bb5a03d699ac65007272c32ab0eded1631a8b605a43ff5bed8086072ba1e7cc2358baeca134c825a7 := by decide +kernel
/-- RFC 3720, appendix B.4: 32 bytes of zeros. -/
theorem test_crc32c_zeros : crc32c (List.replicate 32 0) = 0x8A9136AA := by decide +kernel
/-- R343: a count of 40,000 is 25 °C. -/
theorem test_sensor_25_degrees : sensorTemp 0 40000 State.reset.dev = 100 := by decide +kernel
/-- R321, R319: a core that does not hold the lock is refused with code 1. -/
theorem test_kmu_without_lock : (match exec (.kmuClear (.core 0) 8) State.reset with
    | .next t => rd KMU_STAT_ERR t.dev | _ => 0) = 1 := by decide +kernel
/-- R10, R19: a read of an unassigned offset by a core gives 0. -/
theorem test_unassigned_read : (match exec (.rcRead (.core 0) 0x16FFFC .b4 []) State.reset with
    | .next t => t.dev.rdata | _ => 1) = 0 := by decide +kernel
/-- R19: a read of an arm page whose link is down gives all ones. -/
theorem test_link_down_read : (match exec (.rcRead (.core 0) 0x120000 .b4 []) State.reset with
    | .next t => t.dev.rdata | _ => 0) = 0xFFFFFFFF := by decide +kernel
/-- R394: the identification code after a TAP reset. -/
theorem test_tap_reset : (match exec .jtagTapReset State.reset with
    | .next t => t.dev.tst.dr | _ => 0) = 0x1048063D := by decide +kernel
/-- R46: an idle cycle counts. -/
theorem test_idle_step : (match step State.reset with | .next t => t.dev.time | _ => 0) = 1 := by decide +kernel
/-- The front command alone leaves the queue. -/
theorem test_front_command : (match step { State.reset with pending := [.jtagIdcode, .billingTick] } with
    | .next t => t.pending | _ => []) = [.billingTick] := by decide +kernel

/-! ## States that meet the hypotheses of the obligations -/

/-- The reset state with its device changed. -/
def dev (f : Dev → Dev) : State := { State.reset with dev := f State.reset.dev }
/-- Every link up. -/
def up (d : Dev) : Dev := each 7 (fun l d => wr (GLB_FLXSTAT_UP l) 1 d) d
/-- Events `k` of a page occurred; enabled. -/
def seen (b k : Nat) : Dev → Dev := onPage b (fun h => { h with stat := evMask k })

theorem witness_StepRunsFrontCommand :
    ({ State.reset with pending := [.supplyReturn, .logAppend] }).pending = [.supplyReturn, .logAppend] := by
  decide +kernel

theorem witness_IdleStepCountsTime :
    State.reset.pending = [] ∧ running State.reset ∧ State.reset.dev.host.out = [] := by
  unfold running
  decide +kernel

theorem witness_StoppedDeviceKeepsState :
    halted (dev (fun d => { d with sup := { d.sup with brown := true } })).dev = true := by
  decide +kernel

theorem witness_FusesNeverGoBack : ∃ t, step State.reset = .next t := ⟨_, rfl⟩

theorem witness_MemoryStaysCanonical : State.reset.dev.mem.wf = true ∧ ∃ t, step State.reset = .next t :=
  ⟨by decide +kernel, _, rfl⟩

/-- EnableAndStatusBits: the last event of the last page, its status set, newly enabled, routed to core 7. -/
theorem witness_EnableAndStatusBits :
    let s := dev (fun d => wr (EVT_ROUTE_CORES 0x23F) 0x80 (seen pgReg 15 (up d)))
    let p : PageNo := 52
    running s ∧ reach (pageAt p) s.dev = true ∧ pageAt p = pgReg ∧ evBase pgReg + 15 = 0x23F
      ∧ (page pgReg s.dev).even.getLsbD 15 = false ∧ (page pgReg s.dev).stat.getLsbD 15 = true
      ∧ (rd (EVT_ROUTE_CORES 0x23F) s.dev).testBit 7 = true := by
  unfold running
  decide +kernel

/-- ErrorClassRegisters: a page that is open, one that is locked, one whose class is promoted, an error that leaves its window. -/
theorem witness_ErrorClassRegisters :
    let s := dev (onPage pgGlb (fun h => { h with lock := true, err := ⟨[0], true⟩ }))
    running s ∧ reach (pageAt 0) s.dev = true ∧ (page (pageAt 0) s.dev).lock = true ∧ (page (pageAt 0) s.dev).err.lasting = true
      ∧ reach (pageAt 1) s.dev = true ∧ (page (pageAt 1) s.dev).lock = false ∧ pageAt 16 = pgTst
      ∧ isSet TST_STAT_UNLOCKED s.dev = false := by
  unfold running
  decide +kernel

/-- EventRouter: a pending set of two events, an open page, an entry that loses its last core. -/
theorem witness_EventRouter :
    let s := dev (fun d => wr (EVT_ROUTE_CORES 767) 0x80 (onCore 7 (fun c => { c with pend := [(767, 4), (0, 4)] }) d))
    running s ∧ (core 7 s.dev).pend ≠ [] ∧ (core 0 s.dev).pend = [] ∧ (page pgEvt s.dev).lock = false
      ∧ (rd (EVT_ROUTE_CORES 767) s.dev).testBit 7 = true ∧ (bits 64 8 8).testBit 7 = false ∧ bits 64 0 7 ≤ 64 ∧ bits 64 16 3 ≤ 4
      ∧ (Nat.testBit 0x80000000 31 = true) ∧ (rd (EVT_ROUTE_CORES (0x60 + 31)) (wr (EVT_ROUTE_CORES 0x7F) 128 s.dev)).testBit 7 = true := by
  unfold running
  decide +kernel

/-- CoreRelease: core 7 is not yet running, core 0 is. -/
theorem witness_CoreRelease :
    let s := State.reset
    running s ∧ Nat.testBit 0x80 7 = true ∧ coreRuns 7 s.dev = false ∧ coreRuns 0 s.dev = true ∧ Nat.testBit 0x80 0 = false := by
  unfold running
  decide +kernel

/-- WatchdogsAndTimer: a watchdog that counts, its period over; one that does not count; a timer that is due and enabled. -/
theorem witness_WatchdogsAndTimer :
    let s := dev (fun d => { wrs [(GLB_WDCTL_PERIOD 0, 1), (GLB_WDCTL_EN 0, 1), (GLB_MTCMP_LO 0, 5), (GLB_MTCMP_HI 0, 0)]
      (onCore 0 (fun c => { c with wdPeriod := 1, csr := [(0x304, 0x80)] }) d) with time := 125000 })
    running s ∧ wdCounts 0 s.dev = true ∧ wdCounts 7 s.dev = false
      ∧ (core 0 s.dev).wdPeriod * 125000 ≤ s.dev.time - (core 0 s.dev).wdStart
      ∧ (let r := { s with dev := { s.dev with time := 124999 } }
        running r ∧ wdCounts 0 r.dev = true ∧ ¬ (core 0 r.dev).wdPeriod * 125000 ≤ r.dev.time - (core 0 r.dev).wdStart) ∧ mtcmp 0 s.dev ≤ s.dev.time
      ∧ (Store.get 0 0x304 (core 0 s.dev).csr).testBit 7 = true ∧ (core 0 s.dev).halted = false := by
  unfold running
  decide +kernel

/-- RollbackAndKeyRevocation: a target at the security version, one above it, a burn under way, slot 1 in use and not. -/
theorem witness_RollbackAndKeyRevocation :
    let s := dev (wrs [(GLB_BOOTSTAT_SECVER, 255), (GLB_ROLLBACK_GO, 1), (GLB_BOOTSTAT_KEY, 1)])
    let g : Fin 256 := 255
    running s ∧ s.otp.rollback < g.val ∧ g.val ≤ rd GLB_BOOTSTAT_SECVER s.dev ∧ rd GLB_ROLLBACK_GO s.dev = 1
      ∧ isSet GLB_BOOTSTAT_KEY s.dev = true ∧ running State.reset ∧ ¬ ((0 : Fin 256).val > State.reset.otp.rollback)
      ∧ isSet GLB_BOOTSTAT_KEY State.reset.dev = false := by
  unfold running
  decide +kernel

/-- RegisterAccesses: a place of each kind, at the ends of the register space. -/
theorem witness_RegisterAccesses :
    let s := dev (wrs [(GLB_FLXSTAT_UP 6, 1), (GLB_HOSTACC_LOCK, 1), (HEP_LINKSTAT_DLUP, 1)])
    let t := { s with dev := { s.dev with part := .a2 } }
    running s ∧ running t ∧ regPlace 0x100000 s.dev = .page ∧ regPlace 0x163FFC s.dev = .page ∧ regPlace (pageAt 52) s.dev = .page
      ∧ regPlace 0x16FFFC s.dev = .unassigned ∧ (0x16FFFC) % 4 = 0 ∧ regPlace 0x120000 s.dev = .linkDown
      ∧ regPlace 0x150000 t.dev = .absent ∧ isSet GLB_HOSTACC_LOCK s.dev = true ∧ isSet HEP_LINKSTAT_DLUP s.dev = true := by
  unfold running
  decide +kernel

/-- SuppliesAndTheirMonitors: rails in range, the core regulator on, both supplies up; a promoted phase fault and one that is not. -/
theorem witness_SuppliesAndTheirMonitors :
    let s := dev (fun d => { d with sup := { d.sup with coreOn := true, vddq := true } })
    let p := dev (onPage pgReg (fun h => { h with thresh := 1 }))
    running s ∧ (∀ r ∈ [2, 4, 5, 7], rd (REG_MON_UV r) s.dev = 0 ∧ rd (REG_MON_OV r) s.dev = 0) ∧ s.dev.sup.coreOn = true
      ∧ s.dev.sup.vddq = true ∧ (page pgReg s.dev).raw.getLsbD 4 = false ∧ (page pgReg s.dev).raw.getLsbD 3 = false
      ∧ vBelow (100 * 11000) (95 * railNominal 0) s.dev = true ∧ vAbove (100 * 1200) (105 * railNominal 7) s.dev = true
      ∧ promotes pgReg p.dev = true ∧ promotes pgReg s.dev = false
      ∧ (let a := dev (fun d => { d with time := 50 * auxPerMs, sup := { d.sup with actAt := some 0 } })
        running a ∧ a.dev.sup.actAt = some 0 ∧ 0 + 50 * auxPerMs ≤ a.dev.time) := by
  unfold running
  decide +kernel

/-- An image signed with a key of the author's (outside the model): 128 bytes of zeros, at the ends of the ranges; one whose
signature fails; a directory; what Boot ROM finds with them. -/
def goodHead : List Nat :=
  leBytes 0x38345A57 4 ++ leBytes 1 4 ++ leBytes 0x200 4 ++ leBytes 128 4 ++ leBytes 0x100000000 8 ++ leBytes 0x10000007F 8
    ++ leBytes 128 8
    ++ beBytes 0xf809b88323411f24a6f152e5e9d9d1b5466b77e0f3c7550f8b242c31b6e7b99bcb45bdecb6124bc23283db3b9fc4f5b3 48
    ++ [4] ++ beBytes 0xe86b995e350e4d312a95a6b7d5d8cdcdb4682f588800a1cd6c972e1dcb2a5ac38d90046951b03ccb3b179a89fda88b1b 48
    ++ beBytes 0x485b9f2c1f44b0dd41ce6e3c3a690bbfaabec1e1ff4aefb2461fdda6629becbd43cf74c13d8c1a1625612243f0046148 48 ++ List.replicate 199 0
    ++ beBytes 0xa3a515b1563480d363f6dbeeb700ccf78b1850f123ba19379debe7fc3418f9f3115f0d839ef8b1b9564cb5a3f0366e86 48
    ++ beBytes 0xb12b31bd5915c92b1f647da9ae9db764bb9647e39ba76a38f2e221d4bc9efc79b2b76c328d8188b7527f72349288ae78 48
    ++ List.replicate 32 0
def goodHash : List Nat :=
  beBytes 0x2b893d76e46a74adda946a7cbe33c77119dcf216197f612279e2c210b0d1a4d7a527df930810918248ae5e6496ab2e11 48
def goodSlot : SlotImage := ⟨goodHead, List.replicate 128 0⟩
def badSlot : SlotImage := ⟨goodHead.take 0x1DF ++ List.replicate 33 0, List.replicate 128 0⟩
def goodDir : List Nat :=
  let d := leBytes 0x31524944 4 ++ leBytes 0x10000 4 ++ leBytes 0x2010000 4 ++ List.replicate 8 0 ++ leBytes 0x5000000 4 ++ leBytes 0x100000 4
    ++ List.replicate 32 0
  d ++ leBytes (crc32c d) 4
def boots : BootInput := ⟨true, goodDir, [], [], 0, 8, 2, 8533, true, true, goodSlot, badSlot⟩

/-- BootRomOutcomes: each outcome, and a device whose Boot ROM has run. -/
theorem witness_BootRomOutcomes :
    let s := { State.reset with otp := { State.reset.otp with keyHash0 := goodHash } }
    let n : BootInput := { boots with norOk := false }
    let r : BootInput := { boots with dir0 := [], dir1 := [] }
    let m : BootInput := { boots with trainOk := false }
    let b : BootInput := { boots with slotA := badSlot }
    let h := boots.slotA.header
    let ran := dev (wr GLB_BOOTSTAT_CODE 1)
    (running s ∧ booting s.dev = true ∧ running ran ∧ booting ran.dev = false ∧ isSet PWS_RSTSTAT_RETAIN s.dev = false)
      ∧ (n.norOk = false ∧ r.norOk = true ∧ dirCorrect r.dir0 = false ∧ dirCorrect r.dir1 = false ∧ dirCorrect m.dir0 = true
        ∧ m.trainOk = false ∧ sigVerifies b.slotA.header = false ∧ sigVerifies b.slotB.header = false)
      ∧ (hdrSecver boots.slotB.header ≤ hdrSecver h ∧ headerLaid h = true ∧ sha384 (hdrPubkey h) = s.otp.keyHash0 ∧ s.otp.key0rev = false
        ∧ sigVerifies h = true ∧ sha384 boots.slotA.payload = hdrPayhash h ∧ s.otp.rollback ≤ hdrSecver h ∧ hdrSecver h ≤ 128
        ∧ hdrPaylen h = boots.slotA.payload.length ∧ sdramBase ≤ hdrLoad h
        ∧ hdrLoad h + hdrPaylen h ≤ sdramBase + sdramBytes (trainSdram boots s.dev)
        ∧ hdrLoad h ≤ hdrEntry h ∧ hdrEntry h < hdrLoad h + hdrPaylen h) := by
  unfold running
  decide +kernel

/-- LinkTransfersAndTraining: a link that is up, one that trains, one that is down; a block whose second copy is lost. -/
theorem witness_LinkTransfersAndTraining :
    let s := dev (fun d => setLink 3 { Link.reset with training := true } (wr (GLB_FLXSTAT_UP 6) 1 d))
    let b : Blk := ⟨none, 1, 0, 0, none, .at 0x100000000, .lost, [], true, false, false, 0⟩
    let m := dev (fun d => setBlks [b] (wrs [(DRC_MAP_CHGIB, 8), (DRC_MAP_RANKS, 2), (DRC_STAT_TRAINED, 1)] d))
    running s ∧ flxUp 6 s.dev = true ∧ promotes pgGlb s.dev = false ∧ fitted (dieAt 3) s.dev = true ∧ flxUp 3 s.dev = false
      ∧ dieGated 3 s.dev = false ∧ widthOf 3 8 = true ∧ (link 3 s.dev).training = true ∧ (link 3 s.dev).everUp = false
      ∧ running m ∧ dealerRests m.dev ∧ m.dev.deal.blks = [b] ∧ b.heldEntry = false ∧ copyGone (.at 0x100000000) m.dev = false
      ∧ memUp 0x100000000 m.dev = true ∧ rankFree (sdSecond 0x100000000 m.dev) m.dev = true
      ∧ placeUsed (sdSecond 0x100000000 m.dev) m.dev = false := by
  unfold running dealerRests
  decide +kernel

/-- Core 0 in machine mode at the start of its local memory, which is zeroed; x2 points into it, x3 beside it, x4 past its end. -/
def coreState : State := dev (fun d => { wrs [(GLB_BOOTSTAT_CODE, 1), (GLB_MTCMP_LO 0, 0), (GLB_MTCMP_HI 0, 0)] (onCore 0 (fun y => { y with
  pc := 0x08000000, x := [(2, 0x08000040), (3, 0x08000041), (4, 0x08020000)] }) d) with
    mem := d.mem.fill (localBase 0 / 8) (localBase 0 / 8 + 0x4000) })
/-- The same core with something changed. -/
def coreWith (f : Core → Core) : State := { coreState with dev := onCore 0 f coreState.dev }
/-- What its fetch leaves. -/
def fetched (s : State) : Dev × Option Nat := coreFetch 0 false (onCore 0 (fun y => { y with wfi := false }) s.dev)
/-- In user mode with entry 0 opening all of local memory; with an entry that is locked and permits nothing. -/
def coreUser : State := coreWith (fun y => { y with user := true, pmp := [(0, ⟨3, true, true, true, false, 0x08000000 / 4 + 0x3FFF⟩)] })
def coreShut : State := coreWith (fun y => { y with pmp := [(0, ⟨3, false, false, true, true, 0x08000000 / 4 + 0x3FFF⟩)] })

/-- IntegerInstructions: a core that runs and whose fetch passes, a form the set has and one it has not. -/
theorem witness_IntegerInstructions :
    running coreState ∧ coreLive 0 coreState.dev = true ∧ (fetched coreState).2 = none
      ∧ aluLegal .add false (.imm (-2048)) = true ∧ aluLegal .sub false (.imm 0) = false := by
  unfold running
  decide +kernel

/-- TrapsAndWaiting: machine and user mode, a fetch that fails, a non-maskable event, the timer's interrupt. -/
theorem witness_TrapsAndWaiting :
    let f := coreWith (fun y => { y with pc := 0x08020000 })
    let n := coreWith (fun y => { y with pend := [(0, 4)] })
    let i := coreWith (fun y => { y with mie := true, csr := [(0x304, 0x80), (0x305, 0x08000100)] })
    (running coreState ∧ coreLive 0 coreState.dev = true ∧ (fetched coreState).2 = none ∧ (core 0 (fetched coreState).1).user = false
      ∧ ((core 0 (fetched coreState).1).user && (core 0 (fetched coreState).1).tw) = false
      ∧ (csrRead 0 0x100 (fetched coreState).1).isNone = true)
      ∧ (running coreUser ∧ coreLive 0 coreUser.dev = true ∧ (fetched coreUser).2 = none ∧ (core 0 (fetched coreUser).1).user = true)
      ∧ (running f ∧ coreLive 0 f.dev = true ∧ (fetched f).2 = some 0x08020000)
      ∧ (running n ∧ coreLive 0 n.dev = true ∧ nmiPending 0 n.dev = true)
      ∧ (running i ∧ coreLive 0 i.dev = true ∧ nmiPending 0 i.dev = false ∧ ((core 0 i.dev).mie || (core 0 i.dev).user) = true
        ∧ enabledPending 0 i.dev ≠ 0 ∧ csrRaw 0 0x305 i.dev % 4 ≠ 1) := by
  unfold running
  decide +kernel

/-- ControlRegisters: machine mode after a fetch that passed. -/
theorem witness_ControlRegisters :
    running coreState ∧ coreLive 0 coreState.dev = true ∧ (fetched coreState).2 = none ∧ (core 0 (fetched coreState).1).user = false := by
  unfold running
  decide +kernel

/-- MemoryInstructions: an aligned and a misaligned address, the last word of local memory, one past it, one that the PMP denies;
a line that is reserved and one that is not. -/
theorem witness_MemoryInstructions :
    let d := (fetched coreState).1
    let r := coreWith (fun y => { y with resv := some ((localBase 0 + 0x40) / 128) })
    let a := addrOf (xr 0 2 d) 0
    let z := addrOf (xr 0 4 d) (-8)
    (running coreState ∧ coreLive 0 coreState.dev = true ∧ (fetched coreState).2 = none)
      ∧ (addrOf (xr 0 3 d) 0 % 8 ≠ 0 ∧ a % 8 = 0 ∧ z % 8 = 0)
      ∧ (pmpAllows 0 (dataUser 0 d) .read z 8 d = true ∧ pmpAllows 0 (dataUser 0 d) .write z 8 d = true ∧ pmpAllows 0 (dataUser 0 d) .amo z 8 d = true
        ∧ coreMap 0 z 8 d = .mem (localBase 0 + 0x1FFF8) ∧ memUp (localBase 0 + 0x1FFF8) d = true
        ∧ (memRead (localBase 0 + 0x1FFF8) 8 d).2 = some (List.replicate 8 0) ∧ (core 0 d).resv ≠ some ((localBase 0 + 0x1FFF8) / 128))
      ∧ coreMap 0 (addrOf (xr 0 4 d) 0) 8 d = .nowhere
      ∧ (running coreShut ∧ coreLive 0 coreShut.dev = true ∧ (fetched coreShut).2 = none
        ∧ pmpAllows 0 (dataUser 0 (fetched coreShut).1) .read a 8 (fetched coreShut).1 = false
        ∧ pmpAllows 0 (dataUser 0 (fetched coreShut).1) .write a 8 (fetched coreShut).1 = false)
      ∧ (running r ∧ coreLive 0 r.dev = true ∧ (fetched r).2 = none ∧ xr 0 2 (fetched r).1 % 8 = 0
        ∧ coreMap 0 (xr 0 2 (fetched r).1) 8 (fetched r).1 = .mem (localBase 0 + 0x40)
        ∧ (core 0 (fetched r).1).resv = some ((localBase 0 + 0x40) / 128)) := by
  unfold running
  decide +kernel

/-- Arm 3 with its link up, the servo in state `st`, and more. -/
def armAt (st : Nat) (fs : List (Fld × Nat)) (f : Arm → Arm) : State :=
  dev (fun d => onArm 3 f (wrs ((SRV_STAT_STATE 3, st) :: fs) (up d)))
/-- A field whose SAM is found, with the index of wedge 719, track 0; one whose SAM is missing. -/
def goodField : WedgeIn := ⟨true, 719 * 16 + 0, 0xFFFF, 0, false, 1, 1, false, 0⟩

theorem witness_ServoFields :
    let s := armAt svFollow [(RCH_AFECTL_LDREN 3, 1), (ARM_LSCTL_QMIN 3, 0)] id
    let i := (List.range 16).find? (fun p => indexOk (719 * 16 + p))
    running s ∧ servoOn 3 s.dev = true ∧ unloaded 3 s.dev = false ∧ servoOn 3 State.reset.dev = false ∧ i.isSome = true
      ∧ (goodField.sam && ((ldrUse 3 s.dev && !goodField.ldrFail) || trrUse 3 s.dev)) = true
      ∧ laneOk 3 true goodField s.dev = true ∧ ({ goodField with sam := false }).sam = false := by
  unfold running
  decide +kernel

theorem witness_SynthesiserAndBandTables :
    let a := armAt svFollow [(ARM_LSSTAT_LOCK 3, 1), (ARM_LSSTAT_REJ 3, 2)] id
    let b := armAt svFollow [(ARM_LSSTAT_LOCK 3, 0)] (fun x => { x with accRun := 2, unlocked := true })
    let c := armAt svParked [] id
    running a ∧ unloaded 3 a.dev = false ∧ rd (ARM_LSSTAT_LOCK 3) a.dev = 1 ∧ 2 ≤ rd (ARM_LSSTAT_REJ 3) a.dev
      ∧ running b ∧ unloaded 3 b.dev = false ∧ rd (ARM_LSSTAT_LOCK 3) b.dev = 0 ∧ 2 ≤ (arm 3 b.dev).accRun ∧ (arm 3 b.dev).unlocked = true
      ∧ reach (pgArm 3) a.dev = true ∧ running c ∧ reach (pgArm 3) c.dev = true ∧ unloaded 3 c.dev = true := by
  unfold running
  decide +kernel

theorem witness_SeekInterface :
    let a := armAt svFollow [(SRV_CTL_OWNED 3, 0), (SRV_CTL_FWOWN 3, 1)] id
    let b := armAt svFollow [(SRV_CTL_OWNED 3, 1), (SRV_CTL_FWOWN 3, 1), (SRV_STAT_HEAD 3, 0)] id
    let c := armAt svRetract [] id
    running a ∧ reach (pgSrv 3) a.dev = true ∧ bitOf (2 ^ 25) 25 = true ∧ isSet (SRV_CTL_OWNED 3) a.dev = false
      ∧ isSet (SRV_CTL_FWOWN 3) a.dev = true ∧ running c ∧ seekRefused 3 7 c.dev = true
      ∧ running b ∧ isSet (SRV_CTL_OWNED 3) b.dev = true ∧ seekRefused 3 (bits (2 ^ 25 + 7 * 2 ^ 22) 22 3) b.dev = false
      ∧ bits (2 ^ 25 + 7 * 2 ^ 22) 22 3 ≠ selHead 3 b.dev ∧ bitOf 1 0 = true ∧ bitOf 0 0 = false ∧ (arm 3 b.dev).fwSeek = false ∧ operationOver 3 a.dev = true := by
  unfold running
  decide +kernel

theorem witness_Settling :
    let at' := fun (s : State) => { s with dev := { s.dev with time := rd (CTL_SETTLE_TMO 3) s.dev * auxPerMs } }
    let a := at' (armAt svSettle [(CTL_SETTLE_RDN 3, 4)] (fun x => { x with rdRun := 4, fwSeek := true }))
    let b := armAt svFollow [(CTL_SETTLE_WRN 3, 4)] (fun x => { x with wrRun := 4 })
    let c := at' (armAt svSeek [] (fun x => { x with loading := true, samSeen := false, fwSeek := true }))
    let late := fun (s : State) => decide ((arm 3 s.dev).moveAt + rd (CTL_SETTLE_TMO 3) s.dev * auxPerMs ≤ s.dev.time)
    running a ∧ servo 3 a.dev = svSettle ∧ rd (CTL_SETTLE_RDN 3) a.dev ≤ (arm 3 a.dev).rdRun ∧ rd (SRV_STAT_RDOK 3) a.dev = 0
      ∧ (arm 3 a.dev).fwSeek = true ∧ running b ∧ servo 3 b.dev = svFollow ∧ rd (CTL_SETTLE_WRN 3) b.dev ≤ (arm 3 b.dev).wrRun
      ∧ running c ∧ fitted (.arm 3) c.dev = true ∧ (arm 3 c.dev).loading = true ∧ (arm 3 c.dev).samSeen = false ∧ servoOn 3 c.dev = true
      ∧ late a = true ∧ late c = true ∧ late b = false ∧ arrived 3 b.dev = true := by
  unfold running
  decide +kernel

theorem witness_FeedbackLoss :
    let a := armAt svSeek [(SRV_MISS_CONSEC 3, 2)] id
    let b := armAt svHold [(SRV_MISS_CONSEC 3, 8)] (fun x => { x with validRun := 4 })
    let c := armAt svFollow [(SRV_MISS_IDXRUN 3, 16), (SRV_RAW_SAME 3, 16), (CTL_FETIME_FETIME 3, 1), (CTL_SUPSTAT_FE 3, 0)] (fun x => { x with feRun := 2 })
    running a ∧ fitted (.arm 3) a.dev = true ∧ unloaded 3 a.dev = false ∧ servo 3 a.dev = svSeek ∧ 2 ≤ rd (SRV_MISS_CONSEC 3) a.dev
      ∧ running b ∧ fitted (.arm 3) b.dev = true ∧ unloaded 3 b.dev = false ∧ servo 3 b.dev = svHold ∧ 4 ≤ (arm 3 b.dev).validRun
      ∧ 8 ≤ rd (SRV_MISS_CONSEC 3) b.dev ∧ servoOn 3 b.dev = true
      ∧ running c ∧ unloaded 3 c.dev = false ∧ servo 3 c.dev = svFollow ∧ 4 ≤ rd (SRV_MISS_IDXRUN 3) c.dev ∧ 16 ≤ rd (SRV_MISS_IDXRUN 3) c.dev
      ∧ servoOn 3 c.dev = true ∧ 16 ≤ rd (SRV_RAW_SAME 3) c.dev ∧ rd (CTL_FETIME_FETIME 3) c.dev < (arm 3 c.dev).feRun
      ∧ rd (CTL_SUPSTAT_FE 3) c.dev = 0 := by
  unfold running
  decide +kernel

/-- 64 words with their CRC; a table of loop 0, bank 4, and one of source 0 for arm 3, as headers give them. -/
def crcd (h : Nat) : List Nat := let ws := h :: List.replicate 62 0; ws ++ [crc32c (wordBytes ws)]

theorem witness_CoefficientTables :
    let sel := [(CTL_TBLSEL_LOOP 3, 0), (CTL_TBLSEL_BANK 3, 4)]
    let bad := armAt svFollow sel (fun a => { a with stage := List.replicate 64 1 })
    let overDue := armAt svFollow sel (fun a => { a with stage := crcd 0x1000, tables := (List.range 4).map (fun k => (64 * (15 + k), 32)) })
    let good := armAt svFollow sel (fun a => { a with stage := crcd 0x1000 })
    let rest := armAt svParked sel (fun a => { a with stage := crcd 0x1000 })
    running good ∧ reach (pgCtl 3) good.dev = true ∧ bits (3 + 4 * 3) 2 3 ≤ (if bits (3 + 4 * 3) 0 2 = 3 then 3 else 4)
      ∧ ¬ (bits (3 + 4 * 2) 0 2 = 3 ∧ bits (3 + 4 * 2) 2 3 = (3 : ArmId).val) ∧ bits (3 + 4 * 3) 2 3 = (3 : ArmId).val
      ∧ bits (4 * 4) 2 3 ≤ (if bits (4 * 4) 0 2 = 3 then 3 else 4)
      ∧ tableBad 3 bad.dev = 1 ∧ tableBad 3 overDue.dev = 2 ∧ tableBad 3 good.dev = 0 ∧ unloaded 3 good.dev = false
      ∧ tableBad 3 rest.dev = 0 ∧ unloaded 3 rest.dev = true := by
  unfold running
  decide +kernel

theorem witness_ReactionBus :
    let src := fun f => armAt svFollow [(CTL_FFCTL_SRCEN 3, 3), (CTL_FFCTL_ACTIVE 3, 1)] (fun a => { a with src := [(0, f)] })
    let drop := src { FfSrc.reset with missRun := 4 }
    let back := src { FfSrc.reset with gotRun := 16, dropped := true }
    let get := fun (s : State) => Store.get FfSrc.reset 0 (arm 3 s.dev).src
    running drop ∧ dieUp (.arm 0) drop.dev = true ∧ dieUp (.arm 3) drop.dev = true ∧ dieUp (.arm 0) State.reset.dev = false
      ∧ servo 0 drop.dev ≠ svRetract ∧ servo 3 (armAt svRetract [] id).dev = svRetract
      ∧ (get drop).dropped = false ∧ 4 ≤ (get drop).missRun ∧ (ffSources 3 drop.dev).contains 0 = true
      ∧ (get back).dropped = true ∧ 16 ≤ (get back).gotRun ∧ (ffSources 3 back.dev).contains 0 = true := by
  unfold running
  decide +kernel

theorem witness_LoopSample :
    let on := armAt svFollow [] id
    let rest := armAt svParked [] id
    running on ∧ servoOn 3 on.dev = true ∧ unloaded 3 on.dev = false ∧ running rest ∧ servoOn 3 rest.dev = false := by
  unfold running
  decide +kernel

theorem witness_CurrentLinkAndCaptures :
    let on := armAt svFollow [(VCM_STAT_STATE 3, 1), (VCM_CFG_EN 3, 1), (CTL_SUPSTAT_L0RUN 3, 4)] id
    let idle := armAt svFollow [(VCM_STAT_STATE 3, 0), (CTL_CAPCTL_BUSY 3, 1), (CTL_CAPLEN_LEN 3, 5), (CTL_CAPSTAT_WRITTEN 3, 5)]
      (fun a => { a with missCur := 2 })
    running on ∧ dieUp .power on.dev = true ∧ dieUp (.arm 3) on.dev = true ∧ rd (VCM_STAT_STATE 3) on.dev ≠ 2
      ∧ rd (VCM_STAT_STATE 3) on.dev ≠ 4 ∧ isSet (VCM_CFG_EN 3) on.dev = true ∧ servoOn 3 on.dev = true
      ∧ isSet BRK_STAT_DISC on.dev = false ∧ fitted (.arm 3) on.dev = true ∧ rd (VCM_STAT_STATE 3) on.dev = 1
      ∧ on.dev.pwr.noRetract.testBit 3 = false ∧ 4 ≤ rd (CTL_SUPSTAT_L0RUN 3) on.dev
      ∧ rd (VCM_STAT_STATE 3) idle.dev ≠ 1 ∧ 2 ≤ (arm 3 idle.dev).missCur ∧ reach (pgCtl 3) on.dev = true ∧ bitOf 1 0 = true
      ∧ rd (CTL_CAPCTL_BUSY 3) on.dev = 0 ∧ rd (CTL_CAPCTL_BUSY 3) idle.dev = 1 ∧ servoOn 3 idle.dev = true
      ∧ rd (CTL_CAPLEN_LEN 3) idle.dev ≤ rd (CTL_CAPSTAT_WRITTEN 3) idle.dev := by
  unfold running
  decide +kernel

/-- A host read of context 1, work item 5, with sectors 0 to 7, the first of which carries reference tag 0. -/
def readItem : Work :=
  ⟨5, .hostRead, 0, some 1, 0, noRec, 0, 8, 0, 9, 0, 0, false, 0, 0, 4, 0, true, 0, 0, []⟩
/-- Arm 3 following with its live channel, reading that item. -/
def reading (fs : List (Fld × Nat)) (w : Work) (f : Arm → Arm) : State :=
  let s := armAt svFollow ([(RCH_AFECTL_LDREN 3, 1), (RCH_MODE_MODE 3 0, 1), (SRV_STAT_RDOK 3, 1)] ++ fs) f
  { s with dev := setHand 3 [w] s.dev }
/-- A decode of the oldest sector in the buffer one bit early, and an attempt that comes round without samples, as the samples of a
sector that has none. -/
def earlyDecode : DecodeIn := ⟨0, -1, false, [], false⟩
def attempt0 : AttemptIn := ⟨⟨[2], [], [], false, false⟩, [], false, []⟩

theorem witness_SectorDecodes :
    let r := reading [] readItem id
    let f : Flight := ⟨5, 0, 0, [], [0], 37152, [], [], [-1], [-1], false, false, none, false⟩
    let c := reading [] readItem (fun a => { a with flights := [f] })
    let l : LadSec := ⟨5, 0, 9, 0, 0, 0, 0, false, 0, 9⟩
    let b := reading [(ARM_LSSTAT_LOCK 3, 1)] readItem (fun a => { a with ladder := [l], tgtTrack := 9 })
    let v := reading [] readItem (fun a => { a with ladder := [l] })
    let e := dev (fun d => { setHand 3 [{ readItem with started := false }] d with time := 4 })
    let q := attemptSamples 3 9 attempt0 b.dev
    (running r ∧ readingWork 3 State.reset.dev = none ∧ readingWork 3 r.dev = some readItem ∧ isSet (SRV_STAT_RDOK 3) r.dev = true
      ∧ (arm 3 r.dev).flights = [] ∧ hasChannel 3 r.dev = true ∧ rd (TST_FRCCNT_LEFT 3) r.dev = 0
      ∧ isForced 3 (5, nextSec readItem) r.dev = false ∧ attempt0.io.syncs = [2] ∧ (2 : Int).natAbs ≤ rd (RCH_SYNCWIN_WIN 3) r.dev
      ∧ readingWork 3 (reading [(SRV_STAT_RDOK 3, 0)] readItem id).dev = some readItem
      ∧ isSet (SRV_STAT_RDOK 3) (reading [(SRV_STAT_RDOK 3, 0)] readItem id).dev = false
      ∧ (arm 3 c.dev).flights = [f] ∧ f.cands = [earlyDecode.offset] ∧ work 3 5 c.dev = some readItem ∧ forcedAt 3 0 (5, 0) c.dev = false
      ∧ (arm 3 b.dev).ladder = [l] ∧ work 3 5 b.dev = some readItem ∧ ladActive 3 b.dev = true ∧ forcedAt 3 9 (5, 0) b.dev = false
      ∧ 2 ≤ attemptWindow 3 9 b.dev ∧ q = ([], []) ∧ tagFits readItem 0 (tagOf (((List.replicate 4620 0).drop 4096).take 16)) = true
      ∧ ladActive 3 v.dev = false ∧ (arm 3 v.dev).ladder = [l]
      ∧ (arm 3 e.dev).ladder = [] ∧ (hand 3 e.dev).find? (fun v => v.kind == .hostRead && v.deadline != 0 && decide (v.deadline ≤ e.dev.time)
          && notReading 3 v e.dev) = some { readItem with started := false } ∧ readItem.done < readItem.len)
    ∧ channelDecode 3 0 f.set f.rdrs f.split (-1) f.l f.t (rd (RCH_RUNG_PARAM 3 0) c.dev) c.dev = (List.replicate 4620 0, true, 1)
    ∧ channelDecode 3 (servePage 3 b.dev) (attemptSet 3 (servePage 3 b.dev) 9 b.dev) (attemptReaders 3 l b.dev)
        (splitAt 3 readItem 0 b.dev) 2 [] [] (attemptLimit 3 9 b.dev) b.dev = (List.replicate 4620 0, true, 1) := by
  unfold running
  exact ⟨by decide +kernel, channelDecode_nil _ _ _ _ (by decide +kernel) (by decide +kernel),
    channelDecode_nil _ _ _ _ (by decide +kernel) (by decide +kernel)⟩

theorem witness_ParameterSets :
    let sel := [(RCH_SETSEL_VARIANT 3 1, 2), (RCH_SETSEL_SLOT 3 1, 63)]
    let bad := armAt svFollow sel (fun a => { a with stageJ := List.replicate 64 1 })
    let good := armAt svFollow sel (fun a => { a with stageJ := crcd 5 })
    let used := armAt svFollow (sel ++ [(RCH_MODE_MODE 3 1, 1), (RCH_MODE_VARIANT 3 1, 2), (RCH_MODE_SLOT 3 1, 63)]) (fun a => { a with stageJ := crcd 5 })
    let copy := armAt svFollow [] (fun a => { a with copySrc := some [(2, 7)] })
    let k := setKey 2 63
    running good ∧ reach (pgRch 3 1) good.dev = true ∧ (RCH_SETSEL_VARIANT 3 1).allows (bits (2 * 64 + 63) 6 2) = true
      ∧ crc32c (wordBytes ((stageOf 3 1 bad.dev).take 63)) ≠ (stageOf 3 1 bad.dev).getD 63 0
      ∧ crc32c (wordBytes ((stageOf 3 1 good.dev).take 63)) = (stageOf 3 1 good.dev).getD 63 0
      ∧ setInUse 3 1 k good.dev = false ∧ setInUse 3 1 k used.dev = true
      ∧ crc32c (wordBytes ((stageOf 3 1 used.dev).take 63)) = (stageOf 3 1 used.dev).getD 63 0
      ∧ chMode 3 1 good.dev ≠ chLive ∧ chMode 3 1 used.dev = chLive ∧ (arm 3 copy.dev).copySrc = some [(2, 7)] := by
  unfold running
  decide +kernel

/-- A sector just written of work item 5. -/
def writtenSec : RawSec := ⟨5, 7, 0, 37152, 0, 9, 0⟩

theorem witness_ChannelRolesAndBoundaries :
    let a := armAt svFollow [(RCH_MODE_MODE 3 0, 4), (ARM_FMTCTL_PEND 3, 1)] (fun a => { a with inhNext := 2 ^ 10, wsec := some writtenSec, takeover := some 1 })
    let j := armAt svFollow [(RCH_MODE_MODE 3 1, 4), (RCH_MODE_MODE 3 0, 1)] id
    let p : State := { a with dev := onPage (pgRch 3 0) (fun h => { h with thresh := 1 }) a.dev }
    running a ∧ chMode 3 0 a.dev = chSelftest ∧ running j ∧ chMode 3 1 j.dev = chSelftest ∧ (serveCh 3 j.dev).isSome = true
      ∧ running p ∧ chMode 3 0 p.dev = chSelftest ∧ promotes (pgRch 3 0) p.dev = true ∧ promotes (pgRch 3 0) a.dev = false
      ∧ chMode 3 0 j.dev ≠ chSelftest ∧ (arm 3 a.dev).inhNext.testBit 10 = true ∧ (arm 3 a.dev).liftNext.testBit 10 = false
      ∧ (arm 3 a.dev).wsec = some writtenSec ∧ (arm 3 a.dev).takeover = some 1 ∧ calRun 3 0 a.dev = none
      ∧ isSet (RCH_SETCTL_COPYBUSY 3 1) a.dev = false
      ∧ unloaded 3 a.dev = false ∧ isSet (ARM_FMTCTL_PEND 3) a.dev = true ∧ (arm 3 a.dev).burst = none
      ∧ isSet (ALK_STAT_WG 3) a.dev = false ∧ (∀ q : Fin 4, calRun 3 q a.dev = none) := by
  unfold running
  decide +kernel

/-- A hand of arm 3 whose one item waits to start; one whose item has started, a write; band 0 of head 0 holds its track. -/
def handOf (w : Work) (st : Nat) (fs : List (Fld × Nat)) (f : Arm → Arm) : State :=
  let s := armAt st fs (fun a => f { a with bands := [⟨0, 0, 0, 9, 16, 8, 0, false, 0, 0, true⟩] })
  { s with dev := setHand 3 [w] s.dev }
/-- A state at a later time. -/
def later (t : Nat) (s : State) : State := { s with dev := { s.dev with time := t } }
def waiting : Work := { readItem with started := false }
def writeItem : Work := { readItem with kind := .hostWrite }
/-- A written sector that comes round without samples: the codeword of zeros; one whose reader delivers a constant level. -/
def rawGood : RawIn := ⟨⟨[0], [], [], false, false⟩, false, []⟩
def rawOpen : RawIn := ⟨⟨[0], [], [], true, true⟩, false, []⟩
/-- What a write burst of arm 3 needs, with the assist type confirmed. -/
def burstFields : List (Fld × Nat) :=
  [(SRV_STAT_WROK 3, 1), (ALK_STAT_MODE 3, 2), (WRP_WISTAT_SRC 3, 12), (ALK_CFG_PRESENT 3, 1), (ALK_ASSIST_TYPE 3, 1)]

theorem witness_HandsAndBursts :
    let go := handOf waiting svFollow [] id
    let stop := handOf waiting svFollow [(CMD_HAND_STOP 3, 1)] id
    let wr := later 1000 (handOf writeItem svFollow burstFields (fun a => { a with caps := 16, framed := some 0, fltBits := 1, fltHeads := 1 }))
    let no := handOf writeItem svFollow [(SRV_STAT_WROK 3, 1), (ALK_CFG_PRESENT 3, 1), (ALK_ASSIST_TYPE 3, 0)] id
    let wr0 := handOf writeItem svFollow [(SRV_STAT_WROK 3, 0)] id
    let p := burstPlace 3 writeItem wr.dev
    running go ∧ isSet PWS_PSSTAT_BUSY stop.dev = false ∧ isSet (CMD_HAND_STOP 3) stop.dev = true
      ∧ (hand 3 stop.dev).any (fun v => v.kind == .scanRead && v.started) = false
      ∧ isSet PWS_PSSTAT_BUSY go.dev = false ∧ isSet (CMD_HAND_STOP 3) go.dev = false ∧ isSet (SRV_CTL_FWOWN 3) go.dev = false
      ∧ isSet (SRV_CTL_OWNED 3) go.dev = false ∧ servo 3 go.dev ≠ svHold ∧ servo 3 go.dev ≠ svRetract
      ∧ (∀ v ∈ hand 3 go.dev, v.started = false ∧ (v.kind = .hostRead →
          (bandOf 3 (workPlace 3 v go.dev).1 (workPlace 3 v go.dev).2 go.dev).isSome = true))
      ∧ pick 3 [] ((hand 3 go.dev).filter (fun v => !v.started && mayDispatch 3 v go.dev)) go.dev = some waiting
      ∧ seekRefused 3 (workPlace 3 waiting go.dev).1 go.dev = false
      ∧ running wr ∧ writingWork 3 wr.dev = some writeItem ∧ isSet (SRV_STAT_WROK 3) wr.dev = true ∧ (arm 3 wr.dev).burst = none
      ∧ isSet (ALK_CFG_PRESENT 3) wr.dev = true ∧ trackWaits 3 p.2.1 wr.dev = false ∧ assistOk 3 wr.dev = true
      ∧ framesOpen 3 wr.dev = false ∧ (arm 3 wr.dev).framed = some (slotAt 3 p.1 p.2.1 wr.dev) ∧ rd (ALK_STAT_MODE 3) wr.dev = 2
      ∧ (arm 3 wr.dev).frameAt + 125 ≤ wr.dev.time ∧ isSet (ALK_STAT_FLT 3) wr.dev = false ∧ (arm 3 wr.dev).fltBits ≤ 1
      ∧ selHead 3 wr.dev = p.1 ∧ rd (WRP_WISTAT_SRC 3) wr.dev = 12
      ∧ writingWork 3 no.dev = some writeItem ∧ isSet (SRV_STAT_WROK 3) no.dev = true ∧ (arm 3 no.dev).burst = none
      ∧ isSet (ALK_CFG_PRESENT 3) no.dev = true ∧ trackWaits 3 (burstPlace 3 writeItem no.dev).2.1 no.dev = false ∧ assistOk 3 no.dev = false
      ∧ writingWork 3 wr0.dev = some writeItem ∧ isSet (SRV_STAT_WROK 3) wr0.dev = false
      ∧ reach (pgWrp 3) go.dev = true ∧ bitOf 1 0 = true ∧ bitOf 0 0 = false := by
  unfold running
  decide +kernel

theorem witness_AssistTripsAndVerification :
    let on := later 1000 (armAt svFollow [(ALK_STAT_WG 3, 1), (WRP_ASLIM_DUTY 3 0, 0), (WRP_ASWD_ONMAX 3, 0)] id)
    let off := armAt svFollow [(ALK_STAT_WG 3, 0)] id
    let r : RawSec := ⟨5, 7, 0, 37152, 0, 9, 0⟩
    let trr := handOf writeItem svFollow [(RCH_AFECTL_TRREN 3, 1), (RCH_MODE_MODE 3 0, 1)] (fun a => { a with raws := [r] })
    let ldr := handOf writeItem svFollow [(RCH_AFECTL_TRREN 3, 0), (RCH_AFECTL_LDREN 3, 1), (RCH_MODE_MODE 3 0, 1), (RCH_MODE_RDR 3 0, 1), (WRP_RAWCTL_DEFEN 3, 1)] (fun a => { a with raws := [r] })
    running on ∧ isSet (ALK_STAT_WG 3) on.dev = true ∧ dutyOver 3 on.dev = true ∧ ontimeOver 3 on.dev = true
      ∧ isSet (ALK_STAT_WG 3) off.dev = false ∧ dutyOver 3 State.reset.dev = false ∧ ontimeOver 3 State.reset.dev = false
      ∧ (arm 3 trr.dev).raws = r :: [] ∧ work 3 5 trr.dev = some writeItem ∧ rd (TST_FRC_RAW 3) trr.dev = 0
      ∧ dieUp (.arm 3) trr.dev = true ∧ r.ready ≤ trr.dev.time ∧ hasChannel 3 trr.dev = true ∧ (rdrs 3 trr.dev).contains 1 = true
      ∧ (rawVerdict 3 writeItem r rawOpen false trr.dev).2 = (false, 4)
      ∧ (arm 3 ldr.dev).raws = r :: [] ∧ work 3 5 ldr.dev = some writeItem ∧ rd (TST_FRC_RAW 3) ldr.dev = 0
      ∧ dieUp (.arm 3) ldr.dev = true ∧ deferring 3 ldr.dev = true ∧ (arm 3 ldr.dev).burst = none := by
  unfold running
  decide +kernel

theorem witness_ArmLinkFrames :
    let f : Frame := ⟨0x4301, 999, false, true, 2⟩
    let e : Frame := ⟨0x4F00, 1023, false, true, 0⟩
    let h : Frame := ⟨0x1000, 0x23, false, false, 0⟩
    let q := armAt svFollow [(ALK_STAT_WG 3, 0)] (fun a => { a with frames := [f] })
    let q2 := armAt svFollow [(ALK_STAT_WG 3, 0)] (fun a => { a with frames := [e] })
    let w := armAt svFollow [] (fun a => { a with frame := some f })
    let l := armAt svFollow [] (fun a => { a with frame := some { f with tries := 3 } })
    let g := armAt svFollow [] (fun a => { a with frame := some { f with read := true } })
    let k := armAt svFollow [] (fun a => { a with frame := some h })
    let x : FrameRsp := ⟨0xFFFF, 0x80, crc8 (0xFFFF * 256 + 0x80) 24⟩
    let y : FrameRsp := ⟨0, 0x80, crc8 0x80 8⟩
    let nak : FrameRsp := ⟨0, 0x41, crc8 0x41 8⟩
    let stuck : FrameRsp := ⟨0, 0x00, crc8 0x00 8⟩
    let refused := armAt svFollow [(ALK_FRMA_ADDR 3, 0xF000)] id
    let busy := handOf writeItem svFollow [(ALK_FRMA_ADDR 3, 0x1000), (ALK_FRMA_READ 3, 0)] id
    let taken := later 1000 (armAt svFollow [(ALK_FRMA_ADDR 3, 0x1000), (ALK_STAT_MODE 3, 2), (WRP_WGCTL_IDLE 3, 0)] id)
    running q ∧ (arm 3 q.dev).frame = none ∧ (arm 3 q.dev).frames = f :: [] ∧ (waitsForGate f && isSet (ALK_STAT_WG 3) q.dev) = false
      ∧ frameClass f = 4 ∧ f.addr % 0x100 ≤ 1 ∧ f.read = false
      ∧ (arm 3 q2.dev).frames = e :: [] ∧ (waitsForGate e && isSet (ALK_STAT_WG 3) q2.dev) = false ∧ frameClass e = 4 ∧ e.addr / 0x100 % 16 = 15
      ∧ (arm 3 w.dev).frame = some f ∧ f.tries < 3 ∧ promotes (pgAlk 3) w.dev = false
      ∧ bits nak.status 6 2 = 1 ∧ bits nak.status 0 4 = 1 ∧ bits stuck.status 6 2 = 0 ∧ crc8 y.status 8 ≠ 1
      ∧ (arm 3 l.dev).frame = some { f with tries := 3 } ∧ f.raw = true ∧ promotes (pgAlk 3) l.dev = false ∧ h.raw = false ∧ frameClass { h with tries := 3 } = 1
      ∧ (arm 3 g.dev).frame = some { f with read := true } ∧ bits x.status 6 2 = 2 ∧ crc8 (x.data * 256 + x.status) 24 = x.crc
      ∧ (arm 3 k.dev).frame = some h ∧ bits y.status 6 2 = 2 ∧ crc8 y.status 8 = y.crc
      ∧ reach (pgAlk 3) refused.dev = true ∧ rd (ALK_FRMCTL_BUSY 3) refused.dev = 0 ∧ rd (ALK_FRMA_ADDR 3) refused.dev / 0x1000 = 15
      ∧ rd (ALK_FRMCTL_BUSY 3) busy.dev = 0 ∧ rd (ALK_FRMA_ADDR 3) busy.dev / 0x1000 = 1 ∧ handBusy 3 busy.dev = true
      ∧ reach (pgAlk 3) taken.dev = true ∧ rd (ALK_FRMCTL_BUSY 3) taken.dev = 0 ∧ rd (ALK_FRMA_ADDR 3) taken.dev / 0x1000 = 1
      ∧ (framesOpen 3 taken.dev || handBusy 3 taken.dev) = false
      ∧ rd (ALK_STAT_MODE 3) taken.dev = 2 ∧ (arm 3 taken.dev).burst = none ∧ idleOver 3 taken.dev = true := by
  unfold running
  decide +kernel

theorem witness_PreamplifierFaults :
    let lasting := armAt svFollow [(ALK_STAT_FLT 3, 1)] (fun a => { a with fltBits := 2 })
    let waits := armAt svFollow [(ALK_STAT_FLT 3, 1)] (fun a => { a with fltBits := 1 })
    let held := armAt svFollow [(ALK_STAT_FLT 3, 1), (SRV_STAT_HEAD 3, 2)] (fun a => { a with fltHeads := 4 })
    let locked := dev (onPage (pgWrp 3) (fun h => { h with lock := true }))
    running lasting ∧ rd (ALK_STAT_FLT 3) lasting.dev = 1 ∧ (arm 3 lasting.dev).fltBits = 2
      ∧ (arm 3 lasting.dev).fltHeads.testBit (selHead 3 lasting.dev) = false
      ∧ rd (ALK_STAT_FLT 3) waits.dev = 1 ∧ (arm 3 waits.dev).fltBits = 1
      ∧ rd (ALK_STAT_FLT 3) held.dev = 1 ∧ (arm 3 held.dev).fltHeads.testBit (selHead 3 held.dev) = true
      ∧ fitted (.arm 3) locked.dev = true ∧ rd (ALK_ASSIST_TYPE 3) locked.dev ≠ bits 32 4 2 := by
  unfold running
  decide +kernel

/-- The spindle in state `st`, the links up, and more. -/
def spinAt (st : Nat) (fs : List (Fld × Nat)) (f : Power → Power) : State :=
  dev (fun d => onPwr f (wrs ((SPN_STAT_STATE, st) :: fs) (up d)))

theorem witness_SpindleStartAndStop :
    let fs := [(SPN_MOTKE_KE, 1), (SPN_MOTRL_RPH, 1)]
    let ready := spinAt 0 fs id
    let failed := spinAt 8 fs id
    let cold := spinAt 0 ((THM_STAT_COLDSTOP, 1) :: fs) id
    let coasts := spinAt 5 [(SPN_SPEED_RPM, 0xFFFFF), (SPN_STAT_TARGET, 6)] id
    let band := spinAt 9 [] (fun p => { p with inBand := 50, reached := true })
    let brake := spinAt 4 [(SPN_STAT_TARGET, 5)] id
    let six := later 1000000000000 (spinAt 1 [] id)
    let early := spinAt 1 [] id
    let late := fun (s : State) => s.dev.pwr.started + ((rd SPN_START_TMO s.dev * 1000 * auxPerMs : Nat) : Int) ≤ s.dev.time
    running ready ∧ reach pgSpn ready.dev = true ∧ spState ready.dev = 0 ∧ isSet THM_STAT_COLDSTOP ready.dev = false
      ∧ rd SPN_MOTKE_KE ready.dev ≠ 0 ∧ rd SPN_MOTRL_RPH ready.dev ≠ 0 ∧ spState cold.dev = 0 ∧ isSet THM_STAT_COLDSTOP cold.dev = true
      ∧ spState failed.dev = 8 ∧ speed failed.dev = 0 ∧ spState coasts.dev = 5 ∧ aboveHandover coasts.dev = true
      ∧ reach pgSpn State.reset.dev = false ∧ spRunning band.dev = true ∧ spState six.dev = 1 ∧ spRunning ready.dev = false
      ∧ fitted (.arm 3) band.dev = true ∧ reaches .power (.arm 3) band.dev = true
      ∧ spState ready.dev ≠ 1 ∧ spBraking brake.dev = true ∧ rd SPN_STAT_TARGET brake.dev = 5 ∧ rd SPN_STAT_TARGET coasts.dev = 6
      ∧ 50 ≤ band.dev.pwr.inBand ∧ isSet SPN_STAT_RAMP band.dev = false
      ∧ ready.dev.pwr.inBand < 50 ∧ spStarting six.dev = true ∧ late six ∧ spStarting early.dev = true ∧ ¬late early
      ∧ spStarting band.dev = false := by
  unfold running
  decide +kernel

theorem witness_SynchronismAndSpeedSteps :
    let six := spinAt 1 [] (fun p => { p with hall := some 5, agree := 11, badRun := 1 })
    let a : HallIn := ⟨4, 60, 15, none⟩
    let b : HallIn := ⟨7, 1000000000, 0, none⟩
    let foc := spinAt 2 [(SPN_OBSLIM_ACCMAX, 9)] id
    let worn : State := { foc with dev := onPage pgSpn (fun h => { h with thresh := 1 }) foc.dev }
    let bad := spinAt 3 [(SPN_OBSLIM_ACCMAX, 9), (SPN_STAT_HALLBAD, 1)] id
    let rec4 := spinAt 4 [] (fun p => { p with agree := 12, before := 2 })
    let ramp := spinAt 3 [(SPN_STAT_RAMP, 1), (SPN_STEPLIM_MAX, 4), (SPN_CTL_AUTO, 1), (SPN_STAT_TARGET, 2)] id
    let note := fun tgt => spinAt 2 [] (fun p => { p with notices := [(3, [⟨true, 1, tgt⟩]), (4, [⟨true, 1, tgt⟩])] })
    let gov := spinAt 2 [(SPN_CTL_AUTO, 1), (SPN_STAT_STEP, 3), (SPN_STEPLIM_MAX, 4), (SPN_STEPLIM_CAP, 4), (CMD_GOVOUT_DEMAND, 100), (SPN_GOV_UPTHR, 99)]
      (fun p => { p with reached := true })
    (running six ∧ six.dev.pwr.hall = some 5 ∧ 1 ≤ a.code ∧ a.code ≤ 6 ∧ popCount 3 (5 ^^^ a.code) = 1 ∧ spState six.dev = 1
        ∧ a.ang ≤ 15 ∧ 11 ≤ six.dev.pwr.agree ∧ decide (500000000 * 60 < 36 * a.dt * (rd SPN_START_HOSPD six.dev * 10)) = false
        ∧ 6 < b.code ∧ speed six.dev < rd SPN_START_HOSPD six.dev * 1000 ∧ 1 ≤ six.dev.pwr.badRun
        ∧ (page pgSpn six.dev).freeze = false ∧ rd SPN_SYNCCNT_HALLERR six.dev < 0xFFFF)
      ∧ (spState foc.dev = 2 ∧ rd SPN_OBSLIM_ACCMAX foc.dev < 10 ∧ isSet SPN_STAT_HALLBAD foc.dev = false
        ∧ promotes pgSpn foc.dev = false ∧ promotes pgSpn worn.dev = true ∧ rd SPN_OBSLIM_ACCMAX worn.dev < 10
        ∧ spState bad.dev = 3 ∧ rd SPN_OBSLIM_ACCMAX bad.dev < 10 ∧ isSet SPN_STAT_HALLBAD bad.dev = true
        ∧ 0 ≤ rd SPN_OBSLIM_ANG foc.dev ∧ 9 ≤ rd SPN_OBSLIM_ACCMAX foc.dev ∧ 0 ≤ rd SPN_OBSLIM_FLUX foc.dev
        ∧ 12 ≤ rec4.dev.pwr.agree ∧ rec4.dev.pwr.before = 2 ∧ rec4.dev.pwr.noFoc = false ∧ spState rec4.dev = 4)
      ∧ (reach pgSpn ramp.dev = true ∧ bits (1 + 16 * 0) 4 3 < bits (1 + 16 * 0) 0 3 ∧ bits 4 0 3 ≤ 4
        ∧ bits (4 + 16 * 4) 0 3 ≤ bits (4 + 16 * 4) 4 3 ∧ bits (4 + 16 * 4) 4 3 ≤ 4 ∧ bits (4 + 16 * 4) 4 3 ≤ rd SPN_STEPLIM_MAX ramp.dev
        ∧ rd THM_STAT_STEP ramp.dev = 0 ∧ isSet SPN_STAT_RAMP ramp.dev = true ∧ spState ramp.dev = 3)
      ∧ (Store.get [] 4 foc.dev.pwr.notices = [] ∧ Store.get [] 4 (note 4).dev.pwr.notices = [⟨true, 1, 4⟩]
        ∧ dieUp .power State.reset.dev = false ∧ dieUp .power (note 4).dev = true ∧ (note 4).dev.deal.ploss = false
        ∧ Store.get [] 4 (note 7).dev.pwr.notices = [⟨true, 1, 7⟩] ∧ Store.get [] 3 (note 7).dev.pwr.notices = [⟨true, 1, 7⟩]
        ∧ fitted (.arm 3) (note 7).dev = true ∧ dieUp (.arm 3) (note 7).dev = true)
      ∧ (dieUp .power gov.dev = true ∧ isSet SPN_CTL_AUTO gov.dev = true ∧ wantsMin gov.dev = false ∧ spRunning gov.dev = true
        ∧ isSet SPN_STAT_RAMP gov.dev = false ∧ gov.dev.pwr.reached = true ∧ 3 ≤ rd SPN_STEPLIM_CAP gov.dev
        ∧ rd SPN_GOV_UPTHR gov.dev * 1 < 100 ∧ 3 < min (rd SPN_STEPLIM_MAX gov.dev) (rd SPN_STEPLIM_CAP gov.dev)
        ∧ gov.dev.pwr.rampEnd = none)
      ∧ (isSet SPN_CTL_AUTO ramp.dev = true ∧ wantsMin ramp.dev = false ∧ rd SPN_STEPLIM_MIN ramp.dev ≤ rd SPN_STAT_TARGET ramp.dev % 8
        ∧ rd SPN_STAT_TARGET ramp.dev ≤ rd SPN_STEPLIM_MAX ramp.dev ∧ observed State.reset.dev = false
        ∧ fitted (.arm 3) bad.dev = true ∧ reaches .power (.arm 3) bad.dev = true) := by
  unfold running
  exact ⟨by decide +kernel, by decide +kernel, by decide +kernel, by decide +kernel, by decide +kernel, by decide +kernel⟩

theorem witness_SupplyProtectionAndVaultMode :
    let dec := spinAt 6 [(BRK_STAT_CHOPFLT, 1)] id
    let hold := spinAt 2 [] id
    let worn : State := { dec with dev := onPage pgBrk (fun h => { h with thresh := 1 }) dec.dev }
    let disc := spinAt 5 [(BRK_STAT_DISC, 1), (SPN_SPEED_RPM, 0xFFFFF)] (fun p => { p with before := 2 })
    let on := spinAt 6 [(BRK_STAT_CHOP, 1)] id
    let fast := spinAt 2 [(SPN_SPEED_RPM, 300000), (BRK_VAULT_ARMS, 3)] id
    let slow := spinAt 2 [(SPN_SPEED_RPM, 299999)] id
    let vault := spinAt 7 [(BRK_STAT_VAULT, 1), (BRK_VAULT_ARMS, 3), (BRK_STAT_PLOSS, 1)] (fun p => { p with supplyBack := true })
    (running dec ∧ vAbove 1023 (rd BRK_THR0_ON dec.dev) dec.dev = true ∧ decelerating dec.dev = true ∧ dec.dev.pwr.chopOff = false ∧ isSet BRK_STAT_CHOP dec.dev = false
        ∧ decelerating hold.dev = false ∧ vBelow 0 (rd BRK_THR0_OFF dec.dev) dec.dev = true ∧ isSet BRK_STAT_CHOP on.dev = true ∧ promotes pgBrk on.dev = false ∧ promotes pgBrk worn.dev = true ∧ promotes pgBrk dec.dev = false
        ∧ vAbove 1023 (rd BRK_THR1_SHORT dec.dev) dec.dev = true ∧ isSet BRK_STAT_CHOPFLT dec.dev = true ∧ isSet BRK_STAT_SHORT dec.dev = false
        ∧ vBelow 0 (rd BRK_THR1_RELEASE dec.dev) dec.dev = true ∧ vAbove 1023 (rd BRK_THR2_DISC dec.dev) dec.dev = true ∧ isSet BRK_STAT_DISC dec.dev = false
        ∧ spState dec.dev ≠ 0 ∧ spState dec.dev ≠ 8 ∧ fitted (.arm 3) dec.dev = true ∧ reaches .power (.arm 3) dec.dev = true
        ∧ vBelow 0 (rd BRK_THR2_RECON disc.dev) disc.dev = true ∧ isSet BRK_STAT_DISC disc.dev = true
        ∧ spState disc.dev = 5 ∧ disc.dev.pwr.before ≠ 0 ∧ aboveHandover disc.dev = true ∧ dec.dev.pwr.before = 0)
      ∧ (vBelow 1023 (rd BRK_PLTHR_V12UV fast.dev) fast.dev = false ∧ vBelow 1023 (rd BRK_PLTHR_V5UV fast.dev) fast.dev = false ∧ isSet BRK_STAT_PLOSS fast.dev = false
        ∧ vBelow 0 (rd BRK_PLTHR_V12UV fast.dev) fast.dev = true ∧ vBelow 0 (rd BRK_PLTHR_V12UV slow.dev) slow.dev = true ∧ isSet BRK_STAT_PLOSS slow.dev = false
        ∧ speed slow.dev < 300000 ∧ 300000 ≤ speed fast.dev ∧ spState fast.dev ≠ 0 ∧ spState fast.dev ≠ 8
        ∧ fitted (.arm 1) fast.dev = true ∧ (rd BRK_VAULT_ARMS fast.dev).testBit 1 = true ∧ dieUp (.arm 1) fast.dev = true
        ∧ fitted (.arm 3) fast.dev = true ∧ reaches .power (.arm 3) fast.dev = true ∧ (rd BRK_VAULT_ARMS fast.dev).testBit 3 = false)
      ∧ (isSet BRK_STAT_VAULT vault.dev = true ∧ vault.dev.pwr.flushed = false ∧ flushIdle vault.dev = true
        ∧ dieUp .power vault.dev = true ∧ vault.dev.pwr.supplyBack = true ∧ isSet BRK_STAT_VAULT fast.dev = false) := by
  unfold running
  decide +kernel

theorem witness_RetractsAndDriverFaults :
    let s := later 1000000000 (spinAt 2 [(VCM_STAT_STATE 3, 2), (SRV_STAT_STATE 3, svRetract)] id)
    let f := later 1000000000 (spinAt 2 [(VCM_STAT_STATE 3, 2)] (fun p => { p with retFull := 8 }))
    let soon := spinAt 2 [(VCM_STAT_STATE 3, 2)] id
    let none3 := dev (fun d => { d with part := .a2 })
    let worn : State := { s with dev := onPage pgVcm (fun h => { h with thresh := 1 }) s.dev }
    running s ∧ fitted (.arm 3) s.dev = true ∧ s.dev.pwr.noRetract.testBit 3 = false ∧ reaches .power (.arm 3) s.dev = true
      ∧ rd (VCM_STAT_STATE 3) s.dev = 2 ∧ s.dev.pwr.retFull.testBit 3 = false ∧ servo 3 s.dev = svRetract
      ∧ isSet BRK_STAT_DISC s.dev = false ∧ phaseOver 3 (rd (VCM_RET_HOLDT 3) s.dev) s.dev = true
      ∧ isSet BRK_STAT_DISC f.dev = false ∧ phaseOver 3 (rd (VCM_RET_RETT 3) f.dev) f.dev = true ∧ f.dev.pwr.retFull.testBit 3 = true
      ∧ phaseOver 3 (rd (VCM_RET_HOLDT 3) soon.dev) soon.dev = false
      ∧ running none3 ∧ fitted (.arm 3) none3.dev = false
      ∧ rd (VCM_STAT_STATE 3) none3.dev ≠ 2 ∧ promotes pgVcm s.dev = false ∧ promotes pgVcm worn.dev = true := by
  unfold running
  decide +kernel

/-- The least and the greatest number that the limits of a class allow, and the greatest step. -/
def wide (k : Nat) : List (Fld × Nat) :=
  [(CAL_LIM_MIN 3 k, 0), (CAL_LIM_MAX 3 k, 2 ^ (CAL_LIM_MAX 3 k).w / 2 - 1), (CAL_LIM_STEP 3 k, 2 ^ (CAL_LIM_STEP 3 k).w - 1)]
/-- What channel A adapted for slot 63 as it stands installed: nothing. -/
def adaptedNothing : Adapted := ⟨false, 63, List.replicate 33 0, 0⟩

/-- The sums of two samples that a coil of 7 and 5 units gives exactly. -/
def samples : FitSums := ⟨25, 0, 25, 5, -35⟩

theorem witness_CalibrationAndReferences :
    let due := armAt svFollow [(CAL_TRIG_AUTO 3, 1), (CAL_TRIG_MAXINT 3, 0)] (fun a => { a with calFrom := some 0 })
    let early := armAt svFollow [] id
    let held := armAt svFollow [(CAL_STAT_PEND 3, 2)] id
    let rest := armAt svParked [] id
    let busy := armAt svFollow [] id
    let chRun : CalRun := { CalRun.start 0 0 0 false 0 with phase := 1, counts := [(63, 2000)] }
    let ch := armAt svFollow ([(RCH_MODE_MODE 3 0, 3), (CAL_RUNCFG_NSEC 3, 2000), (CAL_RUNCFG_TMAX 3, 0)]
      ++ wide 0 ++ wide 1 ++ wide 2 ++ wide 3 ++ wide 4) (fun a => { a with calRuns := [chRun] })
    let narrow := armAt svFollow ([(RCH_MODE_MODE 3 0, 3), (CAL_RUNCFG_NSEC 3, 2000), (CAL_RUNCFG_TMAX 3, 0), (CAL_LIM_MIN 3 0, 1)])
      (fun a => { a with calRuns := [chRun] })
    let none3 := armAt svFollow [(RCH_MODE_MODE 3 0, 3), (CAL_RUNCFG_NSEC 3, 2001), (CAL_RUNCFG_TMAX 3, 0)] (fun a => { a with calRuns := [chRun] })
    let full := fun (x : State) => (List.range 64).filter (fun k => decide (rd (CAL_RUNCFG_NSEC 3) x.dev ≤ slotSectors chRun k) && slotSectors chRun k != 0)
    let fitRun : CalRun := { CalRun.start 1 0 0 true 0 with wedges := 4096, fit := samples }
    let fit := armAt svFollow (wide 5 ++ wide 6) (fun a => { a with calRuns := [fitRun] })
    let late := armAt svFollow [(CAL_RUNCFG_TMAX 3, 0)] (fun a => { a with calRuns := [{ fitRun with wedges := 4095 }] })
    let ref := armAt svFollow [(GLB_REFCTL_CGO, 1), (GLB_REFCTL_VGO, 1)] id
    (running due ∧ (arm 3 due.dev).calFrom = some 0 ∧ isSet (CAL_TRIG_AUTO 3) due.dev = true
        ∧ ((rd (CAL_TRIG_MAXINT 3) due.dev * 3600000 * auxPerMs : Nat) : Int) ≤ due.dev.time - 0
        ∧ (rd (CAL_STAT_PEND 3) due.dev).testBit 0 = false ∧ (arm 3 early.dev).calFrom = none
        ∧ reach (pgCal 3) early.dev = true ∧ bitOf 0 0 = false ∧ bitOf (1 + 2 * 16) 0 = true ∧ (page (pgCal 3) busy.dev).busy = false
        ∧ (bits (1 + 8 * 16) 4 4).testBit 3 = true ∧ calCond 3 3 0 busy.dev = false ∧ calCond 3 1 0 rest.dev = false
        ∧ bits (1 + 2 * 16) 4 4 = 2 ∧ calCond 3 1 0 busy.dev = true ∧ calRun 3 1 busy.dev = none
        ∧ rd (CAL_STAT_PEND 3) held.dev = 2 ∧ calRun 3 1 held.dev = none ∧ calCond 3 1 (arm 3 held.dev).calSlot held.dev = true
        ∧ rd (CAL_STAT_PEND 3) early.dev = 0)
      ∧ (calRun 3 0 ch.dev = some chRun ∧ chMode 3 0 ch.dev = chAdapt ∧ 0 + rd (CAL_RUNCFG_TMAX 3) ch.dev * 10 * auxPerMs ≤ ch.dev.time
        ∧ full ch = [63] ∧ full none3 = [] ∧ calRun 3 0 none3.dev = some chRun ∧ chMode 3 0 none3.dev = chAdapt
        ∧ adaptedNothing.slot.val = 63 ∧ chRun.skip = [] ∧ Store.get 0 63 chRun.counts ≠ 0 ∧ Store.get 0 (63 + 64) chRun.counts = 0
        ∧ failingClass 3 (List.replicate 64 0) (adaptedSet (List.replicate 64 0) adaptedNothing) ch.dev = none
        ∧ full narrow = [63] ∧ failingClass 3 (List.replicate 64 0) (adaptedSet (List.replicate 64 0) adaptedNothing) narrow.dev = some 0)
      ∧ (calRun 3 1 fit.dev = some fitRun ∧ fitRun.phase = 0 ∧ coilFit samples 0 0 = (7, 5) ∧ coilFit ⟨0, 0, 0, 0, 0⟩ 9 8 = (9, 8) ∧ plausible 3 5 16 (rd (CTL_L0MODEL_RCOIL 3) fit.dev) 7 fit.dev = true
        ∧ plausible 3 6 1 (rd (CTL_L0MODEL_LCOIL 3) fit.dev) 5 fit.dev = true
        ∧ plausible 3 5 16 (rd (CTL_L0MODEL_RCOIL 3) fit.dev) 65535 early.dev = false
        ∧ calRun 3 1 late.dev = some { fitRun with wedges := 4095 } ∧ 0 + rd (CAL_RUNCFG_TMAX 3) late.dev * 10 * auxPerMs ≤ late.dev.time
        ∧ isSet GLB_REFCTL_CGO ref.dev = true ∧ isSet GLB_REFCTL_VGO ref.dev = true ∧ isSet GLB_REFCTL_VGO early.dev = false) := by
  unfold running
  decide +kernel

/-- One zone record at the base of SDRAM, `z`, and more. -/
def zoneRecs (z : Zone) (fs : List (Fld × Nat)) (f : Dev → Dev) : State :=
  dev (fun d =>
    let d := wrs ([(DRC_MAP_CHGIB, 8), (ZON_TBLBASE_ADDR, 0x2000000), (ZON_NREC_NREC, 1)] ++ fs) d
    f (memWrite (recAddr 0 d) z.bytes none { d with mem := d.mem.fill (sdramBase / 8) (sdramBase / 8 + 0x1000) }))
/-- A zone of namespace 0 in state `st`, with a full slip list. -/
def zoneIn (st : Nat) : Zone := ⟨st, false, false, false, false, false, false, false, 64, 100, 100, 3, 0, 9, 0⟩
def oneNs (mar : Nat) : Dev → Dev := fun d => { d with zon := { d.zon with ns := [(0, ⟨0, 1, true, false, mar, mar⟩)] } }

theorem witness_ZoneActions :
    let at' := fun st f => zoneRecs (zoneIn st) [] (fun d => oneNs 1 (f d))
    let z := fun (s : State) => (zoneGet 0 s.dev).2
    let e := at' zEmpty id
    let c := at' zClosed id
    let i := at' zImplicit id
    let x := at' zExplicit (fun d => { d with zon := { d.zon with cur := some ⟨0, 1, 100, [], []⟩ } })
    let ro := at' zReadOnly id
    let fu := at' zFull id
    let o := fun (s : State) => (openStatus 0 (z s) (zoneGet 0 s.dev).1).2
    (running e ∧ (z e).spare = false ∧ (z e).vault = false ∧ (z e).conv = false ∧ nsValid (z e).ns = true ∧ (z e).state = zEmpty
        ∧ o e = 0 ∧ (z e).state ≠ zExplicit ∧ (z e).active = false)
      ∧ ((z ro).state = zReadOnly ∧ (z fu).state = zFull ∧ nsValid (z fu).ns = true ∧ (z c).state = zClosed ∧ (z c).active = true)
      ∧ ((z i).isOpen = true ∧ i.dev.zon.waits = [] ∧ relocating 0 i.dev = false ∧ zoneUnverified 0 i.dev = false
        ∧ rd ZON_CTL_SLIPFIN i.dev ≤ (z i).slips)
      ∧ ((z x).active = true ∧ (z x).state = zExplicit ∧ relocating 0 x.dev = true ∧ x.dev.zon.waits = [] ∧ o x = 0)
      ∧ (o (zoneRecs (zoneIn zEmpty) [] (oneNs 0)) ≠ 0 ∧ jnlReady e.dev = false
        ∧ jnlReady (at' zEmpty (fun d => { d with zon := { d.zon with jnext := some 1 } })).dev = true ∧ e.dev.zon.jwait = []) := by
  unfold running
  decide +kernel

/-- Every position of stripe 0 as on-the-fly decoding gives it, all zeros. -/
def stripeOfZeros : List StripeRead := (List.range 64).map (fun j => ⟨Fin.ofNat 64 j, []⟩)

theorem xorList_nil (n : Nat) : xorList (List.replicate n 0) [] = List.replicate n 0 := by
  unfold xorList
  rw [List.eq_replicate_iff]
  refine ⟨by simp, fun b hb => ?_⟩
  obtain ⟨i, _, rfl⟩ := List.mem_map.mp hb
  by_cases h : i < n <;> simp [List.getD, h]

theorem symBytes_zeros (n : Nat) : symBytes (List.replicate n 0) = List.replicate (2 * n) 0 := by
  unfold symBytes
  induction n with
  | zero => rfl
  | succ n ih => rw [List.replicate_succ, List.flatMap_cons, ih]; rfl

theorem erased_of_zeros (x : Nat) (got : List (Nat × List Nat)) (hz : ∀ g ∈ got, g.2 = [])
    (hm : (List.range 64).filter (fun j => j != x && !got.any (fun g => g.1 == j)) = []) :
    erased x got = some (symBytes (List.replicate 2056 0)) := by
  have h : got.foldl (fun a g => xorList a (symbols g.2)) (List.replicate 2056 0) = List.replicate 2056 0 :=
    List.foldlRecOn (motive := fun acc => acc = List.replicate 2056 0) _ _ rfl (fun acc ha g hg => by
      rw [hz g hg, ha]; exact xorList_nil 2056)
  unfold erased
  simp only [hm, h]

/-- Beside the witness below: with every other position of a stripe of zeros delivered, the sector is found, and its tag is 0. -/
theorem witness_TablesRelocationAndScans_stripe : ∃ bs, erased (0 % 64) ((List.range 64).filterMap (fun j => if j = 0 % 64 then none
      else (stripeOfZeros.find? (fun r => r.pos.val == j)).map (fun r => (j, r.bytes)))) = some bs ∧ tagOf (bs.drop 4096) = 0 := by
  refine ⟨_, erased_of_zeros _ _ (by decide +kernel) (by decide +kernel), ?_⟩
  have h : symBytes (List.replicate 2056 0) = List.replicate (2 * 2056) 0 := symBytes_zeros 2056
  rw [h, List.drop_replicate]
  decide

/-- The states of the witnesses below: a closed zone with parity, and what each clause wants beside it. -/
def tz : Zone := { zoneIn zClosed with par := true, wp := 62 }
def tLoad : State := zoneRecs tz [(ZON_NSBASE_ADDR, 0x102000)] (fun d => { d with mem := d.mem.fill (0x08100000 / 8) (0x08101000 / 8) })
def tGone : State :=
  zoneRecs tz [(ZON_NSBASE_ADDR, 0x102000)] (fun d => { d with mem := d.mem.fill (0x08100000 / 8) (0x08100F80 / 8) })
def tBusy : State := zoneRecs tz [(ZON_RELOC_BUSY, 1), (ZON_SCAN_BUSY 3, 1)] id
def tSpare (q : List Nat) : State :=
  dev (fun d =>
    let d := wrs [(DRC_MAP_CHGIB, 8), (ZON_TBLBASE_ADDR, 0x2000000), (ZON_NREC_NREC, 2)] d
    let d := { d with zon := { d.zon with queue := q }, mem := d.mem.fill (sdramBase / 8) (sdramBase / 8 + 0x1000) }
    memWrite (recAddr 0 d) ({ zoneIn zEmpty with spare := true, arm := 0 }.bytes ++ { tz with arm := 0 }.bytes) none d)
def tNone (q : List Nat) : State := zoneRecs tz [] (fun d => { d with zon := { d.zon with queue := q } })
def tDone : State := zoneRecs tz [] (fun d => { d with zon := { d.zon with cur := some ⟨0, 1, 62, [], []⟩ } })
def tOpen (pass : Bool) : State := { tDone with
  dev := onArm 3 (fun a => { a with ladder := [⟨5, 0, 10, 0, 0, 0, 0, pass, 0, 9⟩] })
    (setHand 3 [⟨5, .relocRead, 0, none, 0, 0, 0, 8, 0, 9, 0, 0, true, 0, 0, 0, 0, true, 0, 0, []⟩] tDone.dev) }
def tScan : State := { tBusy with dev := setHand 3 [{ readItem with kind := .scanRead }] tBusy.dev }

theorem witness_TablesRelocationAndScans_tables :
    running tLoad ∧ isSet NVME_CSTS_RDY (zoneRecs tz [(NVME_CSTS_RDY, 1)] id).dev = true ∧ isSet NVME_CSTS_RDY tLoad.dev = false
      ∧ isSet NVME_CSTS_RDY tGone.dev = false ∧ (nsTable tGone.dev).2.isNone = true := by
  unfold running
  decide +kernel

theorem witness_TablesRelocationAndScans_load : (nsTable tLoad.dev).2.any (fun es => nsTableOk es (nsTable tLoad.dev).1) = true := by
  decide +kernel

theorem witness_TablesRelocationAndScans_relocation :
    let v := 2 ^ 20
    running tLoad ∧ bitOf 0 20 = false ∧ isSet ZON_RELOC_BUSY tBusy.dev = true ∧ bitOf (2 ^ 20 + 1) 20 = true
      ∧ isSet ZON_RELOC_BUSY tLoad.dev = false ∧ rd ZON_NREC_NREC tLoad.dev ≤ bits (2 ^ 20 + 1) 0 20
      ∧ bits v 0 20 < rd ZON_NREC_NREC tLoad.dev ∧ bitOf v 20 = true ∧ bitOf v 22 = false ∧ tLoad.dev.zon.queue = [] ∧ tLoad.dev.zon.cur = none
      ∧ (zoneGet (bits v 0 20) (wr ZON_RELOC_REC (bits v 0 20) tLoad.dev)).2.active = true
      ∧ (tSpare [1, 0]).dev.zon.cur = none ∧ (tSpare [1, 0]).dev.zon.queue = 1 :: [0] ∧ (zoneGet 1 (tSpare [0]).dev).2.arm = 0
      ∧ (zoneGet 1 (tSpare [0]).dev).2.active = true ∧ (zoneGet 0 (tSpare []).dev).2.state = zEmpty
      ∧ (findSpare (some 0) (zoneGet 1 (tSpare [0]).dev).1).2.map (fun x => x.1) = some 0
      ∧ (tNone [0]).dev.zon.cur = none ∧ (tNone [0]).dev.zon.queue = 0 :: [] ∧ (zoneGet 0 (tNone []).dev).2.arm = 3 ∧ (zoneGet 0 (tNone []).dev).2.active = true
      ∧ (findSpare (some 3) (zoneGet 0 (tNone []).dev).1).2.isSome = false
      ∧ (findSpare none (findSpare (some 3) (zoneGet 0 (tNone []).dev).1).1).2 = none := by
  unfold running
  decide +kernel

theorem witness_TablesRelocationAndScans_ends :
    let left := fun (s : State) => (List.range 4).any (fun n => (hand n s.dev).any (fun w =>
      (w.kind == .relocRead || w.kind == .relocWrite) && w.zrec == 0))
    running tDone ∧ tDone.dev.zon.cur = some ⟨0, 1, 62, [], []⟩ ∧ (tOpen true).dev.zon.cur = some ⟨0, 1, 62, [], []⟩
      ∧ left (tOpen true) = true ∧ left tDone = false ∧ tDone.dev.zon.waits = [] ∧ jnlReady tDone.dev = false
      ∧ (arm 3 (tOpen false).dev).ladder = [⟨5, 0, 10, 0, 0, 0, 0, false, 0, 9⟩] ∧ (arm 3 (tOpen true).dev).ladder = [⟨5, 0, 10, 0, 0, 0, 0, true, 0, 9⟩]
      ∧ (work 3 5 (tOpen true).dev).map Work.kind = some .relocRead ∧ stripeComplete 0 (zoneGet 0 (tOpen true).dev).2 0 (tOpen true).dev = true
      ∧ stripeComplete 0 (zoneGet 0 (tOpen true).dev).2 1 (tOpen true).dev = false ∧ rd (TST_FRC_RUNGMASK 3) (tOpen true).dev = 0
      ∧ (tOpen true).dev.deal.blks = [] ∧ (tOpen true).dev.zon.parHeld = [] := by
  unfold running
  decide +kernel

theorem witness_TablesRelocationAndScans :
    let mc := zoneRecs tz [(ZON_MCBASE_ADDR, 0x2000010), (ZON_MCCFG_BBITS, 1)] id
    let h : McHold := ⟨0, 16, 3, 0, 9, 0⟩
    let held := fun (s : State) => { s with dev := { s.dev with zon := { s.dev.zon with mcHeld := [h] } } }
    running mc ∧ (held mc).dev.zon.mcHeld = h :: [] ∧ (mcEnter h (held mc).dev).isSome = true
      ∧ mc.dev.zon.mcHeld = []
      ∧ bitOf (2 ^ 20) 20 = true ∧ isSet (ZON_SCAN_BUSY 3) tLoad.dev = false ∧ rd ZON_NREC_NREC tLoad.dev ≤ bits (2 ^ 20 + 1) 0 20
      ∧ isSet (ZON_SCAN_BUSY 3) tBusy.dev = true ∧ (hand 3 tBusy.dev).any (fun w => w.kind == .scanRead) = false
      ∧ (hand 3 tScan.dev).any (fun w => w.kind == .scanRead) = true := by
  unfold running
  decide +kernel

/-- The PCI Express link up, memory space enabled, and more. -/
def hostOn (fs : List (Fld × Nat)) (f : Dev → Dev) : State :=
  dev (fun d => f (wrs ([(HEP_LINKSTAT_DLUP, 1)] ++ fs) { d with host := { d.host with cfg := [(4, cfg 4 d + 2)] } }))
def env0 : RegEnv := ⟨1, [], [], true, []⟩

theorem witness_HostLinkAndRequests :
    let down := State.reset
    let on := hostOn [(HEP_ASPMCTL_LTRVAL, 1023)] (setCfg 0x098 0x400)
    let l1 := later 1000000 (hostOn [] (setCfg 0x080 2))
    let off := hostOn [(GLB_HOSTACC_LOCK, 1)] (setCfg 4 0)
    let held := hostOn [(HEP_WINCOMMIT_BUSY, 1)] id
    let rd1 := hostOn [] (fun d => { d with host := { d.host with reads := [⟨7, 0, 4, [], .dead, 0⟩] } })
    (running down ∧ linkIsUp down.dev = false ∧ linkBarred down.dev = false ∧ dealerRests down.dev)
      ∧ (running on ∧ linkIsUp on.dev = true ∧ memOn on.dev = true ∧ on.dev.host.out = [] ∧ ltrOn on.dev = true
        ∧ rd HEP_ASPMCTL_LTRVAL on.dev ≠ 1022 % 1024 ∧ rd HEP_ASPMCTL_LTRVAL on.dev = 2047 % 1024)
      ∧ (linkIsUp l1.dev = true ∧ aspmL1 l1.dev = true ∧ linkIdle l1.dev = true ∧ ltrOn l1.dev = false ∧ linkIdle rd1.dev = false ∧ linkIsUp rd1.dev = true)
      ∧ (linkIsUp off.dev = true ∧ isSet HEP_WINCOMMIT_BUSY off.dev = false ∧ isSet HEP_WINCOMMIT_BUSY on.dev = false ∧ isSet HEP_WINCOMMIT_BUSY held.dev = true
        ∧ linkIsUp held.dev = true ∧ memOn off.dev = false ∧ isSet GLB_HOSTACC_LOCK off.dev = true ∧ 0x100000 ≤ 0x16FFFC) := by
  unfold running dealerRests
  decide +kernel

theorem witness_WindowsCompletionsAndErrors :
    let w : Win := ⟨true, false, 16, 0, 0x08100000⟩
    let act := fun (w : Win) (d : Dev) =>
      { d with host := { d.host with act := { d.host.act with wins := [(15, w)] } }, mem := d.mem.fill (0x08100000 / 8) (0x08110000 / 8) }
    let rw := hostOn [] (act w)
    let ro := hostOn [] (act { w with ro := true })
    let un := hostOn [] (fun d => { d with host := { d.host with act := { d.host.act with wins := [(0, w)] } } })
    let busy := hostOn [(HEP_WINCOMMIT_BUSY, 1)] (fun d => { d with host := { d.host with next := some WinSet.off } })
    let bad := hostOn [(HEP_WIN_EN 15, 1), (HEP_WIN_LOG2SZ 15, 16)] id
    let read := fun use => hostOn [] (fun d => { d with host := { d.host with reads := [⟨7, 0, 4, [1], use, 0⟩] } })
    (running rw ∧ linkIsUp rw.dev = true ∧ isSet HEP_WINCOMMIT_BUSY rw.dev = false ∧ memOn rw.dev = true
        ∧ winOf 0xFFFC 4 rw.dev = some w ∧ memUp (w.target + 0xFFFC) rw.dev = true ∧ rw.dev.host.out = []
        ∧ (memRead (w.target + 0xFFFC) 4 { linkL0 rw.dev with ur := false }).2 = some [0, 0, 0, 0]
        ∧ winOf 0xFFFC 4 un.dev = some w ∧ (memRead (w.target + 0xFFFC) 4 { linkL0 un.dev with ur := false }).2 = none
        ∧ winOf 0xFFFC 4 ro.dev = some { w with ro := true } ∧ winOf 0x10000 4 rw.dev = none
        ∧ isSet HEP_WINCOMMIT_BUSY busy.dev = true ∧ linkIsUp busy.dev = true)
      ∧ (commitCheck bad.dev = some (15, 3) ∧ isSet HEP_WINCOMMIT_BUSY bad.dev = false ∧ commitCheck rw.dev = none
        ∧ busy.dev.host.next = some WinSet.off ∧ busy.dev.host.held = [] ∧ rw.dev.host.next = none ∧ linkIsUp State.reset.dev = false)
      ∧ (readOf 7 (read .dead).dev = some ⟨7, 0, 4, [1], .dead, 0⟩ ∧ ([1] ++ [2, 3]).length < 4 ∧ 4 ≤ ([1] ++ [2, 3, 4]).length
        ∧ dealerRests (read .dead).dev ∧ readOf 7 (read (.submission 0 0 true)).dev = some ⟨7, 0, 4, [1], .submission 0 0 true, 0⟩
        ∧ dealerRests (read (.submission 0 0 true)).dev ∧ timesReads (later 100000000000 (read .dead)).dev = true
        ∧ readTimeout (later 100000000000 (read .dead)).dev ≤ 100000000000 ∧ 0 < readTimeout (read .dead).dev
        ∧ timesReads (hostOn [] (setCfg 0x098 0x10)).dev = false ∧ readOf 6 (read .dead).dev = none) := by
  unfold running dealerRests
  decide +kernel

theorem witness_UnexpectedCompletion :
    let s := hostOn [] id
    running s ∧ readOf 255 s.dev = none ∧ (page pgHep s.dev).raw.getLsbD 3 = false ∧ (page pgHep s.dev).freeze = false
      ∧ rd HEP_ERRCNT1_UNEXP s.dev < 0xFFFF := by
  unfold running
  decide +kernel

/-- A read of one block of namespace 0, fetched from submission queue 1; the device with it as context 1, a conventional namespace 0 of one
zone, both queues of two entries, and the context region at the base of SDRAM with `se` in its first bytes. -/
def cx : Ctx :=
  ⟨1, 7, false, 2, 0, 2, 0, .fetched, 0, 65535, 1, false, false, none, 0, 0, false, false, 0, 0, 0, 0, 0, [], 0, 0, [], 0, 0, false, 0,
    false, [], 0, 0⟩
def cmdAt (x : Ctx) (se : List Nat) (fs : List (Fld × Nat)) (f : Dealer → Dealer) : State :=
  dev (fun d =>
    let d := wrs ([(DRC_MAP_CHGIB, 8), (HCC_CTXBASE_ADDR, 1024), (CRY_NSBIND_VALID 0, 1), (NVME_CC_EN, 1), (NVME_CSTS_RDY, 1)] ++ fs) (up d)
    let d := { d with
      zon := { d.zon with ns := [(0, ⟨0, 1, false, false, 0, 0⟩)] }
      deal := f { d.deal with
        ctxs := [(1, some x)]
        sqs := [(1, ⟨true, 64, 2, 1, 1, 0, none⟩)]
        cqs := [(1, ⟨true, 16, 2, 0, 0, true, true, 1⟩)] } }
    if se.isEmpty then d
    else memWrite (ctxAddr 1 0 d) se none { d with mem := d.mem.fill (sdramBase / 8) (sdramBase / 8 + 0x100) })

theorem witness_ControllerAndQueues :
    let off := State.reset
    let shut := dev (wr NVME_CSTS_SHST 1)
    let on := cmdAt cx [] [(HEP_LINKSTAT_DLUP, 1)] id
    let full := cmdAt cx [] [] (fun y => { y with ctxs := (List.range 16384).map (fun i => (i, some cx)) })
    (running off ∧ isSet NVME_CC_EN off.dev = false ∧ bits 1 14 2 = 0 ∧ rd NVME_CSTS_SHST off.dev = 0)
      ∧ (rd NVME_CSTS_SHST shut.dev = 1 ∧ shut.dev.deal.ctxs = [] ∧ shut.dev.zon.jwait = []
        ∧ shut.dev.deal.blks.all (fun b => b.heldEntry || inVault b shut.dev) = true)
      ∧ (running on ∧ isSet NVME_CC_EN on.dev = true ∧ on.dev.deal.ctxs ≠ [] ∧ (2 : Nat) % 2 = 0 ∧ (sq 1 on.dev).live = true
        ∧ 1 < (sq 1 on.dev).size ∧ rd PWS_PSSTAT_STATE on.dev ≠ 4 ∧ (cq 1 on.dev).live = true ∧ 1 < (cq 1 on.dev).size
        ∧ (sq 128 on.dev).live = false ∧ (cq 128 on.dev).live = false)
      ∧ (isSet NVME_CSTS_RDY off.dev = false ∧ isSet NVME_CSTS_RDY on.dev = true ∧ on.dev.deal.stop = false ∧ on.dev.deal.ploss = false
        ∧ fetching on.dev = false ∧ nextSq on.dev = some 1 ∧ freeCtx on.dev = some 0 ∧ dealerRests on.dev ∧ linkIsUp on.dev = true
        ∧ on.dev.host.act.cmbEn = false ∧ on.dev.tst.dmaHeld = false ∧ freeTag on.dev = some 0 ∧ (sq 1 on.dev).base % 64 = 0)
      ∧ (nextSq full.dev = some 1 ∧ isSet CMD_STAT_NOFETCH full.dev = false) := by
  unfold running dealerRests
  decide +kernel

/-- Beside it: no context is free when all 16,384 are in use. -/
theorem witness_ControllerAndQueues_full :
    freeCtx (dev (fun d => { d with deal := { d.deal with ctxs := (List.range 16384).map (fun i => (i, some cx)) } })).dev = none := by
  unfold freeCtx
  rw [if_pos]
  simp [dev]

theorem witness_CommandsOnTheirWay :
    let ok := cmdAt cx [] [] id
    let op := fun (o : Nat) => cmdAt { cx with opcode := o } [] [] id
    let poor := cmdAt cx [] [] (fun y => { y with tenants := [(0, { Tenant.reset with en := true, ilev := -1 })] })
    let rich := cmdAt { cx with opcode := 1 } [] [] (fun y => { y with tenants := [(0, { Tenant.reset with en := true })] })
    (running ok ∧ ctx 1 ok.dev = some cx ∧ dealerRests ok.dev ∧ cx.stage = .fetched ∧ cx.phase = 0 ∧ earlier cx ok.dev = false
        ∧ cmdStatus cx ok.dev = 0 ∧ cmdStatus { cx with blocks := 2 } ok.dev ≠ 0 ∧ completionRoom cx ok.dev)
      ∧ (nsValid cx.ns = true ∧ bucketOk 0 poor.dev = false ∧ bucketOk 0 ok.dev = true ∧ nsSealed 0 ok.dev = false
        ∧ (∀ p ∈ ctxList ok.dev, p.2.stage ≠ .tokens) ∧ cmdStatus { cx with opcode := 1 } (op 1).dev = 0
        ∧ cmdStatus { cx with opcode := 8 } (op 8).dev = 0 ∧ cmdStatus { cx with opcode := 0 } (op 0).dev = 0
        ∧ bucketOk 0 rich.dev = true ∧ (tenant 0 rich.dev).en = true ∧ dealerRests rich.dev
        ∧ (nsEntry 0 ok.dev).zoned = false ∧ rcOn ok.dev = false ∧ ok.dev.deal.blks = [] ∧ isSet CMD_CTL_VWC (op 0).dev = false)
      ∧ (let za := { cx with opcode := 0x7D, lba := 0 }
        let s : State := { ok with dev := { ok.dev with zon := { ok.dev.zon with ns := [(0, ⟨0, 1, true, false, 1, 1⟩)] } } }
        cmdStatus za s.dev = 0 ∧ cmdStatus za ok.dev = stInvalidOpcode) := by
  unfold running dealerRests completionRoom
  decide +kernel

theorem witness_CommandsOnTheirWay_budget :
    let x := { cx with opcode := 1, stage := .budget }
    let s0 := cmdAt x [] [(BUF_WDBASE_ADDR, 0x2000000), (BUF_SDMIR_ADDR, 0x2200000), (CMD_WBBUDGET_MIB, 1)] id
    let s : State := { s0 with dev := { s0.dev with part := .a4 } }
    let big : State := { s with dev := wrs [(BUF_MIR_SIZE 0, 1), (BUF_MIRSTAT_FENCED 0, 256)] { s.dev with part := .a4b2 } }
    let places := [((wdRegion s.dev).1, sdSecond (wdRegion s.dev).1 s.dev)]
    let l := secondDies x s.dev
    running s ∧ ctx 1 s.dev = some x ∧ dealerRests s.dev ∧ budgetQueue s.dev = (1, x) :: [] ∧ psHolds s.dev = false
      ∧ neverFits l.2 l.1 = false
      ∧ l.2 = [none] ∧ budgetOk x l.1 = true ∧ roomOk l.2 l.1 = true ∧ placesOk l.2 places l.1 = true ∧ x.zrec = none
      ∧ s.dev.host.act.cmbEn = false
      ∧ (secondDies x big.dev).2 = [some 0] ∧ neverFits (secondDies x big.dev).2 (secondDies x big.dev).1 = true ∧ completionRoom x big.dev
      ∧ budgetQueue State.reset.dev = [] := by
  unfold running dealerRests completionRoom
  decide +kernel

theorem witness_CommandsOnTheirWay_accept :
    let x := { cx with opcode := 1, stage := .second }
    let b : Blk := ⟨some 1, 0, 0, 65535, none, .at 0x08100000, .at 0x08101000, [], false, false, false, 0⟩
    let s0 := cmdAt x [] [] (fun y => { y with blks := [b] })
    let s : State := { s0 with dev := { s0.dev with mem := s0.dev.mem.fill (0x08100000 / 8) (0x08102000 / 8) } }
    running s ∧ ctx 1 s.dev = some x ∧ dealerRests s.dev ∧ x.stage = .second ∧ x.zrec = none ∧ x.fua = false ∧ completionRoom x s.dev
      ∧ (rebuildWait 1 s.dev).2 = false ∧ s.dev.deal.blks = [b] ∧ openBlk 1 b = true ∧ b.c2 = .at 0x08101000 ∧ memUp 0x08101000 s.dev = true
      ∧ (firstCopies 1 (rebuildWait 1 s.dev).1).2 = true := by
  unfold running dealerRests completionRoom
  decide +kernel

theorem witness_CommandsOnTheirWay_firmware :
    let ab := { cx with admin := true, opcode := 8 }
    let y := { cx with sqid := 1, cid := 9, stage := .reading }
    let lone := cmdAt ab (List.replicate 64 0) [(CMD_FWQCTL_LOG2, 1)] id
    let pair := cmdAt ab (List.replicate 40 0 ++ [1, 0, 9, 0] ++ List.replicate 20 0) [(CMD_FWQCTL_LOG2, 1)]
      (fun z => { z with ctxs := [(0, some y), (1, some ab)] })
    let adm := { cx with admin := true, opcode := 6 }
    let id' := cmdAt adm [] [(CMD_FWQCTL_LOG2, 1)] id
    let full := cmdAt adm [] [(CMD_FWQCTL_LOG2, 1), (CMD_FWQTAIL_TAIL, 1)] id
    let n := fun (s : State) => (rd CMD_FWQHEAD_HEAD s.dev % fwqSize s.dev + 1) % fwqSize s.dev
    let named := fun (s : State) (p : Nat × Ctx) => let v := (memNat (ctxAddr 1 40 s.dev) 4 s.dev).2.getD 0
      p.2.sqid == v % 65536 && p.2.cid == v / 65536
    let done := { adm with stage := .firmware }
    (running lone ∧ ctx 1 lone.dev = some ab ∧ dealerRests lone.dev ∧ ab.stage = .fetched ∧ n lone ≠ rd CMD_FWQTAIL_TAIL lone.dev % fwqSize lone.dev
        ∧ (ctxList lone.dev).find? (named lone) = none)
      ∧ (ctx 1 pair.dev = some ab ∧ (ctxList pair.dev).find? (named pair) = some (0, y) ∧ ctx 0 pair.dev = some y ∧ y.moving = false
        ∧ completionRoom y pair.dev ∧ dealerRests pair.dev)
      ∧ (adm.hardware = false ∧ zoneEarlier 1 adm id'.dev = false ∧ ctx 1 id'.dev = some adm ∧ dealerRests id'.dev
        ∧ n id' ≠ rd CMD_FWQTAIL_TAIL id'.dev % fwqSize id'.dev ∧ n full = rd CMD_FWQTAIL_TAIL full.dev % fwqSize full.dev)
      ∧ (bits (1 + 2 ^ 15) 0 14 = 1 ∧ bits (1 + 2 ^ 15) 15 15 ≠ 0 ∧ ctx 1 (cmdAt done [] [] id).dev = some done
        ∧ completionRoom done (cmdAt done [] [] id).dev) := by
  unfold running dealerRests completionRoom
  decide +kernel

theorem witness_CommandsOnTheirWay_completion :
    let done := { cx with admin := true, opcode := 6, stage := .firmware }
    let good := cmdAt done [0] [] id
    let raw := cmdAt done [] [] id
    let ln := ctxAddr 1 0x50 raw.dev / 128
    let bad : State := { raw with dev := { raw.dev with
      mem := (raw.dev.mem.fill (sdramBase / 8) (sdramBase / 8 + 0x100)).setLine ln (poisonLine ln ((zeroLine ln).map some)) } }
    ((memNat (ctxAddr 1 0x50 good.dev) 8 good.dev).2 ≠ none ∧ ctx 1 good.dev = some done ∧ completionRoom done good.dev)
      ∧ ((memNat (ctxAddr 1 0x50 bad.dev) 8 bad.dev).2 = none ∧ ctx 1 bad.dev = some done ∧ completionRoom done bad.dev) := by
  unfold completionRoom
  decide +kernel

theorem witness_TenantsAndBilling :
    let s := State.reset
    let sn : Snap := ⟨1, 0, 0, 0, 0, [], [], 1, false⟩
    let tick := dev (fun d => { d with deal := { d.deal with tick := some 0 } })
    let busy := dev (fun d => { d with deal := { d.deal with tick := some 0, snap := some sn } })
    let rich := dev (fun d => { d with deal := { d.deal with tenants := [(254, { Tenant.reset with en := true })] } })
    let ts := cmdAt { cx with admin := true, opcode := 9, stage := .firmware } (List.replicate 40 0 ++ [0x0E] ++ List.replicate 23 0) [] id
    let lp := cmdAt { cx with admin := true, opcode := 2, stage := .firmware } (List.replicate 40 0 ++ [0xC8] ++ List.replicate 23 0) [] id
    (running s ∧ dealerRests s.dev ∧ (∀ p ∈ ctxList s.dev, p.2.stage ≠ .tokens) ∧ (tenant 254 rich.dev).en = true
        ∧ (tenant 254 s.dev).en = false)
      ∧ (s.dev.deal.tick = none ∧ busy.dev.deal.tick.isSome = true ∧ busy.dev.deal.snap.isSome = true ∧ busy.dev.deal.deferred = none
        ∧ tick.dev.deal.tick.isSome = true ∧ tick.dev.deal.snap = none ∧ rd TEN_BANKSTAT_STATE0 tick.dev = 0
        ∧ s.dev.deal.snap = none ∧ busy.dev.deal.snap = some sn)
      ∧ (bindRefused (rd CRY_NSSEL_NS s.dev) (2 ^ 10) s.dev = true ∧ bindRefused (rd CRY_NSSEL_NS s.dev) 0 s.dev = false)
      ∧ ((firmwareEntry 1 9 ts.dev).2.map (fun se => se.getD 40 0) = some 0x0E ∧ (firmwareEntry 1 9 ts.dev).1.recd.queue.length < 64
        ∧ (List.replicate 8 0).length = 8)
      ∧ ((firmwareEntry 1 2 lp.dev).2.map (fun se => (se.getD 40 0, decide (4 * (leNat ((se.drop 42).take 4) + 1) ≤ 4)))
        = some (0xC8, true)) := by
  unfold running dealerRests
  decide +kernel

/-- A usable SDRAM of one line of zeros more or less, line `ln` of it in way `w` of the hub cache, dirty or clean, and more. -/
def cached (ln w : Nat) (dirty : Bool) (fs : List (Fld × Nat)) : State :=
  dev (fun d =>
    let d := wrs ((DRC_MAP_CHGIB, 8) :: fs) (up { d with mem := d.mem.fill (sdramBase / 8) (sdramBase / 8 + 0x400) })
    setWay (setOf ln d).1 w (some ⟨ln, dirty, zeroLine ln⟩) d)
/-- An entry of the victim buffer. -/
def victim (ln : Nat) (dirty offered : Bool) (area : Option Nat) : State :=
  dev (fun d =>
    let d := wr DRC_MAP_CHGIB 8 (up d)
    { d with cache := { d.cache with vb := [⟨⟨ln, dirty, zeroLine ln⟩, offered, area, none⟩] } })

theorem witness_HubCacheOperations :
    let r := State.reset
    let ln := 0x2000001
    let c := cached ln 0 true []
    let row := (setOf ln c.dev).1
    let lk := cached ln 0 true [(HCC_LOCK_MASK, 0x8000)]
    let busy := cached ln 0 true [(HCC_RCTL_BUSY, 1)]
    (running r ∧ rd HCC_LOCK_MASK lk.dev ≠ 0 ∧ (page pgHcc lk.dev).raw.getLsbD 3 = false ∧ rd HCC_LOCK_MASK c.dev = 0
        ∧ c.dev.cache.lines = [(row * 16, some ⟨ln, true, zeroLine ln⟩)] ∧ (zeroLine ln).length = 16 ∧ redirected ln c.dev = false)
      ∧ (12 < popcount (bits 0x1FFF 0 16) 16 ∧ starvesGroup (bits 3 0 16) (cached ln 0 true [(HCC_WAYCFG_ASSOC, 3)]).dev = true
        ∧ isSet HCC_RCTL_BUSY busy.dev = true
        ∧ ¬ (12 < popcount (bits 1 0 16) 16 ∨ starvesGroup (bits 1 0 16) c.dev = true ∨ isSet HCC_RCTL_BUSY c.dev = true))
      ∧ (usable (bits 0 0 28 * 128) 128 c.dev = false ∧ usable (bits ln 0 28 * 128) 128 c.dev = true ∧ isDirect (bits ln 0 28) c.dev = false
        ∧ findWay (bits ln 0 28) c.dev = some 0
        ∧ isDirect (bits ln 0 28) (cached ln 0 true [(BUF_SDMIR_ADDR, 0x2000000)]).dev = true)
      ∧ (rd HCC_RLEN_LINES (cached ln 0 true [(HCC_RBASE_ADDR, ln), (HCC_RLEN_LINES, 1)]).dev = 1
        ∧ rangeSkips 0 ln c.dev = false ∧ rangeSkips 0 0 c.dev = true ∧ wayLine row 0 c.dev = some ⟨ln, true, zeroLine ln⟩)
      ∧ (isSet HCC_RCTL_BUSY r.dev = false ∧ lockOpOk 15 r.dev = false
        ∧ lockOpOk 15 (cached ln 0 true [(HCC_LOCK_MASK, 0x8000), (HCC_RBASE_ADDR, 0x2008000), (HCC_RLEN_LINES, 32768)]).dev
          = (((0x2008000 % 2 ^ 15, 0).2 == 15 / 16))) := by
  unfold running
  decide +kernel

theorem witness_HubCacheOperations_victims :
    let r := State.reset
    let none' := victim 0x2000001 true false none
    let clean := victim 0x102000 false false none
    let sent := victim 0x2000001 true true (some 1)
    let down := victim 0x1800000 true false none
    let b := { down.dev with regs := (wr (GLB_FLXSTAT_UP 4) 0 down.dev).regs }
    let e := fun (s : State) => s.dev.cache.vb[(0 : Fin 8).val]?
    let w0 : CLine := ⟨0x2000001, true, zeroLine 0x2000001⟩
    (r.dev.cache.vb[(7 : Fin 8).val]? = none ∧ e none' = some ⟨w0, false, none, none⟩ ∧ memUp (0x2000001 * 128) none'.dev = true)
      ∧ (e clean = some ⟨⟨0x102000, false, zeroLine 0x102000⟩, false, none, none⟩ ∧ memKind (0x102000 * 128) clean.dev ≠ some .sdram)
      ∧ (e sent = some ⟨w0, true, some 1, none⟩ ∧ redirected 0x2000001 sent.dev = false)
      ∧ (e { down with dev := b } = some ⟨⟨0x1800000, true, zeroLine 0x1800000⟩, false, none, none⟩ ∧ memUp (0x1800000 * 128) b = false)
      ∧ (fitted (.buf 1) r.dev = true ∧ fitted (.buf 1) { r.dev with part := .a2 } = false ∧ fwReady r.dev = false
        ∧ fwReady (wr CMD_CTL_FWRDY 1 r.dev) = true ∧ (BUF_CFG_VICSZ 1).allows (bits 1 0 6) = true
        ∧ rd (BUF_MIR_BASE 1) r.dev + rd (BUF_MIR_SIZE 1) r.dev + bits 1 0 6 ≤ 64 ∧ (BUF_MIR_SIZE 1).allows (bits 0x100 8 7) = true
        ∧ bits 0x100 0 6 + bits 0x100 8 7 + rd (BUF_CFG_VICSZ 1) r.dev ≤ 64) := by
  decide +kernel

theorem witness_MemoryProtection :
    let ln := 0x2000001
    let on := dev (fun d => wrs [(DRC_MAP_CHGIB, 8), (MEP_SCRCTL_EN, 1)] { d with mem := d.mem.fill (sdramBase / 8) (sdramBase / 8 + 0x400) })
    let z := zeroLine ln
    (isSet MEP_SCRCTL_EN (dev (wr MEP_SCRCTL_EN 0)).dev = false ∧ running on ∧ isSet MEP_SCRCTL_EN on.dev = true ∧ (page pgMep on.dev).raw.getLsbD 4 = false
        ∧ memKind (ln * 128) on.dev = some .sdram ∧ isSet DRC_STAT_SREF on.dev = false ∧ on.dev.mem.line ln = z.map some
        ∧ on.dev.deal.blks = [] ∧ rcOn on.dev = false ∧ wayLine 32767 15 on.dev = none)
      ∧ (lineClass ln ((flipWords [] z).map some) = .ok 0 ∧ lineClass ln ((flipWords [(15, 2 ^ 63, 0), (0, 0, 128)] z).map some) = .ok 2
        ∧ lineClass ln ((flipWords [(0, 0, 255), (1, 0, 255)] z).map some) = .poisoned
        ∧ lineClass ln ((flipWords [(3, 0, 255)] z).map some) = .newError 3 255) := by
  unfold running
  decide +kernel

theorem witness_MemoryProtection_copies :
    let bad := fun (ln : Nat) => (poisonLine ln ((zeroLine ln).map some))
    let s := fun (c2 : Copy) (fs : List (Fld × Nat)) => dev (fun d =>
      let d := wrs ((DRC_MAP_CHGIB, 8) :: fs)
        { d with mem := (d.mem.fill (sdramBase / 8) (sdramBase / 8 + 0x400)).setLine 0x2000000 (bad 0x2000000) }
      setBlks [⟨none, 1, 0, 0, none, .at sdramBase, c2, [], true, false, false, 0⟩] d)
    let lone := s .lost []
    let two := s (.at (sdramBase + 4096)) [(BUF_SDMIR_ADDR, 0x2000000)]
    running lone ∧ memUp sdramBase lone.dev = true ∧ lineBad (sdramBase / 128) lone.dev = true
      ∧ (∀ k, k < 32 → lineBad ((sdramBase + 4096) / 128 + k) lone.dev = false)
      ∧ (List.range 32).filter (fun k => lineBad (sdramBase / 128 + k) two.dev) = [0]
      ∧ lineBad ((sdramBase + 4096) / 128) two.dev = false ∧ isDirect (sdramBase / 128) two.dev = true
      ∧ isDirect ((sdramBase + 4096) / 128) two.dev = true ∧ redirected (sdramBase / 128) two.dev = false
      ∧ (page pgMep two.dev).raw.getLsbD 5 = false := by
  unfold running
  decide +kernel

theorem witness_MemoryProtection_words :
    let r := State.reset
    let on := dev (fun d => wrs [(DRC_MAP_CHGIB, 8), (MEP_TSTCTL_EN, 1), (MEP_TSTADDR_ADDR, 0x20000000)]
      { d with mem := d.mem.fill (sdramBase / 8) (sdramBase / 8 + 16) })
    let out := dev (wr MEP_TSTCTL_EN 1)
    let fw := dev (wrs [(DRC_MAP_CHGIB, 8), (CMD_CTL_FWRDY, 1), (DRC_FILLBASE_ADDR, 0x2000000), (BUF_WDBASE_ADDR, 0x2000000)])
    (isSet MEP_TSTCTL_EN r.dev = false ∧ isSet MEP_TSTCTL_EN on.dev = true ∧ isSet MEP_TSTCTL_BUSY on.dev = false
        ∧ testRefused on.dev = false ∧ testRefused out.dev = true ∧ rd MEP_TSTADDR_ADDR on.dev = 0x20000000
        ∧ on.dev.mem.word 0x20000000 = some (encWord 0 0x20000000) ∧ findWay (0x20000000 / 16) on.dev = none
        ∧ vbFind (0x20000000 / 16) on.dev = none)
      ∧ (isSet DRC_FILLCTL_BUSY r.dev = false ∧ fwReady fw.dev = true
        ∧ (dealerRegions fw.dev).any (meets (fillSpan (1 % 65536) fw.dev)) = true ∧ fwReady r.dev = false
        ∧ isSet DRC_FILLCTL_BUSY (dev (wr DRC_FILLCTL_BUSY 1)).dev = true)
      ∧ (rd PWS_PSSTAT_STATE (dev (wr PWS_PSSTAT_STATE 3)).dev = 3 ∧ rd PWS_PSSTAT_STATE r.dev ≠ 3) := by
  decide +kernel

/-- The key 0 wrapped under the key 0 (RFC 3394, AES-256), for an operation on key slot 511 in GCM mode under Verom slot 62. -/
def wrapped : List Nat :=
  [151, 49, 116, 148, 52, 56, 7, 230, 144, 253, 30, 67, 20, 19, 150, 61, 192, 227, 222, 180, 144, 127, 184, 159, 163, 108, 230, 81, 38, 208,
    234, 19, 1, 56, 31, 179, 162, 148, 30, 47]
def gcmCmd : Nat := 8 + 511 * 16 + 62 * 8192 + 62 * 524288
/-- A key operation in progress, with the lock, the usage of Verom slots 62 and 63 and the blob given. -/
def keyOp (op v use : Nat) (blob : List Nat) (f : Dev → Dev) : State :=
  { State.reset with
    otp := { State.reset.otp with verom := [(62, use), (63, use)] }
    dev := f ({ wrs [(KMU_LOCK_OWNER, 8), (KMU_STAT_BUSY, 1)] (putBlob blob State.reset.dev) with kmu := { State.reset.dev.kmu with op := some (op, v) } }) }
/-- A sealed read of one block, all eight blocks of its unit taken in with metadata `md`. -/
def unitRead (md : List Nat) (ab : Bool) : Ctx :=
  { cx with lba := 0, stage := .reading, isSealed := true, slot := 511, abort := ab, sent := 8, got := (List.range 8).map (fun j => (j, [], md, 0)) }

theorem witness_CipherAndKeys :
    let who : Who := .core 7
    let r := State.reset
    let busy := dev (wrs [(KMU_STAT_BUSY, 1), (KMU_LOCK_OWNER, 8)])
    let mine := dev (wr KMU_LOCK_OWNER 8)
    (running r ∧ ¬ (who = .host ∧ isSet GLB_HOSTACC_LOCK r.dev = true) ∧ ¬ (Who.host = .host ∧ isSet GLB_HOSTACC_LOCK (dev (wr GLB_HOSTACC_LOCK 0)).dev = true)
        ∧ isSet KMU_STAT_BUSY busy.dev = true ∧ isSet KMU_STAT_BUSY r.dev = false
        ∧ rd KMU_LOCK_OWNER r.dev ≠ ownerCode who ∧ rd KMU_LOCK_OWNER mine.dev = ownerCode who ∧ isSet KMU_STAT_BUSY mine.dev = false
        ∧ r.dev.kmu.op = none ∧ rd KMU_LOCK_OWNER r.dev = 0 ∧ (7 : Fin 15).val + 1 = ownerCode who ∧ (8 : Fin 15).val + 1 = ownerCode .host
        ∧ (14 : Fin 15).val + 1 ≠ ownerCode who)
      ∧ (promotes pgCry r.dev = false ∧ promotes pgCry (dev (onPage pgCry (fun h => { h with thresh := 1 }))).dev = true
        ∧ isSet CRY_RNGSTAT_ERR (dev (wr CRY_RNGSTAT_ERR 1)).dev = true ∧ isSet CRY_RNGSTAT_ERR r.dev = false ∧ r.dev.kmu.srcFail = false
        ∧ (dev (fun d => { d with kmu := { d.kmu with srcFail := true } })).dev.kmu.late = false
        ∧ (dev (fun d => { d with kmu := { d.kmu with srcFail := true, late := true } })).dev.kmu.late = true ∧ ctx 16383 r.dev = none) := by
  unfold running
  decide +kernel

theorem witness_CipherAndKeys_operations :
    let at' := keyOp 0 gcmCmd
    let ok := at' 1 wrapped id
    let bound := at' 1 wrapped (wrs [(CRY_NSBIND_VALID 255, 1), (CRY_NSBIND_SLOT 255, 511)])
    let noRng := at' 1 wrapped (wr CRY_RNGSTAT_ERR 1)
    let slot := bits gcmCmd 4 9
    let vs := bits gcmCmd 13 6
    let key := List.replicate 32 0
    running ok ∧ ok.dev.kmu.op = some (0, gcmCmd) ∧ bitOf gcmCmd 3 = true ∧ slot = 511 ∧ vs = 62 ∧ bits gcmCmd 19 6 = 62
      ∧ (at' 0 [] id).otp.usage 62 ≠ 1 ∧ ok.otp.usage 62 = 1 ∧ (at' 2 [] id).otp.usage vs = 2 ∧ (at' 2 [] id).otp.usage (vs + 1) = 2
      ∧ (at' 3 [] id).otp.usage vs = 3 ∧ bitOf (gcmCmd - 8) 3 = false ∧ bits (gcmCmd + 8192) 13 6 % 2 = 1 ∧ vs % 2 = 0
      ∧ slotBusy slot ok.dev = false ∧ slotBusy slot bound.dev = true ∧ halvesEqual true key = false
      ∧ halvesEqual false (List.replicate 64 0) = true ∧ halvesEqual false (1 :: List.replicate 63 0) = false
      ∧ cipherOk ok.dev = true ∧ cipherOk noRng.dev = false := by
  unfold running
  decide +kernel

theorem witness_CipherAndKeys_unwrap :
    let s := keyOp 0 gcmCmd 1 wrapped id
    let bad := keyOp 0 gcmCmd 1 [] id
    kwUnwrap (s.otp.veromKey 62) (blobBytes 40 s.dev) = some (List.replicate 32 0)
      ∧ kwUnwrap (bad.otp.veromKey 62) (blobBytes 40 bad.dev) = none := by
  decide +kernel

theorem witness_CipherAndKeys_units :
    let s := fun x => cmdAt x [] [] id
    let ok := unitRead [] false
    let no := unitRead [1] false
    running (s ok) ∧ ctx 1 (s ok).dev = some ok ∧ completionRoom ok (s ok).dev ∧ ok.isSealed = true ∧ ok.stage = .reading
      ∧ ok.sent = 8 * (firstUnit ok + ok.units + 1) ∧ unitPasses ok (firstUnit ok + ok.units) (s ok).dev = true ∧ ok.abort = false
      ∧ firstUnit ok + ok.units = lastUnit ok ∧ (unitRead [] true).abort = true
      ∧ unitPasses no (firstUnit no + no.units) (s no).dev = false ∧ completionRoom no (s no).dev
      ∧ no.lba ≤ 0 ∧ 0 < no.lba + no.blocks := by
  unfold running completionRoom
  decide +kernel

theorem witness_KmuLockExpires :
    let held := fun (t : Nat) (busy : Nat) => dev (fun d => { wrs [(KMU_LOCK_OWNER, 8), (KMU_STAT_BUSY, busy)] d with time := t })
    let due := held (10 * auxPerMs) 0
    running due ∧ rd KMU_LOCK_OWNER due.dev ≠ 0 ∧ isSet KMU_STAT_BUSY due.dev = false
      ∧ due.dev.kmu.lockAt + 10 * auxPerMs ≤ due.dev.time ∧ (page pgKmu due.dev).raw.getLsbD 2 = false
      ∧ (page pgKmu due.dev).freeze = false ∧ rd KMU_CNT_EXPIRED due.dev < 0xFFFF
      ∧ isSet KMU_STAT_BUSY (held 0 1).dev = true ∧ (held (10 * auxPerMs - 1) 0).dev.time < due.dev.kmu.lockAt + 10 * auxPerMs
      ∧ ¬ (Who.core 0 = .host ∧ isSet GLB_HOSTACC_LOCK due.dev = true) ∧ rd KMU_LOCK_OWNER due.dev ≠ ownerCode (.core 0) := by
  unfold running
  decide +kernel

/-- A recorder with a partition of two blocks, the second the spare, and more; the page ready where asked. -/
def recorder (ready : Bool) (fs : List (Fld × Nat)) (f : Recorder → Recorder) : State :=
  dev (fun d => onPage pgLog (fun h => { h with ready := ready })
    (wrs fs { d with recd := f { Recorder.reset with size := 0x12000, dirOk := true, fixed := true, spare := 1 } }))
def aRec : LogRec := ⟨0x1000, 4, []⟩
/-- The first block full: one valid record, the rest torn. -/
def fullSlots : Store LogSlot := (0, .valid 5 1 0 3 0x1000 []) :: (List.range 63).map (fun k => (k + 1, .torn))

theorem witness_EventRecorder :
    let off := recorder false [] (fun x => { x with dirOk := false })
    let e := recorder false [] id
    let one := recorder false [(PWS_RSTSTAT_POR, 1)] (fun x => { x with slots := [(63, .valid 0xFFFFFFFE 1 0 3 0x1000 [])] })
    let sc := recorder false [(LOG_STAT_SCANNING, 1)] id
    (running off ∧ off.dev.recd.dirOk = false ∧ (page pgLog (recorder true [] id).dev).ready = true
        ∧ isSet LOG_STAT_NOERASE (recorder false [(LOG_STAT_NOERASE, 1)] id).dev = true)
      ∧ (e.dev.recd.dirOk = true ∧ isSet LOG_STAT_SCANNING e.dev = false ∧ isSet LOG_STAT_NOERASE e.dev = false
        ∧ (page pgLog e.dev).ready = false ∧ e.dev.recd.slots = [] ∧ isSet PWS_RSTSTAT_POR one.dev = true
        ∧ (logRecs one.dev.recd).getLast? = some ⟨63, 0xFFFFFFFE, 1, 0, 3, 0x1000, []⟩)
      ∧ (isSet LOG_STAT_SCANNING sc.dev = true ∧ sc.dev.recd.queue.length < 63 ∧ (page pgLog e.dev).raw.getLsbD 0 = false) := by
  unfold running
  decide +kernel

theorem witness_EventRecorder_appends :
    let ready := fun f => recorder true [(LOG_CTL_MODE, 0)] f
    let ctr := ready (fun x => { x with ctrDue := true, counted := true })
    let q := ready (fun x => { x with queue := [aRec] })
    let full := ready (fun x => { x with queue := [aRec], slots := fullSlots })
    let low := ready (fun x => { x with queue := [{ aRec with sev := 2 }], slots := fullSlots })
    let busy := ready (fun x => { x with nor := some (.counter false) })
    running q ∧ busy.dev.recd.nor.isSome = true ∧ ctr.dev.recd.nor = none ∧ isSet LOG_STAT_NOERASE ctr.dev = false
      ∧ ctr.dev.recd.ctrDue = true ∧ ctr.dev.recd.counted = true ∧ (ready id).dev.recd.queue = [] ∧ q.dev.recd.ctrDue = false
      ∧ (page pgLog q.dev).ready = true ∧ isSet LOG_STAT_STOPPED q.dev = false ∧ q.dev.deal.ploss = false ∧ q.dev.recd.queue = aRec :: []
      ∧ nextSlot q.dev.recd none = some 0 ∧ nextSlot full.dev.recd none = none ∧ full.dev.recd.spare ≠ noBlock
      ∧ logVictim aRec.sev full.dev = some ⟨0, 5, 1, 0, 3, 0x1000, []⟩ ∧ nextSlot low.dev.recd none = none ∧ logVictim 2 low.dev = none := by
  unfold running
  decide +kernel

theorem witness_EventRecorder_operations :
    let op := fun (n : NorOp) (f : Recorder → Recorder) => recorder true [(LOG_CTL_MODE, 0)] (fun x => f { x with nor := some n })
    let body := op (.body 0 1 0 0 aRec false) id
    let again := op (.body 0 1 0 0 aRec true) id
    let mark := op (.mark 0 0xFFFFFFFE 0 0 aRec false) id
    let copy := op (.copy 0 0 9 0 0 aRec false) (fun x => { x with slots := fullSlots })
    let x := body.dev.recd
    running body ∧ State.reset.dev.recd.nor = none ∧ body.dev.recd.nor = some (.body 0 1 0 0 aRec false)
      ∧ again.dev.recd.nor = some (.body 0 1 0 0 aRec true) ∧ promotes pgLog again.dev = false
      ∧ nextSlot { x with slots := Store.put .free 0 .torn x.slots } (some 0) = some 1
      ∧ (page pgLog body.dev).raw.getLsbD 3 = false
      ∧ mark.dev.recd.nor = some (.mark 0 0xFFFFFFFE 0 0 aRec false)
      ∧ copy.dev.recd.nor = some (.copy 0 0 9 0 0 aRec false) ∧ copy.dev.recd.spare ≠ 0
      ∧ (copyOut 0 0 copy.dev.recd.spare copy.dev.recd).length < 64
      ∧ (op (.counter true) id).dev.recd.nor = some (.counter true) := by
  unfold running
  decide +kernel

theorem witness_EventRecorder_modes :
    let native := recorder true [(LOG_CTL_MODE, 0)] (fun x => { x with slots := [(0, .valid 5 1 0 3 0x1000 [])], base := 0x2000 })
    let wait := recorder false [(LOG_CTL_MODE, 1)] (fun x => { x with fixed := false })
    let v := 0x1000 + 4 * 2 ^ 16 + 2 ^ 24
    (isSet LOG_CTL_MODE wait.dev = true ∧ isSet LOG_CTL_MODE native.dev = false ∧ (page pgLog native.dev).ready = true
        ∧ (page pgLog native.dev).lock = false ∧ (logRecs native.dev.recd).head? = some ⟨0, 5, 1, 0, 3, 0x1000, []⟩
        ∧ native.dev.recd.queue.length < 64)
      ∧ (bitOf 0 24 = false ∧ bitOf v 24 = true ∧ bits (v - 1) 0 16 < 0x1000 ∧ bitOf (v - 1) 24 = true ∧ 0x1000 ≤ bits v 0 16
        ∧ (page pgLog native.dev).raw.getLsbD 5 = false)
      ∧ (native.dev.recd.fixed = true ∧ 0x1FFF < native.dev.recd.base + native.dev.recd.size
        ∧ native.dev.recd.base < 0x1FFF + 2 ∧ 0x1FFF + 1 ≤ native.dev.recd.base ∧ wait.dev.recd.fixed = false) := by
  decide +kernel

theorem witness_LogReading :
    let s := recorder true [] (fun x => { x with slots := [(0, .valid 5 1 0 3 0x1000 [])] })
    running s ∧ isSet LOG_RDSTAT_BUSY s.dev = false
      ∧ (logRecs s.dev.recd).find? (fun f => decide (5 % 2 ^ 32 ≤ f.seq)) = some ⟨0, 5, 1, 0, 3, 0x1000, []⟩
      ∧ (logRecs s.dev.recd).find? (fun f => decide (6 % 2 ^ 32 ≤ f.seq)) = none := by
  unfold running
  decide +kernel

def thm (fs : List (Fld × Nat)) (f : Thermal → Thermal) : State := dev (fun d => wrs fs { d with thm := f d.thm })

theorem witness_ThermalStates :
    let r := State.reset
    let hot := thm [(THM_STAT_STEP, 3)] (fun x => { x with relStep := 1000 })
    let cold := thm [(THM_STAT_COLDSTOP, 1), (THM_STAT_PREHEAT, 1)] (fun x => { x with relCold := 1000, relPre := 1000 })
    let bad := thm [] (fun x => { x with badRun := [(47, rd THM_THRCTL_EXCLT r.dev * 1000)] })
    let held := fun g => thm [(THM_STAT_HOLD, 1)] (fun x => { x with holdBy := some 47, goodRun := [(47, g)] })
    let crit := thm [] (fun x => { x with critRun := 2 })
    (running r ∧ fitted (sensorDie 47) r.dev = true ∧ sensing 47 (up r.dev) = true ∧ sensing 47 r.dev = false
        ∧ countTrimmed ([34879].getD 0 0 % 65536) r.dev < 3488000000000 ∧ 4960000000000 < countTrimmed ([49601].getD 0 0 % 65536) r.dev
        ∧ isSet (THM_TS_EXCL 47) (thm [(THM_TS_EXCL 47, 1)] id).dev = true)
      ∧ (rd THM_STAT_STEP hot.dev = 3 ∧ isSet THM_STAT_HOLD hot.dev = false ∧ 1000 ≤ hot.dev.thm.relStep ∧ rd THM_STAT_STEP r.dev = 0
        ∧ isSet THM_STAT_COLDSTOP cold.dev = true ∧ 1000 ≤ cold.dev.thm.relCold ∧ isSet THM_STAT_PREHEAT cold.dev = true
        ∧ 1000 ≤ cold.dev.thm.relPre)
      ∧ (isSet (THM_TS_EXCL 47) bad.dev = false ∧ rd THM_THRCTL_EXCLT bad.dev * 1000 ≤ Store.get 0 47 bad.dev.thm.badRun
        ∧ ¬ (rd THM_THRCTL_EXCLT r.dev * 1000 ≤ Store.get 0 47 r.dev.thm.badRun))
      ∧ ((held 16).dev.thm.holdBy = some 47 ∧ 16 ≤ Store.get 0 47 (held 16).dev.thm.goodRun ∧ Store.get 0 47 (held 15).dev.thm.goodRun < 16
        ∧ r.dev.thm.holdBy = none)
      ∧ (isSet THM_STAT_LATCHED r.dev = false ∧ r.dev.thm.critRun < 2 ∧ r.dev.thm.noneRun < 2 ∧ 2 ≤ crit.dev.thm.critRun ∧ dieUp (.arm 3) (up crit.dev) = true
        ∧ isSet THM_STAT_LATCHED (thm [(THM_STAT_LATCHED, 1)] id).dev = true) := by
  unfold running
  decide +kernel

/-- Beside it: a conversion of the hub's sensors at 75 °C, with HOT1 at that temperature, and one that finds no valid sensor. -/
theorem witness_ThermalStates_conversions :
    let s := dev (wrInt THM_THR1_HOT1 300)
    let t := conversion (List.replicate 12 43200) s.dev
    rd (THM_TS_VALID 0) t ≠ 0 ∧ hotThr 1 t ≤ rdInt (THM_TS_TEMP 0) t ∧ t.thm.noneRun = 0 := by
  decide +kernel

theorem witness_ThermalStates_none :
    let t := conversion [] State.reset.dev
    ∀ n, n < 48 → rd (THM_TS_VALID n) t = 0 := by
  decide +kernel

def pws (fs : List (Fld × Nat)) (f : PowerStates → PowerStates) : State := dev (fun d => wrs fs { d with pws := f d.pws })

theorem witness_PowerStatesAndResets :
    let r := State.reset
    let v := 2 + 8
    let busy := pws [(PWS_PSSTAT_BUSY, 1)] id
    let full := dev (wr CMD_WBUSE_USED 1)
    let pl := dev (fun d => { d with deal := { d.deal with ploss := true } })
    running r ∧ bits v 0 3 ≤ 4 ∧ bitOf v 3 = true ∧ bitOf 2 3 = false ∧ psBusy busy.dev = true ∧ psState busy.dev < bits v 0 3
      ∧ 2 ≤ bits v 0 3 ∧ ¬ (psState busy.dev < bits 8 0 3 ∧ 2 ≤ bits 8 0 3) ∧ psBusy r.dev = false ∧ isSet CMD_WBUSE_USED full.dev = true
      ∧ psState full.dev < 2 ∧ isSet CMD_WBUSE_USED r.dev = false ∧ trumpBusy pl.dev = true ∧ isSet CMD_WBUSE_USED pl.dev = false
      ∧ trumpBusy r.dev = false ∧ bits 8 0 3 = psState r.dev
      ∧ saveBaseOk (pws [(PWS_SAVEBASE_ADDR, 0x2000000), (DRC_MAP_CHGIB, 8)] id).dev = true ∧ Part.a2.bufs = 0 := by
  unfold running
  decide +kernel

theorem witness_PowerStatesAndResets_transitions :
    let two := pws [(PWS_PSSTAT_BUSY, 1), (PWS_PSSTAT_STATE, 3)] (fun p => { p with goal := 4 })
    let back := pws [(PWS_PSSTAT_BUSY, 1), (PWS_PSSTAT_STATE, 2)] (fun p => { p with goal := 1 })
    let wait := pws [(PWS_PSSTAT_BUSY, 1), (PWS_PSSTAT_STATE, 2)] (fun p => { p with goal := 3 })
    let four := dev (fun d => onCore 7 (fun c => { c with pend := [(0, 4)] }) (wr PWS_PSSTAT_STATE 4 d))
    legDone two.dev = true ∧ psState two.dev < 4 ∧ two.dev.pws.goal = psState two.dev + 1 ∧ dealerRests two.dev
      ∧ legDone back.dev = true ∧ psState back.dev = back.dev.pws.goal + 1 ∧ psState back.dev ≤ 2 ∧ dealerRests back.dev
      ∧ legDone wait.dev = false ∧ ¬ (psState wait.dev = 3 ∧ wait.dev.pws.goal < 3 ∧ spState wait.dev = spFailed)
      ∧ psState four.dev = 4 ∧ (core 7 four.dev).pend ≠ [] ∧ psState State.reset.dev ≠ 4 := by
  unfold dealerRests
  decide +kernel

theorem witness_PowerStatesAndResets_saves :
    let due := pws [(PWS_PSSTAT_STATE, 2), (PWS_SAVEBASE_ADDR, 0x2000000), (DRC_MAP_CHGIB, 8), (PWS_PSSTAT_BUSY, 1)] (fun p => { p with goal := 3 })
    let back := dev (fun d => { wrs [(PWS_PSSTAT_STATE, 3), (PWS_PSSTAT_BUSY, 1)] d with redirect := true, pws := { d.pws with goal := 2 } })
    psBusy due.dev = true ∧ psState due.dev = 2 ∧ 3 ≤ due.dev.pws.goal ∧ due.dev.part.bufs ≠ 0 ∧ due.dev.pws.saved = false
      ∧ saveBaseOk due.dev = true ∧ psBusy State.reset.dev = false ∧ psBusy back.dev = true ∧ psState back.dev = 3 ∧ back.dev.pws.goal ≤ 2
      ∧ back.dev.redirect = true ∧ linksSettled back.dev = true := by
  decide +kernel

theorem witness_PowerStatesAndResets_quiesce :
    let r := State.reset
    let q := pws [] (fun p => { p with quiesce := some 0 })
    let late := dev (fun d => { d with time := 1500 * auxPerMs, pws := { d.pws with quiesce := some 0 } })
    let on := dev (fun d => { wrs [(SRV_STAT_STATE 3, svFollow)] (up d) with pws := { d.pws with quiesce := some 0 } })
    let lost := dev (fun d => { d with deal := { d.deal with ploss := true } })
    let overDue := dev (fun d => { d with pws := { d.pws with quiesce := some 0 }, recd := { d.recd with counted := true } })
    (q.dev.pws.quiesce.isSome = true ∧ r.dev.pws.quiesce = none ∧ r.dev.deal.ploss = false ∧ isSet THM_STAT_LATCHED r.dev = false
        ∧ isSet TST_STAT_UNLOCKED r.dev = false)
      ∧ (late.dev.pws.quiesce = some 0 ∧ late.dev.pws.late = false ∧ 0 + 1500 * auxPerMs ≤ late.dev.time)
      ∧ (on.dev.pws.quiesce = some 0 ∧ quiesceOver on.dev = true ∧ fitted (.arm 3) on.dev = true ∧ dieUp (.arm 3) on.dev = true
        ∧ servoOn 3 on.dev = true ∧ quiesceOver lost.dev = false)
      ∧ (overDue.dev.pws.quiesce = some 0 ∧ quiesceOver overDue.dev = true ∧ (∀ n, n < 4 → servo n overDue.dev = svParked)
        ∧ mustRetain overDue.dev = false ∧ overDue.dev.recd.counted = true) := by
  decide +kernel

/-- A device with both vault areas of one zone, on arms 0 and 3, and more. -/
def vaulted (fs : List (Fld × Nat)) (f : Vault → Vault) : State :=
  dev (fun d =>
    let d := wrs ([(BRK_VAULT_ARMS, 9), (GLB_VLTAREA_NZONES 0, 1), (GLB_VLTAREA_NZONES 1, 1)] ++ fs) (up d)
    { d with vault := f d.vault })
def mark9 : VEntry := ⟨9, 0, 3, false, 0, [], [], leBytes 0 8 ++ leBytes 7 8 ++ leBytes 0 8⟩

theorem witness_VaultFlushAndReplay :
    let r := State.reset
    let want := fun (w : FlushWhy) (d : Dev) => { d with vault := { d.vault with want := [w] } }
    let can := vaulted [] (fun v => { v with want := [.powerLoss] })
    let burst := { can with dev := onArm 0 (fun a => { a with raws := [⟨0, 0, 0, 0, 0, 0, 0⟩] }) can.dev }
    let endOf := fun m n => vaulted [] (fun v => { v with run := some .powerLoss, need := n, marks := m })
    let full := vaulted [] (fun v => { v with run := some .powerLoss, need := 1, placed := [(0, 65536)], passed := [(0, 65536)] })
    (running r ∧ r.dev.vault.want = [] ∧ r.dev.vault.run = none ∧ can.dev.vault.run = none ∧ can.dev.vault.want = .powerLoss :: []
        ∧ burstsOpen burst.dev = true ∧ burstsOpen can.dev = false ∧ canVault (want .quiesce r.dev) = false
        ∧ (want (.armLost 0) r.dev).vault.want = .armLost 0 :: [] ∧ canVault can.dev = true ∧ jnlCount can.dev = 0 ∧ can.dev.deal.blks = [])
      ∧ ((endOf 0 1).dev.vault.run.isSome = true ∧ (endOf 0 1).dev.vault.need.testBit (0 : Fin 2) = true
        ∧ (endOf 0 1).dev.vault.marks.testBit (0 : Fin 2) = false ∧ areaPassed 0 (endOf 0 1).dev = areaPlaced 0 (endOf 0 1).dev
        ∧ areaTakes 0 1 (endOf 0 1).dev = true ∧ (0 ||| 2 ^ (0 : Fin 2).val) &&& 1 = 1 ∧ ¬ ((0 ||| 2 ^ (0 : Fin 2).val) &&& 3 = 3)
        ∧ areaTakes 0 1 full.dev = false ∧ areaPassed 0 full.dev = areaPlaced 0 full.dev)
      ∧ (fwReady r.dev = false ∧ isSet GLB_VLTCTL_BUSY r.dev = false ∧ isSet PWS_RSTSTAT_RETAIN r.dev = false ∧ r.dev.zon.jwait = []
        ∧ isSet ZON_CTL_VALID r.dev = false ∧ r.dev.vault.area0 = [] ∧ r.dev.vault.area1 = []
        ∧ fwReady (wr CMD_CTL_FWRDY 1 r.dev) = true
        ∧ (let e := vaulted [] (fun v => { v with area0 := [mark9], written := [(0, 1)] })
          e.dev.vault.area0 = [mark9] ∧ mark9.kind = 3 ∧ vaultReadable [] 0 mark9.start e.dev = true ∧ e.dev.vault.area1 = []
            ∧ leNat ((mark9.sum.drop 8).take 8) ≠ 0 ∧ fwReady e.dev = false ∧ isSet GLB_VLTCTL_BUSY e.dev = false))
      ∧ (r.dev.vault.replay = false ∧ (vaulted [] (fun v => { v with replay := true, foundInc := true, foundCsn := 1 })).dev.vault.replay = true)
      ∧ (let due := dev (fun d => { wr GLB_VLTSTAT_EMPTY 0 d with zon := { d.zon with jnext := some 0 } })
        due.dev.zon.jnext.isSome = true ∧ isSet GLB_VLTCTL_BUSY due.dev = false ∧ (∀ b ∈ due.dev.deal.blks, b.replayed = false ∧ b.heldEntry = false)
          ∧ due.dev.vault.left = 0 ∧ flushIdle due.dev = true ∧ isSet GLB_VLTSTAT_EMPTY due.dev = false ∧ r.dev.zon.jnext = none)
      ∧ (let j := dev (wrs [(GLB_JNLHEAD_HEAD, 1), (GLB_JNLTAIL_TAIL, 131071)])
        (1 % 131072 + 131072 - rd GLB_JNLTAIL_TAIL j.dev) % 131072 ≤ jnlCount j.dev ∧ j.dev.zon.jwait = [] ∧ dealerRests j.dev
          ∧ jnlCount j.dev < (2 % 131072 + 131072 - rd GLB_JNLTAIL_TAIL j.dev) % 131072) := by
  unfold running dealerRests
  decide +kernel

def tst (fs : List (Fld × Nat)) (f : TestState → TestState) : State := dev (fun d => wrs fs { d with tst := f d.tst })

theorem witness_TestAndJtag :
    let s : State := { dev (wr GLB_HOSTACC_LOCK 1) with otp := { State.reset.otp with testDisabled := false } }
    let blown : State := { s with otp := { s.otp with testDisabled := true } }
    let armed := fun (t : Nat) => dev (fun d => { wr TST_STAT_ARMED 1 d with time := t, tst := { d.tst with armBy := ownerCode (.core 7) } })
    let open' := tst [(TST_STAT_UNLOCKED, 1)] id
    (running s ∧ isSet GLB_HOSTACC_LOCK s.dev = true ∧ ¬ (Who.core 7 = .host ∧ isSet GLB_HOSTACC_LOCK s.dev = true)
        ∧ blown.otp.testDisabled = true ∧ ¬ (s.otp.testDisabled = true ∨ (page pgTst s.dev).lock = true) ∧ isSet TST_STAT_ARMED s.dev = false
        ∧ 0x7E57 % 65536 = 0x7E57 ∧ (0x7E58 : Nat) % 65536 ≠ 0x7E57)
      ∧ (isSet TST_STAT_ARMED (armed auxPerMs).dev = true ∧ (armed auxPerMs).dev.tst.armBy = ownerCode (.core 7)
        ∧ (armed auxPerMs).dev.tst.armOver = false ∧ (armed auxPerMs).dev.time - (armed auxPerMs).dev.tst.armAt ≤ auxPerMs
        ∧ (armed auxPerMs).dev.tst.armAt + auxPerMs ≤ (armed auxPerMs).dev.time
        ∧ ¬ ((armed (auxPerMs + 1)).dev.time - (armed (auxPerMs + 1)).dev.tst.armAt ≤ auxPerMs)
        ∧ (page pgTst (armed auxPerMs).dev).lock = false)
      ∧ (isSet TST_STAT_UNLOCKED s.dev = false ∧ isSet TST_STAT_UNLOCKED open'.dev = true ∧ dealerRests open'.dev) := by
  unfold running dealerRests
  decide +kernel

theorem witness_TestAndJtag_controls :
    let open' := tst [(TST_STAT_UNLOCKED, 1)] id
    let bp := fun h => tst [(TST_DMABP_DUTY, 1), (TST_DMABP_WR, 1)] (fun t => { t with dmaHeld := h })
    let e : OutTlp := .cqe 0 0 1 0 0 0 0
    let out := fun (fs : List (Fld × Nat)) (h : Bool) => dev (fun d =>
      { wrs ((TST_CQDLY_DELAY, 1) :: fs) (up d) with host := { d.host with out := [e] }, tst := { d.tst with dmaHeld := h }, time := auxPerUs })
    (fitted (.arm 3) open'.dev = true ∧ servo 3 open'.dev = svParked ∧ bits (8) 4 8 + costNow 3 open'.dev ≤ budgetNow 3 open'.dev
        ∧ ¬ (bits (8 + 16 * 255) 4 8 + costNow 3 open'.dev ≤ budgetNow 3 open'.dev) ∧ Nat.testBit (8) 3 = true)
      ∧ (isSet TST_DMABP_DUTY (bp false).dev = true ∧ isSet TST_DMABP_WR (bp false).dev = true ∧ isSet TST_DMABP_DUTY State.reset.dev = false
        ∧ (bp true).dev.tst.dmaHeld = true ∧ dealerRests (bp true).dev ∧ State.reset.dev.tst.dmaHeld = false)
      ∧ ((out [] false).dev.host.out = e :: [] ∧ cqeDelayed (out [] false).dev = true ∧ postedHeld (out [] false).dev = false
        ∧ cqeDelayed State.reset.dev = false ∧ postedHeld (out [(TST_DMABP_WR, 1)] true).dev = true
        ∧ (out [] false).dev.host.headAt + rd TST_CQDLY_DELAY (out [] false).dev * auxPerUs ≤ (out [] false).dev.time
        ∧ dieUp (.arm 3) (out [] false).dev = true)
      ∧ (spState State.reset.dev = spStopped ∧ spState (dev (wr SPN_STAT_STATE spCoast)).dev ≠ spStopped
        ∧ (255 : Fin 256).val ∉ [1, 2, 3, 4, 5, 0x10] ∧ (0x10 : Fin 256).val ∈ [1, 2, 3, 4, 5, 0x10]) := by
  unfold dealerRests
  decide +kernel

end Sys2Proof.Machine.Tests
end

/-! Settling O14: the host clause of `RegisterAccesses` against a window commit in progress (R235). -/
namespace Sys2Proof.Machine

/-- While a window commit is in progress a request to BAR0 only joins those that wait for the new mapping (R235). -/
theorem barRequest_during_commit {s : State} (up : linkIsUp s.dev = true) (busy : isSet HEP_WINCOMMIT_BUSY s.dev = true)
    (off n : Nat) (data : Option Nat) (env : RegEnv) :
    barRequest off n data env s
      = inDev (fun d => { d with host := { d.host with held := d.host.held ++ [.bar off n data env] } }) s := by
  simp [barRequest, up, busy]

/-- So a register write of the host has no answer yet: the Unsupported Request of a locked device comes with the installation. -/
theorem registerWrite_host_during_commit_ur {s t : State} (run : running s) (up : linkIsUp s.dev = true)
    (busy : isSet HEP_WINCOMMIT_BUSY s.dev = true) {off v : Nat} {size : MemSize} {env : RegEnv}
    (next : exec (.registerWrite .host off size v env) s = .next t) : t.dev.ur = s.dev.ur := by
  have waits : exec (.registerWrite .host off size v env) s = .next (barRequest off size.bytes (some v) env s) :=
    onState_running run _
  rw [barRequest_during_commit up busy, next] at waits
  obtain rfl := Host.Outcome.next.inj waits
  rfl

/-- The device right after reset with its PCI Express link up (R218). -/
def linkedAfterReset : State := { State.reset with dev := dlUp 4 false State.reset.dev }

/-- That device with a window commit begun (R235): the host lock is set from its fuse (R225), as in every production part. -/
def commitAfterReset : State := { linkedAfterReset with dev := windowCommit linkedAfterReset.dev }

/-- Two commands lead there from reset. -/
theorem commitAfterReset_reached :
    exec (.dlUp 4 false) State.reset = .next linkedAfterReset ∧ exec .windowCommit linkedAfterReset = .next commitAfterReset :=
  have reset_runs : running State.reset := by unfold running; decide +kernel
  have linked_runs : running linkedAfterReset := by unfold running; decide +kernel
  ⟨onDev_running reset_runs _, onDev_running linked_runs _⟩

theorem commitAfterReset_flags :
    running commitAfterReset ∧ isSet GLB_HOSTACC_LOCK commitAfterReset.dev = true
      ∧ isSet HEP_LINKSTAT_DLUP commitAfterReset.dev = true ∧ isSet HEP_WINCOMMIT_BUSY commitAfterReset.dev = true
      ∧ commitAfterReset.dev.ur = false := by
  unfold running
  decide +kernel

/-- Refutes O14: its host clause leaves out the window commit of R235. With the lock set and the link up, a host access that
arrives while HEP_WINCOMMIT.BUSY = 1 waits for the new mapping and is no Unsupported Request in its own step.
`commitAfterReset_reached` shows that the state is one the device comes to from reset. -/
theorem not_registerAccesses : ¬ Obligations.RegisterAccesses := by
  unfold Obligations.RegisterAccesses
  intro h
  obtain ⟨run, lock, up, busy, noUr⟩ := commitAfterReset_flags
  obtain ⟨-, -, -, -, -, -, -, hostLocked⟩ :=
    h commitAfterReset 0 0x100000 0 ⟨0, [], [], true, []⟩ [] run (by decide) (by decide)
  obtain ⟨⟨t, next, ur, -⟩, -⟩ := hostLocked lock up
  have kept : t.dev.ur = commitAfterReset.dev.ur := registerWrite_host_during_commit_ur run up busy next
  simp [ur, noUr] at kept

end Sys2Proof.Machine

/-! Settling O17 (R15, R16, R18). What runs on the side when a link goes down or a copy is made again, the caches, the vault and the
arm's units, leaves alone the links, the registers up to the links' status, and the dealer with its requests to the host. -/
namespace Sys2Proof.Machine

/-! ## What stays -/

/-- From `d` to `e` the links, the registers before GLB_FLXERR (those of NVMe and GLB_FLXSTAT among them), the dealer and the requests
that wait for the host stay. -/
structure LinksKept (d e : Dev) : Prop where
  links : e.links = d.links
  low : ∀ g : Fld, g.key < 0x1000A0 * 32 → rd g e = rd g d
  deal : e.deal = d.deal
  todo : e.host.todo = d.host.todo

namespace LinksKept

theorem refl (d : Dev) : LinksKept d d := ⟨rfl, fun _ _ => rfl, rfl, rfl⟩

theorem trans {a b c : Dev} (h : LinksKept a b) (k : LinksKept b c) : LinksKept a c :=
  ⟨k.links.trans h.links, fun g hg => (k.low g hg).trans (h.low g hg), k.deal.trans h.deal, k.todo.trans h.todo⟩

/-! Updates of other parts of the device -/

theorem recd (x : Recorder) (d : Dev) : LinksKept d { d with recd := x } := ⟨rfl, fun _ _ => rfl, rfl, rfl⟩
theorem cores (x : Store Core) (d : Dev) : LinksKept d { d with cores := x } := ⟨rfl, fun _ _ => rfl, rfl, rfl⟩
theorem mem (x : Memory) (d : Dev) : LinksKept d { d with mem := x } := ⟨rfl, fun _ _ => rfl, rfl, rfl⟩
theorem cache (x : Cache) (d : Dev) : LinksKept d { d with cache := x } := ⟨rfl, fun _ _ => rfl, rfl, rfl⟩
theorem hands (x : Store Hand) (d : Dev) : LinksKept d { d with hands := x } := ⟨rfl, fun _ _ => rfl, rfl, rfl⟩
theorem workNext (x : Nat) (d : Dev) : LinksKept d { d with workNext := x } := ⟨rfl, fun _ _ => rfl, rfl, rfl⟩
theorem pws (x : PowerStates) (d : Dev) : LinksKept d { d with pws := x } := ⟨rfl, fun _ _ => rfl, rfl, rfl⟩
theorem onPage (b : Nat) (f : PageHdr → PageHdr) (d : Dev) : LinksKept d (onPage b f d) := ⟨rfl, fun _ _ => rfl, rfl, rfl⟩
theorem onVault (f : Vault → Vault) (d : Dev) : LinksKept d (onVault f d) := ⟨rfl, fun _ _ => rfl, rfl, rfl⟩
theorem onArm (n : Nat) (f : Arm → Arm) (d : Dev) : LinksKept d (onArm n f d) := ⟨rfl, fun _ _ => rfl, rfl, rfl⟩

/-! Choices and repetitions -/

theorem ite {p : Prop} [Decidable p] {d a b : Dev} (ha : LinksKept d a) (hb : LinksKept d b) : LinksKept d (if p then a else b) := by
  split
  · exact ha
  · exact hb

theorem when' {f : Dev → Dev} (hf : ∀ d, LinksKept d (f d)) (b : Bool) (d : Dev) : LinksKept d (when' b f d) := ite (hf d) (refl d)

theorem foldl {α : Type} {f : Dev → α → Dev} (hf : ∀ d a, LinksKept d (f d a)) (l : List α) (d : Dev) : LinksKept d (l.foldl f d) :=
  List.foldlRecOn (motive := LinksKept d) l f (refl d) (fun e h a _ => h.trans (hf e a))

theorem each {f : Nat → Dev → Dev} (hf : ∀ k d, LinksKept d (f k d)) (n : Nat) (d : Dev) : LinksKept d (each n f d) :=
  foldl (fun d k => hf k d) _ d

/-! ## Registers, headers, events -/

/-- A register of GLB_FLXERR or after it is written. -/
theorem wr (f : Fld) (v : Nat) (d : Dev) (h : 0x1000A0 ≤ f.off) : LinksKept d (wr f v d) :=
  ⟨rfl, fun g hg => rd_wr_ne (by unfold Fld.key at *; omega) v d, rfl, rfl⟩

theorem wrs (fs : List (Fld × Nat)) (d : Dev) (h : ∀ p ∈ fs, 0x1000A0 ≤ p.1.off) : LinksKept d (wrs fs d) := by
  induction fs generalizing d with
  | nil => exact refl d
  | cons p fs ih =>
    exact (wr p.1 p.2 d (h p List.mem_cons_self)).trans (ih _ fun q hq => h q (List.mem_cons_of_mem p hq))

theorem clrBit (f : Fld) (k : Nat) (d : Dev) (h : 0x1000A0 ≤ f.off) : LinksKept d (clrBit f k d) :=
  ite (wr f _ d h) (refl d)

end LinksKept

/-- An MSI-X message waits behind what the host is asked for; it changes none of it. -/
theorem msixSend_todo (v e : Nat) (h : HostSide) : (msixSend v e h).todo = h.todo := by
  unfold msixSend
  simp only
  split
  · rfl
  · split <;> rfl

namespace LinksKept

theorem deliver (e sev mask : Nat) (d : Dev) : LinksKept d (deliver e sev mask d) := by
  refine ⟨rfl, fun _ _ => rfl, rfl, ?_⟩
  simp only [Machine.deliver]
  split
  · exact msixSend_todo _ _ _
  · rfl

theorem raiseDrop (d : Dev) : LinksKept d (raiseDrop d) := by
  unfold Machine.raiseDrop
  split
  · have sent := (deliver (evBase pgLog + 1) (rd (EVT_ROUTE_SEV (evBase pgLog + 1)) d)
      (rd (EVT_ROUTE_CORES (evBase pgLog + 1)) d) d).trans (onPage pgLog (fun h => { h with stat := h.stat ||| evMask 1 }) _)
    exact ite (sent.trans (recd _ _)) sent
  · exact onPage _ _ d

theorem queueRec (r : LogRec) (d : Dev) : LinksKept d (queueRec r d) := by
  unfold Machine.queueRec
  simp only
  split
  · exact (recd _ d).trans (raiseDrop _)
  · exact recd _ d

theorem occur (b k : Nat) (own : Option (Nat × List Nat)) (d : Dev) : LinksKept d (occur b k own d) := by
  have sent : ∀ (go : Bool) (e sev : Nat) (m : Dev → Nat), LinksKept d
      (if go then Machine.deliver e sev (m (noteStat b k d)) (noteStat b k d) else noteStat b k d) := fun go e sev m =>
    (onPage b _ d).trans (ite (deliver e sev _ _) (refl _))
  unfold Machine.occur
  simp only
  split
  · exact (sent _ _ _ _).trans (queueRec _ _)
  · exact (sent _ _ _ _).trans (ite (queueRec _ _) (refl _))

theorem raise (b k : Nat) (d : Dev) : LinksKept d (raise b k d) := ite (refl d) (occur b k none d)

theorem setRaw (b k : Nat) (v : Bool) (d : Dev) : LinksKept d (setRaw b k v d) :=
  ite (ite (refl d) ((occur b k none d).trans (onPage b _ _))) (onPage b _ d)

theorem bumpEv (b : Nat) (f : Fld) (k n : Nat) (d : Dev) (h : 0x1000A0 ≤ f.off) : LinksKept d (bumpEv b f k n d) :=
  ite (refl d) (ite ((wr f _ d h).trans (raise b k _)) (wr f _ d h))

theorem bump (b : Nat) (f : Fld) (n : Nat) (d : Dev) (h : 0x1000A0 ≤ f.off) : LinksKept d (bump b f n d) :=
  ite (refl d) (wr f _ d h)

theorem errClass (b : Nat) {act : Dev → Dev} (ha : ∀ d, LinksKept d (act d)) (d : Dev) : LinksKept d (errClass b act d) :=
  ite ((onPage b _ d).trans (ha _)) (onPage b _ d)

theorem reason (k : Nat) (d : Dev) : LinksKept d (reason k d) := ite (refl d) ((wr _ _ d (by decide)).trans (raise pgGlb 5 _))

/-! ## The hub cache and the memories behind it -/

theorem touch (row w : Nat) (d : Dev) : LinksKept d (touch row w d) := ite (refl d) (cache _ d)

theorem setWay (row w : Nat) (l : Option CLine) (d : Dev) : LinksKept d (setWay row w l d) := cache _ d

theorem wakeSdram (ln : Nat) (d : Dev) : LinksKept d (wakeSdram ln d) := ite (wr _ _ d (by decide)) (refl d)

theorem homeWrite (ln : Nat) (ws : List Cw) (d : Dev) : LinksKept d (homeWrite ln ws d) :=
  (wakeSdram ln d).trans (ite ((mem _ _).trans (mem _ _)) (mem _ _))

theorem vbErase (k : Nat) (d : Dev) : LinksKept d (vbErase k d) := cache _ d

theorem vbOffer (k : Nat) (repl : Option Nat) (d : Dev) : LinksKept d (vbOffer k repl d) := by
  have offered : ∀ e, LinksKept d (vbSet k e d) := fun _ => cache _ d
  unfold Machine.vbOffer
  split
  · exact refl d
  · refine ite (refl d) (ite (ite (offered _) (refl d)) ?_)
    split
    · exact vbErase k d
    · exact ite (offered _) ((vbErase k d).trans (bumpEv _ _ _ _ _ (by decide)))

theorem areaPut (b ln : Nat) (ws : List Cw) (repl : Option Nat) (d : Dev) : LinksKept d (areaPut b ln ws repl d) :=
  (cache _ d).trans ((bumpEv _ _ _ _ _ (by decide)).trans (when' (raise pgBuf 0) _ _))

theorem vbAccept (k : Nat) (d : Dev) : LinksKept d (vbAccept k d) := by
  unfold Machine.vbAccept
  split
  · exact refl d
  next e _ =>
    have home := (vbErase k d).trans (when' (homeWrite e.line.ln e.line.ws) e.line.dirty _)
    refine ite (refl d) ?_
    split
    · exact home.trans (ite (areaPut _ _ _ _ _) (refl _))
    · exact home

theorem vbDrain (d : Dev) : LinksKept d (vbDrain d) := by
  have settled : ∀ k e, LinksKept e (vbSettle k e) := fun k e =>
    (vbOffer k none e).trans (ite (refl _) (vbAccept k _))
  refine ite (refl d) ?_
  simp only
  split
  · exact raise pgHcc 4 d
  · exact (raise pgHcc 4 d).trans (settled _ _)

theorem vbPush (l : CLine) (d : Dev) : LinksKept d (vbPush l d) := cache _ d

theorem noteFixed (k : MemKind) (n : Nat) (d : Dev) : LinksKept d (noteFixed k n d) :=
  ite (refl d) (ite (((bumpEv _ _ _ _ d (by decide)).trans (raise pgMep 0 _)).trans (raise pgDrc 0 _))
    ((bumpEv _ _ _ _ d (by decide)).trans (raise pgMep 0 _)))

theorem cleanWay (w : Nat) (d : Dev) : LinksKept d (cleanWay w d) := by
  have out : ∀ (l : CLine) (e : Dev), LinksKept e (writeOut l e) := fun l e => ite (homeWrite l.ln l.ws e) (vbPush l e)
  refine foldl (fun e p => ite ?_ (refl e)) _ d
  split
  next l _ => exact (when' (out l) l.dirty e).trans (setWay _ _ _ _)
  · exact refl e

theorem fenceWay (w : Nat) (d : Dev) : LinksKept d (fenceWay w d) :=
  ((ite (refl d) ((cleanWay w d).trans (wr _ _ _ (by decide)))).trans (raise pgHcc 5 _)).trans (reason 4 _)

theorem fenceBlock (a : Nat) (d : Dev) : LinksKept d (fenceBlock a d) := by
  have counted : ∀ e, LinksKept e (Machine.wr (BUF_MIRSTAT_FENCED (bufDieOf a)) (rd (BUF_MIRSTAT_FENCED (bufDieOf a)) e + 256) e) :=
    fun e => wr _ _ e (Nat.le_add_right_of_le (by decide))
  exact ((ite (refl d) ((cache _ d).trans (when' counted _ _))).trans (raise pgBuf 2 _)).trans (reason 4 _)

theorem fenceRank (a : Nat) (d : Dev) : LinksKept d (fenceRank a d) :=
  ((wr _ _ d (by decide)).trans (onPage pgDrc _ _)).trans (raise pgDrc 2 _)

theorem lastingMep (d : Dev) : LinksKept d (lastingMep d) :=
  ((onPage pgMep _ d).trans (raise pgMep 7 _)).trans (reason 4 _)

theorem noteError (kind : MemKind) (way ln k synd : Nat) (scrub : Bool) (d : Dev) :
    LinksKept d (noteError kind way ln k synd scrub d) := by
  have counted : ∀ e, LinksKept e (Machine.bumpEv pgMep (if kind = .sdram then MEP_UECNT_SDRAM else MEP_UECNT_SRAM) 9 1 e) :=
    fun e => bumpEv _ _ _ _ e (by split <;> decide)
  have logged := ((wrs [(MEP_ERRLOG0_ADDR, (ln * 128 + 8 * k) / 8), (MEP_ERRLOG1_SYND, synd), (MEP_ERRLOG1_MEM, kind.code),
    (MEP_ERRLOG1_SCRUB, if scrub then 1 else 0), (MEP_ERRLOG1_WORD, k)] d (by simp; decide)).trans (counted _)).trans (raise pgMep 1 _)
  match kind with
  | .local => exact logged.trans (errClass pgMep lastingMep _)
  | .hubCache => exact logged.trans (errClass pgHcc (fenceWay way) _)
  | .buffer => exact logged.trans (errClass pgBuf (fenceBlock _) _)
  | .sdram => exact (logged.trans (raise pgDrc 1 _)).trans (errClass pgDrc (fenceRank _) _)

theorem homeRead (ln : Nat) (scrub : Bool) (d : Dev) : LinksKept d (homeRead ln scrub d).1 := by
  unfold Machine.homeRead
  simp only
  split
  · exact (wakeSdram ln d).trans (noteFixed _ _ _)
  · exact wakeSdram ln d
  · exact ((wakeSdram ln d).trans (noteError _ _ _ _ _ _ _)).trans (ite (homeWrite _ _ _) (refl _))

theorem makeRoom (ln : Nat) (d : Dev) : LinksKept d (makeRoom ln d).1 := by
  unfold Machine.makeRoom
  simp only
  split
  · exact refl d
  · split
    · exact ((vbDrain d).trans (setWay _ _ _ _)).trans (vbPush _ _)
    · exact vbDrain d

theorem install (l : CLine) (d : Dev) : LinksKept d (install l d) := by
  have room := makeRoom l.ln d
  unfold Machine.install
  split
  next e row w h => exact ((h ▸ room).trans (setWay _ _ _ _)).trans (touch _ _ _)
  next e h => exact (h ▸ room).trans (when' (homeWrite l.ln l.ws) _ _)

theorem fetch (ln : Nat) (d : Dev) : LinksKept d (fetch ln d) := by
  have fromHome : ∀ e, LinksKept e (Machine.install ⟨ln, false, (Machine.homeRead ln false e).2.1⟩ (Machine.homeRead ln false e).1) :=
    fun e => (homeRead ln false e).trans (install _ _)
  have missed := bumpEv pgHcc HCC_MISSCNT_MISSES 6 1 d (by decide)
  unfold Machine.fetch
  split
  · exact (bumpEv _ _ _ _ d (by decide)).trans (touch _ _ _)
  simp only
  split
  · split
    · exact missed.trans (((vbErase _ _).trans (bumpEv _ _ _ _ _ (by decide))).trans (install _ _))
    · exact missed
  split
  · exact missed.trans (ite ((cache _ _).trans ((bumpEv _ _ _ _ _ (by decide)).trans (install _ _))) (fromHome _))
  · exact missed.trans (fromHome _)

theorem lineRead (ln : Nat) (d : Dev) : LinksKept d (lineRead ln d).1 := by
  have found := fetch ln d
  unfold Machine.lineRead
  split
  · exact homeRead ln false d
  simp only
  split
  · exact found.trans (homeRead ln false _)
  split
  · exact found.trans (homeRead ln false _)
  split
  · exact found.trans (noteFixed _ _ _)
  · exact found
  · exact (found.trans (noteError _ _ _ _ _ _ _)).trans (ite (setWay _ _ _ _) (refl _))

theorem lineStore (ln : Nat) (ws : List Cw) (writer : Option Nat) (d : Dev) : LinksKept d (lineStore ln ws writer d) := by
  have inval : LinksKept d (dInval ln writer d) := cores _ d
  refine ite (inval.trans (homeWrite _ _ _)) ?_
  split
  · exact (inval.trans (setWay _ _ _ _)).trans (touch _ _ _)
  · refine (inval.trans ?_).trans (install _ _)
    split
    · exact ((vbErase _ _).trans (bumpEv pgHcc HCC_VICCNT_REINST 6 1 _ (by decide))).trans (cache _ _)
    · exact cache _ _

theorem memRead (a n : Nat) (d : Dev) : LinksKept d (memRead a n d).1 := by
  refine List.foldlRecOn (motive := fun st : Dev × Option (List Nat) => LinksKept d st.1) _ _ (refl d) (fun st h p _ => ?_)
  simp only
  split
  · exact (h.trans (lineRead _ _)).trans (raise pgMep 2 _)
  · exact h.trans (lineRead _ _)

theorem copyLines (a b : Nat) (d : Dev) : LinksKept d (copyLines a b d) :=
  each (fun _ e => (lineRead _ e).trans (lineStore _ _ _ _)) 32 d

/-! ## The hands and the vault (R18, R375, R379) -/

theorem setHand (n : Nat) (h : Hand) (d : Dev) : LinksKept d (setHand n h d) :=
  (hands _ d).trans ((wr (CMD_HAND_DEPTH n) _ _ (Nat.le_add_right_of_le (by decide))).trans
    (wr (CMD_HAND_TRUMP n) _ _ (Nat.le_add_right_of_le (by decide))))

theorem zoneGet (r : Nat) (d : Dev) : LinksKept d (zoneGet r d).1 := by
  unfold Machine.zoneGet
  split
  · exact refl d
  · split
    · exact refl d
    · exact memRead _ _ d

theorem pushVault (a p n : Nat) (d : Dev) : LinksKept d (pushVault a p n d) := by
  unfold Machine.pushVault
  split
  · exact refl d
  · exact foldl (fun e r => ite (refl e) ((zoneGet _ e).trans ((workNext _ _).trans (setHand _ _ _)))) _ d

theorem placeEntry (a : Nat) (e : VEntry) (d : Dev) : LinksKept d (placeEntry a e d) :=
  ((onVault _ d).trans (onVault _ _)).trans (pushVault _ _ _ _)

theorem flushFailed (d : Dev) : LinksKept d (flushFailed d) :=
  (pws _ d).trans ((onVault _ _).trans ((each (fun n e => setHand n _ e) 4 _).trans
    ((wr GLB_VLTCTL_BUSY _ _ (by decide)).trans (reason 3 _))))

theorem vaultReroute (n : Nat) (d : Dev) : LinksKept d (vaultReroute n d) := by
  unfold Machine.vaultReroute
  split
  · refine ((onVault _ d).trans (setHand n _ _)).trans (ite (flushFailed _) ((onVault _ _).trans (foldl (fun e x => ?_) _ _)))
    exact ite (refl e) (ite (placeEntry _ _ e) (flushFailed e))
  · exact refl d

/-! ## The units of an arm (R92, R103, R187) -/

theorem calStat (n : Nat) (d : Dev) : LinksKept d (calStat n d) := by
  unfold Machine.calStat
  exact (wr (CAL_STAT_RUNNING n) _ d (Nat.le_add_right_of_le (by decide))).trans (onPage _ _ _)

theorem calEnd (n k : Nat) (d : Dev) : LinksKept d (calEnd n k d) := (onArm n _ d).trans (calStat n _)

theorem calAbandonKind (n k : Nat) (d : Dev) : LinksKept d (calAbandonKind n k d) := by
  unfold Machine.calAbandonKind
  split
  · exact refl d
  · exact ite (refl d) (((ite (wr (CAL_STAT_PEND n) _ _ (Nat.le_add_right_of_le (by decide))) (refl d)).trans
      (ite (onArm n _ _) (calEnd n k _))).trans (raise _ 3 _))

theorem calAbandon (n : Nat) (d : Dev) : LinksKept d (calAbandon n d) := each (calAbandonKind n) 4 d

theorem gateOff (n : Nat) (d : Dev) : LinksKept d (gateOff n d) :=
  (onArm n _ d).trans (wr (ALK_STAT_WG n) _ _ (Nat.le_add_right_of_le (by decide)))

theorem breakBurst (n : Nat) (d : Dev) : LinksKept d (breakBurst n d) := by
  unfold Machine.breakBurst
  exact (gateOff n d).trans (onArm n _ _)

theorem inhibitSet (n k : Nat) (d : Dev) : LinksKept d (inhibitSet n k d) :=
  ite (refl d) (((each (fun _ e => onArm n _ e) 2 d).trans (wr (WRP_WISTAT_SRC n) _ _ (Nat.le_add_right_of_le (by decide)))).trans
    (setRaw _ 4 _ _))

theorem inhibitNow (n k : Nat) (d : Dev) : LinksKept d (inhibitNow n k d) := (breakBurst n d).trans (inhibitSet n k _)

theorem inhibitLift (n k : Nat) (d : Dev) : LinksKept d (inhibitLift n k d) :=
  ((onArm n _ d).trans (clrBit (WRP_WISTAT_SRC n) _ _ (Nat.le_add_right_of_le (by decide)))).trans (setRaw _ 4 _ _)

theorem ladderAbandon (n : Nat) (d : Dev) : LinksKept d (ladderAbandon n d) := by
  have stat : ∀ e, LinksKept e (ladStat n e) := fun e => by
    unfold ladStat
    simp only
    split <;> exact wrs _ e (by simp [RCH_LADSTAT_ACTIVE, RCH_LADSTAT_RUNG, RCH_LADSTAT_PENDSEC, RCH_LADSTAT_ELAPSED]; omega)
  exact ((onArm n _ d).trans (stat _)).trans (setHand n _ _)

/-- The counts of the held blocks follow. -/
theorem countUse (d : Dev) : LinksKept d (countUse d) :=
  (wr CMD_WBUSE_USED _ d (by decide)).trans (each (fun b e => wr (BUF_MIRSTAT_USED b) _ e (Nat.le_add_right_of_le (by decide))) 2 _)

end LinksKept

/-! ## Error classes (R41): occurrences of events count no error -/

/-- From `d` to `e` no error class changes, and no time passes. -/
def SameErrors (d e : Dev) : Prop :=
  e.time = d.time ∧ ∀ b, (page b e).err = (page b d).err ∧ (page b e).window = (page b d).window ∧ (page b e).thresh = (page b d).thresh

namespace SameErrors

theorem refl (d : Dev) : SameErrors d d := ⟨rfl, fun _ => ⟨rfl, rfl, rfl⟩⟩

theorem trans {a b c : Dev} (h : SameErrors a b) (k : SameErrors b c) : SameErrors a c := by
  refine ⟨k.1.trans h.1, fun p => ?_⟩
  obtain ⟨he, hw, ht⟩ := h.2 p
  obtain ⟨ke, kw, kt⟩ := k.2 p
  exact ⟨ke.trans he, kw.trans hw, kt.trans ht⟩

theorem ite {p : Prop} [Decidable p] {d a b : Dev} (ha : SameErrors d a) (hb : SameErrors d b) : SameErrors d (if p then a else b) := by
  split
  · exact ha
  · exact hb

theorem each {f : Nat → Dev → Dev} (hf : ∀ k d, SameErrors d (f k d)) (n : Nat) (d : Dev) : SameErrors d (each n f d) :=
  List.foldlRecOn (motive := SameErrors d) _ _ (refl d) (fun e h k _ => h.trans (hf k e))

theorem of_pages {d e : Dev} (pages : e.pages = d.pages) (time : e.time = d.time) : SameErrors d e :=
  ⟨time, fun b => by simp [page, pages]⟩

theorem wr (f : Fld) (v : Nat) (d : Dev) : SameErrors d (wr f v d) := of_pages rfl rfl
theorem recd (x : Recorder) (d : Dev) : SameErrors d { d with recd := x } := of_pages rfl rfl
theorem deliver (e sev mask : Nat) (d : Dev) : SameErrors d (deliver e sev mask d) := of_pages rfl rfl
theorem onArm (n : Nat) (f : Arm → Arm) (d : Dev) : SameErrors d (onArm n f d) := of_pages rfl rfl

/-- A change of a header that spares its error class. -/
theorem onPage (b : Nat) (f : PageHdr → PageHdr) (d : Dev)
    (hf : ∀ h, (f h).err = h.err ∧ (f h).window = h.window ∧ (f h).thresh = h.thresh) :
    SameErrors d (onPage b f d) := by
  refine ⟨rfl, fun p => ?_⟩
  by_cases hp : p = b
  · subst hp
    rw [page_onPage]
    exact hf _
  · simp [page_onPage_ne hp]

/-- The next error promotes a class or does not, as before. -/
theorem promotes {d e : Dev} (h : SameErrors d e) (b : Nat) : promotes b e = promotes b d := by
  obtain ⟨time, same⟩ := h
  obtain ⟨err, window, thresh⟩ := same b
  simp only [Machine.promotes, nowMs, err, window, thresh, time]

theorem noteStat (b k : Nat) (d : Dev) : SameErrors d (noteStat b k d) := onPage b _ d fun _ => ⟨rfl, rfl, rfl⟩

theorem raiseDrop (d : Dev) : SameErrors d (raiseDrop d) := by
  unfold Machine.raiseDrop
  split
  · have sent := (deliver (evBase pgLog + 1) (rd (EVT_ROUTE_SEV (evBase pgLog + 1)) d)
      (rd (EVT_ROUTE_CORES (evBase pgLog + 1)) d) d).trans (noteStat pgLog 1 _)
    exact ite (sent.trans (recd _ _)) sent
  · exact noteStat pgLog 1 d

theorem queueRec (r : LogRec) (d : Dev) : SameErrors d (queueRec r d) := by
  unfold Machine.queueRec
  exact ite ((recd _ d).trans (raiseDrop _)) (recd _ d)

theorem raise (b k : Nat) (d : Dev) : SameErrors d (raise b k d) :=
  ite (refl d) (((noteStat b k d).trans (ite (deliver _ _ _ _) (refl _))).trans (ite (queueRec _ _) (refl _)))

/-- A condition begins or ends. -/
theorem setRaw (b k : Nat) (v : Bool) (d : Dev) : SameErrors d (setRaw b k v d) := by
  cases v with
  | false => exact onPage b (fun h => { h with raw := h.raw &&& ~~~ evMask k }) d fun _ => ⟨rfl, rfl, rfl⟩
  | true =>
    by_cases on : (page b d).raw.getLsbD k = true
    · simpa [Machine.setRaw, on] using refl d
    · have occurs : SameErrors d (occur b k none d) := by simpa [Machine.raise, on] using raise b k d
      simpa [Machine.setRaw, on] using occurs.trans
        (onPage b (fun h => { h with raw := h.raw ||| evMask k }) _ fun _ => ⟨rfl, rfl, rfl⟩)

theorem inhibitSet (n k : Nat) (d : Dev) : SameErrors d (inhibitSet n k d) :=
  ite (refl d) (((each (fun _ e => onArm n _ e) 2 d).trans (wr (WRP_WISTAT_SRC n) _ _)).trans (setRaw _ 4 _ _))

theorem breakBurst (n : Nat) (d : Dev) : SameErrors d (breakBurst n d) := by
  unfold Machine.breakBurst
  exact ((onArm n _ d).trans (wr (ALK_STAT_WG n) 0 _)).trans (onArm n _ _)

theorem inhibitNow (n k : Nat) (d : Dev) : SameErrors d (inhibitNow n k d) := (breakBurst n d).trans (inhibitSet n k _)

theorem inhibitLift (n k : Nat) (d : Dev) : SameErrors d (inhibitLift n k d) :=
  ((onArm n _ d).trans (ite (wr (WRP_WISTAT_SRC n) _ _) (refl _))).trans (setRaw _ 4 _ _)

theorem bump (b : Nat) (f : Fld) (n : Nat) (d : Dev) : SameErrors d (bump b f n d) := ite (refl d) (wr f _ d)

end SameErrors

/-! ## A link's registers -/

theorem flxUp_congr {d e : Dev} {k : Nat} (h : rd (GLB_FLXSTAT_UP k) e = rd (GLB_FLXSTAT_UP k) d) : flxUp k e = flxUp k d := by
  simp [flxUp, isSet, h]

theorem flxUp_of_kept {d e : Dev} (h : LinksKept d e) {k : Nat} (hk : k < 7) : flxUp k e = flxUp k d :=
  flxUp_congr (h.low _ (by simp only [Fld.key, GLB_FLXSTAT_UP]; omega))

theorem link_congr {d e : Dev} (h : e.links = d.links) (l : Nat) : link l e = link l d := by simp [link, h]

@[simp] theorem link_onLink (l : Nat) (f : Link → Link) (d : Dev) : link l (onLink l f d) = f (link l d) := by simp [onLink]

theorem rd_onLink (g : Fld) (l : Nat) (f : Link → Link) (d : Dev) : rd g (onLink l f d) = rd g d := rfl

theorem rd_up_setLanes (l lanes : Nat) (d : Dev) : rd (GLB_FLXSTAT_UP l) (setLanes l lanes d) = b2n (lanes != 0) := by
  simp only [setLanes, wrs]
  rw [rd_wr_ne, rd_wr_ne, rd_wr]
  · cases lanes != 0 <;> rfl
  all_goals simp [Fld.key, GLB_FLXSTAT_UP, GLB_FLXSTAT_LANES, GLB_FLXSTAT_DEGRADED]

theorem rd_lanes_setLanes (l lanes : Nat) (d : Dev) : rd (GLB_FLXSTAT_LANES l) (setLanes l lanes d) = lanes % 16 := by
  simp only [setLanes, wrs]
  rw [rd_wr_ne, rd_wr]
  · rfl
  · simp [Fld.key, GLB_FLXSTAT_LANES, GLB_FLXSTAT_DEGRADED]

theorem rd_degraded_setLanes (l lanes : Nat) (d : Dev) :
    rd (GLB_FLXSTAT_DEGRADED l) (setLanes l lanes d) = b2n (lanes != 0 && decide (lanes < builtLanes l)) := by
  simp only [setLanes, wrs, rd_wr]
  cases lanes != 0 && decide (lanes < builtLanes l) <;> rfl

/-- The other links' registers stay. -/
theorem rd_up_setLanes_ne {k l : Nat} (h : k ≠ l) (lanes : Nat) (d : Dev) :
    rd (GLB_FLXSTAT_UP k) (setLanes l lanes d) = rd (GLB_FLXSTAT_UP k) d := by
  simp only [setLanes, wrs]
  rw [rd_wr_ne, rd_wr_ne, rd_wr_ne]
  all_goals simp only [Fld.key, GLB_FLXSTAT_UP, GLB_FLXSTAT_LANES, GLB_FLXSTAT_DEGRADED, ne_eq]; omega

/-! ## A link goes down (R16 to R18) -/

/-- What the loss of a buffer die does leaves the links and their registers. -/
theorem bufLost_links (b : Nat) (d : Dev) : (bufLost b d).links = d.links := (LinksKept.countUse _).links

theorem rd_bufLost {g : Fld} (hg : g.key < 0x1000A0 * 32) (b : Nat) (d : Dev) : rd g (bufLost b d) = rd g d :=
  (LinksKept.countUse _).low g hg

/-- What follows a link's loss: in the device where `l` is down, its event raised and its training ended. -/
def linkCut (l : Nat) (d : Dev) : Dev := raise pgGlb (8 + l) (onLink l (fun x => { x with training := false }) (setLanes l 0 d))

theorem linkDown_arm {l n : Nat} (h : dieAt l = .arm n) (d : Dev) : LinksKept (linkCut l d) (linkDown l d) := by
  simp only [linkDown, h]
  exact (((LinksKept.inhibitNow n 9 _).trans (LinksKept.calAbandon n _)).trans (LinksKept.ladderAbandon n _)).trans
    (LinksKept.vaultReroute n _)

theorem linkDown_buf {l b : Nat} (h : dieAt l = .buf b) (d : Dev) : linkDown l d = bufLost b (linkCut l d) := by
  simp only [linkDown, h, linkCut]

theorem linkDown_power {l : Nat} (h : dieAt l = .power) (d : Dev) : LinksKept (setCfs (linkCut l d)) (linkDown l d) := by
  simp only [linkDown, h]
  exact LinksKept.when' LinksKept.flushFailed _ _

/-- A link that goes down changes no record of a link but its own, whose training ends. -/
theorem linkDown_links (l : Nat) (d : Dev) : (linkDown l d).links = (onLink l (fun x => { x with training := false }) d).links := by
  have cut : (linkCut l d).links = (onLink l (fun x => { x with training := false }) d).links := raise_links _ _ _
  cases h : dieAt l with
  | arm n => exact (linkDown_arm h d).links.trans cut
  | buf b => rw [linkDown_buf h, bufLost_links, cut]
  | power => exact (linkDown_power h d).links.trans cut
  | hub => simp only [linkDown, h]; exact cut

/-- And of GLB_FLXSTAT only its own. -/
theorem rd_up_linkDown {k : Nat} (hk : k < 7) (l : Nat) (d : Dev) :
    rd (GLB_FLXSTAT_UP k) (linkDown l d) = rd (GLB_FLXSTAT_UP k) (setLanes l 0 d) := by
  have key : (GLB_FLXSTAT_UP k).key < 0x1000A0 * 32 := by simp only [Fld.key, GLB_FLXSTAT_UP]; omega
  have cut : rd (GLB_FLXSTAT_UP k) (linkCut l d) = rd (GLB_FLXSTAT_UP k) (setLanes l 0 d) := rd_raise _ _ _ _
  cases h : dieAt l with
  | arm n => exact ((linkDown_arm h d).low _ key).trans cut
  | buf b => rw [linkDown_buf h, rd_bufLost key, cut]
  | power =>
    have cfs : rd (GLB_FLXSTAT_UP k) (setCfs (linkCut l d)) = rd (GLB_FLXSTAT_UP k) (linkCut l d) :=
      rd_wr_ne (by simp only [Fld.key, GLB_FLXSTAT_UP, NVME_CSTS_CFS]; omega) _ _
    exact ((linkDown_power h d).low _ key).trans (cfs.trans cut)
  | hub => simp only [linkDown, h]; exact cut

theorem flxUp_linkDown_same (l : LinkId) (d : Dev) : flxUp l (linkDown l d) = false := by
  simp [flxUp, isSet, rd_up_linkDown l.isLt, rd_up_setLanes, b2n]

theorem flxUp_linkDown_ne {k l : Nat} (hk : k < 7) (h : k ≠ l) (d : Dev) : flxUp k (linkDown l d) = flxUp k d :=
  flxUp_congr ((rd_up_linkDown hk l d).trans (rd_up_setLanes_ne h 0 d))

/-- Without the power die the dealer sets CSTS.CFS. -/
theorem linkDown_power_cfs (d : Dev) : rd NVME_CSTS_CFS (linkDown 6 d) = 1 :=
  ((linkDown_power rfl d).low _ (by decide)).trans (rd_wr NVME_CSTS_CFS 1 _)

/-- After a training that times out the link is neither up nor in training. -/
theorem trainingTimeout_down (l : LinkId) (d : Dev) :
    flxUp l (trainingTimeout l d) = false ∧ (link l (trainingTimeout l d)).training = false := by
  unfold trainingTimeout
  by_cases up : flxUp l (onLink l (fun x => { x with training := false }) d) = true
  · simp only [up, if_true]
    exact ⟨flxUp_linkDown_same l _, by rw [link_congr (linkDown_links _ _), link_onLink]⟩
  · simp only [up]
    exact ⟨Bool.eq_false_iff.mpr up, by simp⟩

/-! ## A link comes up (R16, R17) -/

/-- The link and its registers at `lanes`, before the events and the error class of a retrain. -/
def linkAt (l lanes : Nat) (d : Dev) : Dev := onLink l (fun x => { x with everUp := true, training := false }) (setLanes l lanes d)

/-- An error that does not promote its class is counted and does nothing else. -/
theorem errClass_counts {b : Nat} {d : Dev} (h : promotes b d = false) (act : Dev → Dev) : errClass b act d = countErr b d := by
  simp [errClass, h]

/-- The event of a new width: `full`, not the first training, another width than before. -/
def widthEvent (l : Nat) (full first other : Bool) (d : Dev) : Dev :=
  if !full && other then raise pgGlb (16 + l) d else if full && other && !first then raise pgGlb (24 + l) d else d

/-- The inhibits of an arm whose link is back (R103). -/
def armReturns (l : Nat) (d : Dev) : Dev :=
  match dieAt l with
  | .arm n => when' (isSet THM_STAT_COLDSTOP d) (inhibitNow n 7) (inhibitLift n 9 d)
  | _ => d

/-- A training: the registers, the event of the width, the inhibits; after the first one a retrain is counted and is an error. -/
theorem linkTrained_eq (l lanes : Nat) (d : Dev) :
    linkTrained l lanes d =
      let e := armReturns l (widthEvent l (lanes == builtLanes l) (!(link l d).everUp) (rd (GLB_FLXSTAT_LANES l) d != lanes)
        (linkAt l lanes d))
      if !(link l d).everUp then e else linkClass l (bump pgGlb (GLB_FLXERR_RETRAIN l) 1 e) := rfl

theorem widthEvent_kept (l : Nat) (full first other : Bool) (d : Dev) :
    LinksKept d (widthEvent l full first other d) ∧ SameErrors d (widthEvent l full first other d) :=
  ⟨.ite (.raise _ _ d) (.ite (.raise _ _ d) (.refl d)), .ite (.raise _ _ d) (.ite (.raise _ _ d) (.refl d))⟩

theorem armReturns_kept (l : Nat) (d : Dev) : LinksKept d (armReturns l d) ∧ SameErrors d (armReturns l d) := by
  unfold armReturns
  split
  next n _ =>
    exact ⟨(LinksKept.inhibitLift n 9 d).trans (.when' (.inhibitNow n 7) _ _),
      (SameErrors.inhibitLift n 9 d).trans (.ite (.inhibitNow n 7 _) (.refl _))⟩
  · exact ⟨.refl d, .refl d⟩

/-- A training whose retrain promotes no error class leaves the links as it set them. -/
theorem linkTrained_kept (l lanes : Nat) (d : Dev) (h : (link l d).everUp = false ∨ promotes pgGlb d = false) :
    LinksKept (linkAt l lanes d) (linkTrained l lanes d) := by
  obtain ⟨event, eventErrors⟩ := widthEvent_kept l (lanes == builtLanes l) (!(link l d).everUp)
    (rd (GLB_FLXSTAT_LANES l) d != lanes) (linkAt l lanes d)
  obtain ⟨back, backErrors⟩ := armReturns_kept l (widthEvent l (lanes == builtLanes l) (!(link l d).everUp)
    (rd (GLB_FLXSTAT_LANES l) d != lanes) (linkAt l lanes d))
  rw [linkTrained_eq]
  by_cases first : (link l d).everUp = false
  · simpa [first] using event.trans back
  · have quiet : promotes pgGlb d = false := h.resolve_left first
    have atLink : SameErrors d (linkAt l lanes d) := .of_pages rfl rfl
    have errors := (atLink.trans (eventErrors.trans backErrors)).trans (.bump pgGlb (GLB_FLXERR_RETRAIN l) 1 _)
    have retrain := (event.trans back).trans (.bump pgGlb (GLB_FLXERR_RETRAIN l) 1 _ (Nat.le_add_right_of_le (by decide)))
    rw [if_neg (by simp [first]), linkClass, errClass_counts ((errors.promotes pgGlb).trans quiet)]
    exact retrain.trans (.onPage _ _ _)

/-- The lanes that a link may train at. -/
theorem widthOf_bounds {l lanes : Nat} (h : widthOf l lanes = true) : 0 < lanes ∧ lanes < 16 := by
  simp only [widthOf, Bool.or_eq_true, Bool.and_eq_true, beq_iff_eq] at h
  omega

/-- A link that is trained is up at the width that trained. -/
theorem linkTrained_up {l lanes : Nat} (hl : l < 7) (w : widthOf l lanes = true) (d : Dev)
    (h : (link l d).everUp = false ∨ promotes pgGlb d = false) :
    flxUp l (linkTrained l lanes d) = true ∧ rd (GLB_FLXSTAT_LANES l) (linkTrained l lanes d) = lanes
      ∧ rd (GLB_FLXSTAT_DEGRADED l) (linkTrained l lanes d) = (if lanes < builtLanes l then 1 else 0)
      ∧ (link l (linkTrained l lanes d)).training = false ∧ (link l (linkTrained l lanes d)).everUp = true := by
  have kept := linkTrained_kept l lanes d h
  obtain ⟨pos, small⟩ := widthOf_bounds w
  have key : ∀ g ∈ [GLB_FLXSTAT_LANES l, GLB_FLXSTAT_DEGRADED l], g.key < 0x1000A0 * 32 := by
    simp [Fld.key, GLB_FLXSTAT_LANES, GLB_FLXSTAT_DEGRADED]
    omega
  have same : link l (linkTrained l lanes d) = { link l d with everUp := true, training := false } :=
    (link_congr kept.links l).trans (link_onLink l _ _)
  refine ⟨?_, ?_, ?_, by rw [same], by rw [same]⟩
  · rw [flxUp_of_kept kept hl]
    simp [linkAt, flxUp, isSet, rd_onLink, rd_up_setLanes, b2n, Nat.ne_of_gt pos]
  · rw [kept.low _ (key _ (by simp)), linkAt, rd_onLink, rd_lanes_setLanes]
    omega
  · rw [kept.low _ (key _ (by simp)), linkAt, rd_onLink, rd_degraded_setLanes]
    simp [b2n, Nat.ne_of_gt pos]

/-! ## Flits (R15, R16) -/

/-- A good flit over a link that is up reaches the link's count of its class alone. -/
theorem flit_bulk {l : LinkId} {d : Dev} (up : flxUp l d = true) (no : Nat) :
    flit l .bulk no true d = onLink l (fun x => if no = x.nextBulk then { x with nextBulk := no + 1 } else x) d := by
  simp [flit, up]

theorem flit_sideband {l : LinkId} {d : Dev} (up : flxUp l d = true) (no : Nat) :
    flit l .sideband no true d = onLink l (fun x => if no = x.nextSide then { x with nextSide := no + 1 } else x) d := by
  simp [flit, up]

/-- A flit with a bad CRC that promotes nothing is counted, and is one error of the GLB class. -/
theorem flit_bad {l : LinkId} {d : Dev} (up : flxUp l d = true) (quiet : promotes pgGlb d = false) (c : FlitClass) (no : Nat) :
    flit l c no false d = countErr pgGlb (bump pgGlb (GLB_FLXERR_CRCERR l) 1 d) := by
  have quiet' := ((SameErrors.bump pgGlb (GLB_FLXERR_CRCERR l) 1 d).promotes pgGlb).trans quiet
  simp [flit, up, linkClass, errClass_counts quiet']

/-- Of it only the count in GLB_FLXERR and the header of the GLB page change. -/
theorem flit_bad_effect (l : Nat) (d : Dev) :
    let e := countErr pgGlb (bump pgGlb (GLB_FLXERR_CRCERR l) 1 d)
    e.links = d.links ∧ (page pgGlb e).total = min 0xFFFF ((page pgGlb d).total + 1) ∧ OnlyFieldsAndEvents [GLB_FLXERR_CRCERR l] d e := by
  have pages : (bump pgGlb (GLB_FLXERR_CRCERR l) 1 d).pages = d.pages := by
    unfold bump
    split <;> rfl
  have counted : OnlyFieldsAndEvents [GLB_FLXERR_CRCERR l] d (bump pgGlb (GLB_FLXERR_CRCERR l) 1 d) := by
    unfold bump
    split
    · exact ofe_refl d
    · exact ofe_wr _ _ _ (by simp)
  have kept : LinksKept d (bump pgGlb (GLB_FLXERR_CRCERR l) 1 d) := .bump _ _ _ _ (Nat.le_add_right_of_le (by decide))
  refine ⟨kept.links, ?_, ofe_trans counted (ofe_ev (ev_onPage _ _ _))⟩
  rw [countErr, page_onPage]
  simp only [page, pages]

/-! ## Second copies made again (R18, R375) -/

/-- A dealer at rest stays so where it is left alone, and where only the held blocks change. -/
theorem dealerRests_of_kept {d e : Dev} (kept : LinksKept d e) (h : dealerRests d) : dealerRests e := by
  obtain ⟨noTurn, noTodo⟩ := h
  refine ⟨?_, kept.todo.trans noTodo⟩
  unfold ctxList
  rw [kept.deal]
  exact noTurn

theorem dealerRests_setBlks {d : Dev} (h : dealerRests d) (bs : List Blk) : dealerRests (setBlks bs d) :=
  dealerRests_of_kept (d := { d with deal := { d.deal with blks := bs } }) (.countUse _) h

theorem setBlks_blks (bs : List Blk) (d : Dev) : (setBlks bs d).deal.blks = bs := by
  unfold setBlks
  rw [(LinksKept.countUse _).deal]

/-- The counts are registers. -/
theorem setBlks_memory (bs : List Blk) (d : Dev) : SameMemory d (setBlks bs d) := ⟨rfl, rfl⟩

/-- The data of the block have come in, or its write is at its second copies. -/
def copyHeld (b : Blk) (d : Dev) : Bool := b.accepted || b.ctx.any (fun i => (ctx i d).any (fun x => x.stage == .second))

/-- The dealer's only block, whose second copy is lost, gets it again at the SDRAM place of its first copy, with that copy's data once
they are complete. -/
theorem copyRebuild_second {d : Dev} {b : Blk} {a : Nat} (rests : dealerRests d) (only : d.deal.blks = [b]) (block : b.heldEntry = false)
    (first : b.c1 = .at a) (lost : b.c2 = .lost) (here : copyGone (.at a) d = false) (up : memUp a d = true)
    (free : rankFree (sdSecond a d) d = true) (unused : placeUsed (sdSecond a d) d = false) :
    copyRebuild a (sdSecond a d) d = setBlks [{ b with c2 := .at (sdSecond a d) }]
      (if copyHeld b d then copyLines a (sdSecond a d) d else d) := by
  have kept : LinksKept d (if copyHeld b d then copyLines a (sdSecond a d) d else d) := .ite (.copyLines _ _ d) (.refl d)
  have blks := (congrArg (·.blks) kept.deal).trans only
  have found : d.deal.blks.find? (fun b => !b.heldEntry && (b.c1 == .at a || b.c2 == .at a)) = some b := by
    simp [only, block, first]
  unfold copyRebuild
  rw [found]
  have gone : copyGone .lost d = true := rfl
  simp only [first, lost, here, up, free, unused, gone, beq_self_eq_true, Bool.not_true, Bool.not_false, Bool.and_true, Bool.or_false,
    if_true, Bool.false_eq_true, if_false]
  rw [← copyHeld, blks, dealerGo_rests (dealerRests_setBlks (dealerRests_of_kept kept rests) _)]
  simp [first]

/-! ## The statement -/

section
variable {s : State} (run : running s) (l : LinkId)
include run

theorem flitReceive_good (up : flxUp l s.dev = true) (no : Nat) :
    Answers (.flitReceive l .bulk no true) s (fun t =>
        (link l t.dev).nextBulk = (if no = (link l s.dev).nextBulk then no + 1 else (link l s.dev).nextBulk)
          ∧ (link l t.dev).nextSide = (link l s.dev).nextSide ∧ t.dev = { s.dev with links := t.dev.links })
      ∧ Answers (.flitReceive l .sideband no true) s (fun t =>
        (link l t.dev).nextSide = (if no = (link l s.dev).nextSide then no + 1 else (link l s.dev).nextSide)
          ∧ (link l t.dev).nextBulk = (link l s.dev).nextBulk ∧ t.dev = { s.dev with links := t.dev.links }) := by
  constructor
  · refine answers_onDev run rfl ?_
    simp only [flit_bulk up, link_onLink]
    exact ⟨by split <;> rfl, by split <;> rfl, rfl⟩
  · refine answers_onDev run rfl ?_
    simp only [flit_sideband up, link_onLink]
    exact ⟨by split <;> rfl, by split <;> rfl, rfl⟩

theorem flitReceive_bad (up : flxUp l s.dev = true) (c : FlitClass) (no : Nat) (quiet : promotes pgGlb s.dev = false) :
    Answers (.flitReceive l c no false) s (fun t => t.dev.links = s.dev.links
      ∧ (page pgGlb t.dev).total = min 0xFFFF ((page pgGlb s.dev).total + 1)
      ∧ OnlyFieldsAndEvents [GLB_FLXERR_CRCERR l] s.dev t.dev) := by
  refine answers_onDev run rfl ?_
  simp only [flit_bad up quiet]
  exact flit_bad_effect l s.dev

theorem linkDown_answers (up : flxUp l s.dev = true) :
    Answers (.linkDown l) s (fun t => flxUp l t.dev = false ∧ (l = 6 → rd NVME_CSTS_CFS t.dev = 1)
      ∧ ∀ k, k < 7 → k ≠ l.val → flxUp k t.dev = flxUp k s.dev) := by
  refine answers_onDev run rfl ?_
  simp only [up, if_true]
  refine ⟨flxUp_linkDown_same l _, ?_, fun k hk other => flxUp_linkDown_ne hk other _⟩
  rintro rfl
  exact linkDown_power_cfs _

theorem linkRetrainRetry_answers (there : fitted (dieAt l) s.dev = true) (down : flxUp l s.dev = false)
    (powered : dieGated l s.dev = false) :
    Answers (.linkRetrainRetry l) s (fun t => (link l t.dev).training = true ∧ t.dev = { s.dev with links := t.dev.links }) := by
  refine answers_onDev run rfl ?_
  have trains : retrainRetry l s.dev = onLink l (fun x => { x with training := true }) s.dev := by
    simp [retrainRetry, there, down, powered]
  simp only [trains, link_onLink, true_and]
  rfl

theorem linkUp_answers (lanes : Nat) (there : fitted (dieAt l) s.dev = true) (width : widthOf l lanes = true)
    (trains : (link l s.dev).training = true ∨ flxUp l s.dev = true) (quiet : (link l s.dev).everUp = false ∨ promotes pgGlb s.dev = false) :
    Answers (.linkUp l lanes) s (fun t => flxUp l t.dev = true ∧ rd (GLB_FLXSTAT_LANES l) t.dev = lanes
      ∧ rd (GLB_FLXSTAT_DEGRADED l) t.dev = (if lanes < builtLanes l then 1 else 0)
      ∧ (link l t.dev).training = false ∧ (link l t.dev).everUp = true) := by
  refine answers_onDev run rfl ?_
  have trained : linkUpAt l lanes s.dev = linkTrained l lanes s.dev := by simp [linkUpAt, there, width, trains]
  simp only [trained]
  exact linkTrained_up l.isLt width s.dev quiet

end

/-- Settles O17: each command answers the operation whose effect the lemmas above give. -/
theorem linkTransfersAndTraining : Obligations.LinkTransfersAndTraining := by
  unfold Obligations.LinkTransfersAndTraining
  refine ⟨fun s l run => ⟨fun up no => ?_, linkDown_answers run l, ?_, linkRetrainRetry_answers run l, linkUp_answers run l⟩,
    fun s b a run rests only block first lost here up free unused => ?_⟩
  · obtain ⟨bulk, side⟩ := flitReceive_good run l up no
    exact ⟨bulk, side, fun c => flitReceive_bad run l up c no⟩
  · exact answers_onDev run rfl (trainingTimeout_down l s.dev)
  · refine answers_onDev run rfl ?_
    simp only [copyRebuild_second rests only block first lost here up free unused]
    refine ⟨setBlks_blks _ _, fun notAccepted notSecond => ?_, trivial⟩
    have idle : copyHeld b s.dev = false := by simp only [copyHeld, notAccepted, notSecond, Bool.or_false]
    rw [idle]
    exact setBlks_memory _ s.dev

end Sys2Proof.Machine

/-! Settling O8, O9 and O10 (R33, R36 to R41): page headers, error classes and the event router. -/
namespace Sys2Proof.Machine

/-! ## Commands of a page that can be reached -/

/-- A command of a page's header applies its operation while the clocks run and the page can be reached. -/
theorem answers_ifReach {c : Instr} {s : State} {b : Nat} {f : Dev → Dev} {P : State → Prop} (run : running s)
    (up : reach b s.dev = true) (e : exec c s = onDev (ifReach b f) s) (p : P { s with dev := f s.dev }) : Answers c s P := by
  refine answers_onDev run e ?_
  rwa [ifReach, if_pos up]

/-- Of the device at most the header of page `b` changes. -/
def OnlyHeader (b : Nat) (d e : Dev) : Prop := e = { d with pages := e.pages } ∧ ∀ x, x ≠ b → page x e = page x d

theorem onlyHeader_onPage (b : Nat) (g : PageHdr → PageHdr) (d : Dev) : OnlyHeader b d (onPage b g d) :=
  ⟨rfl, fun _ other => page_onPage_ne other g d⟩

/-! ## Event enables and status bits (R38, R40) -/

theorem evenWrite_even (b v : Nat) (d : Dev) : (page b (evenWrite b v d)).even = evenMask b v := by
  unfold evenWrite
  simp only [foldl_even, page_onPage]

theorem evenWrite_ev (b v : Nat) (d : Dev) : EvOnly d (evenWrite b v d) :=
  (ev_onPage b _ d).trans (ev_foldl _ _ (fun e k => ev_deliverNow b k e) _)

/-- A newly enabled event whose status bit is set becomes pending at the cores of its route entry. -/
theorem evenWrite_delivers {b v k c : Nat} {d : Dev} (up : reach b d = true) (hk : k < 32) (new : (evenMask b v).getLsbD k = true)
    (old : (page b d).even.getLsbD k = false) (stat : (page b d).stat.getLsbD k = true) (hc : c < 8)
    (route : (rd (EVT_ROUTE_CORES (evBase b + k)) d).testBit c = true) : pendingAt c (evBase b + k) (evenWrite b v d) := by
  refine foldl_pend b c k _ _ (.inl ⟨?_, up, hc, route⟩)
  simp only [List.mem_filter, List.mem_range, hk, new, old, stat, Bool.not_false, Bool.and_self, and_self]

/-- A written 1 clears its status bit, except where the event occurs again (R40). -/
theorem evstatClear_stat (b v again k : Nat) (hk : k < 32) (d : Dev) :
    (page b (evstatClear b v again d)).stat.getLsbD k
      = ((page b d).stat.getLsbD k && (!v.testBit k || again.testBit k)) := by
  rw [evstatClear, page_onPage]
  simp [-BitVec.getLsbD_eq_getElem, BitVec.getLsbD_and, BitVec.getLsbD_not, BitVec.getLsbD_ofNat, hk]

theorem evstatClear_frame (b v again : Nat) (d : Dev) : OnlyHeader b d (evstatClear b v again d) := onlyHeader_onPage b _ d

/-- Settles O8: the enables are those written, each due event is delivered in turn, and a status bit is cleared by mask. -/
theorem enableAndStatusBits : Obligations.EnableAndStatusBits := by
  unfold Obligations.EnableAndStatusBits
  intro p v again s run up
  constructor
  · refine answers_ifReach run up rfl ⟨evenWrite_even _ v _, fun k c hk new old stat hc route => ?_, (evenWrite_ev _ v _).only⟩
    rw [evenWrite_even] at new
    exact evenWrite_delivers up hk new old stat hc route
  · exact answers_ifReach run up rfl ⟨fun k hk => evstatClear_stat _ v again k hk _, evstatClear_frame _ v again _⟩

/-! ## Error classes (R41) and page locks (R33) -/

/-- PG_ERRWIN takes a write unless the page is locked. -/
theorem errwinWrite_page (b v : Nat) (d : Dev) :
    (page b d).lock = true ∧ page b (errwinWrite b v d) = page b d
      ∨ (page b d).lock = false ∧ page b (errwinWrite b v d) = { page b d with
          window := bits v 0 16, thresh := bits v 16 8, err := ⟨[], (page b d).err.lasting⟩ } := by
  rw [errwinWrite, page_onPage]
  cases lock : (page b d).lock
  · exact .inr (by simp [lock])
  · exact .inl (by simp)

theorem rearm_lasting (e : ErrWin) : e.rearm.lasting = false := by
  unfold ErrWin.rearm
  split
  · rfl
  next other => exact eq_false_of_ne_true other

theorem rearm_of_lasting {e : ErrWin} (h : e.lasting = true) : e.rearm = ErrWin.empty := if_pos h

theorem rearm_of_not_lasting {e : ErrWin} (h : e.lasting = false) : e.rearm = e := by simp [ErrWin.rearm, h]

/-- An error class without errors has none inside its window. -/
theorem winCnt_empty {h : PageHdr} (empty : h.err = ErrWin.empty) (d : Dev) : winCnt h d = 0 := by
  simp [winCnt, empty, ErrWin.inside, ErrWin.empty]

/-- LASTING is cleared: a class that was promoted has an empty window again, another stays as it was. -/
theorem lastingClear_page (b : Nat) (d : Dev) :
    (page b (lastingClear b d)).err.lasting = false
      ∧ ((page b d).err.lasting = true → winCnt (page b (lastingClear b d)) (lastingClear b d) = 0)
      ∧ ((page b d).err.lasting = false → page b (lastingClear b d) = page b d)
      ∧ (page b (lastingClear b d)).total = (page b d).total := by
  have header : page b (lastingClear b d) = { page b d with err := (page b d).err.rearm } := page_onPage b _ d
  rw [header]
  refine ⟨rearm_lasting _, fun promoted => winCnt_empty (rearm_of_lasting promoted) _, fun not => ?_, rfl⟩
  rw [rearm_of_not_lasting not]

theorem lastingClear_frame (b : Nat) (d : Dev) : OnlyHeader b d (lastingClear b d) := onlyHeader_onPage b _ d

/-- An error inside the window has not reached WINDOW. -/
theorem mem_inside {w now : Nat} {e : ErrWin} {a : Int} (h : a ∈ e.inside w now) : w = 0 ∨ (now : Int) - a < w := by
  unfold ErrWin.inside at h
  split at h
  next never => exact .inl never
  · exact .inr (by simpa using (List.mem_filter.mp h).2)

/-- Once the errors outside the window have left, those inside are the same. -/
theorem inside_inside (w now : Nat) (e : ErrWin) : ErrWin.inside w now ⟨e.inside w now, e.lasting⟩ = e.inside w now := by
  unfold ErrWin.inside
  split
  · rfl
  · simp [List.filter_filter]

theorem windowExpiry_page (b : Nat) (d : Dev) :
    page b (windowExpiry b d)
      = { page b d with err := ⟨(page b d).err.inside (page b d).window (nowMs d), (page b d).err.lasting⟩ } := page_onPage b _ d

/-- WINCNT counts the errors inside the window, so it reads the same before and after the others have left. -/
theorem windowExpiry_winCnt (b : Nat) (d : Dev) : winCnt (page b (windowExpiry b d)) (windowExpiry b d) = winCnt (page b d) d := by
  have now : nowMs (windowExpiry b d) = nowMs d := rfl
  rw [windowExpiry_page, winCnt, winCnt, now, inside_inside]

theorem windowExpiry_total (b : Nat) (d : Dev) : (page b (windowExpiry b d)).total = (page b d).total := by
  rw [windowExpiry_page]

theorem windowExpiry_frame (b : Nat) (d : Dev) : OnlyHeader b d (windowExpiry b d) := onlyHeader_onPage b _ d

/-- A relock of the TST page that is locked already does nothing. -/
theorem pageLock_eq {b : Nat} {d : Dev} (h : b = pgTst → isSet TST_STAT_UNLOCKED d = false) :
    pageLock b d = onPage b (fun h => { h with lock := true }) d := by
  unfold pageLock
  split
  next tst =>
    have locked : isSet TST_STAT_UNLOCKED (onPage b (fun h => { h with lock := true }) d) = false := h tst
    simp [relock, locked]
  · rfl

theorem pageLock_header {b : Nat} {d : Dev} (h : b = pgTst → isSet TST_STAT_UNLOCKED d = false) :
    page b (pageLock b d) = { page b d with lock := true } ∧ OnlyHeader b d (pageLock b d) := by
  rw [pageLock_eq h]
  exact ⟨page_onPage b _ d, onlyHeader_onPage b _ d⟩

/-- Settles O9: each of the four commands changes one header, as the lemmas above give it. -/
theorem errorClassRegisters : Obligations.ErrorClassRegisters := by
  unfold Obligations.ErrorClassRegisters
  intro p v s run up b
  refine ⟨answers_ifReach run up rfl (errwinWrite_page b v s.dev), answers_ifReach run up rfl ?_, answers_onDev run rfl ?_,
    fun relocked => answers_ifReach run up rfl (pageLock_header relocked)⟩
  · obtain ⟨cleared, emptied, kept, total⟩ := lastingClear_page b s.dev
    exact ⟨cleared, emptied, kept, total, lastingClear_frame b _⟩
  · refine ⟨fun a ha => ?_, windowExpiry_winCnt b _, windowExpiry_total b _, windowExpiry_frame b _⟩
    rw [windowExpiry_page] at ha
    exact mem_inside ha

/-! ## Software events and claims (R36, R39) -/

/-- What was pending stays pending through a repetition whose every part keeps it so. -/
theorem foldl_keeps_pending {c e : Nat} {f : Dev → Nat → Dev} (keeps : ∀ d k, pendingAt c e d → pendingAt c e (f d k))
    (l : List Nat) {d : Dev} (h : pendingAt c e d) : pendingAt c e (l.foldl f d) :=
  List.foldlRecOn (motive := pendingAt c e) l f h (fun _ h k _ => keeps _ k h)

/-- Software event `k` is raised where its bit is written. -/
def swEvent (v : Nat) (d : Dev) (k : Nat) : Dev :=
  if v.testBit k then raiseFree (0x60 + k) (rd (EVT_ROUTE_SEV (0x60 + k)) d) (rd (EVT_ROUTE_CORES (0x60 + k)) d) d else d

theorem swSet_eq (v : Nat) (d : Dev) : swSet v d = (List.range 32).foldl (swEvent v) d := rfl

theorem swEvent_ev (v : Nat) (d : Dev) (k : Nat) : EvOnly d (swEvent v d k) := by
  unfold swEvent
  split
  · exact ev_raiseFree _ _ _ d
  · exact .refl d

theorem swEvent_keeps_pending {c e : Nat} (v : Nat) (d : Dev) (k : Nat) (h : pendingAt c e d) : pendingAt c e (swEvent v d k) := by
  unfold swEvent
  split
  · exact raiseFree_pend _ _ _ _ _ d (.inr h)
  · exact h

/-- A written software event becomes pending at the cores of its route entry: in its turn, and it stays so in those after it. -/
theorem swSet_pending {v k c : Nat} {d : Dev} (hk : k < 32) (hc : c < 8) (written : v.testBit k = true)
    (route : (rd (EVT_ROUTE_CORES (0x60 + k)) d).testBit c = true) : pendingAt c (0x60 + k) (swSet v d) := by
  obtain ⟨before, after, turns⟩ := List.append_of_mem (List.mem_range.mpr hk)
  rw [swSet_eq, turns, List.foldl_append, List.foldl_cons]
  refine foldl_keeps_pending (fun d j => swEvent_keeps_pending v d j) after ?_
  rw [swEvent, if_pos written]
  refine raiseFree_pend _ _ _ _ _ _ (.inl ⟨hc, ?_, rfl⟩)
  rwa [ev_rd (ev_foldl before (swEvent v) (swEvent_ev v) d)]

/-- The order in which events are claimed: event `r` comes no sooner than event `q`. -/
def NoSooner (q r : Nat × Nat) : Prop := r.2 < q.2 ∨ r.2 = q.2 ∧ q.1 ≤ r.1

/-- The answer so far, `b`, once event `p` has been looked at. -/
def claimStep (b : Option (Nat × Nat)) (p : Nat × Nat) : Option (Nat × Nat) :=
  match b with
  | none => some p
  | some q => if q.2 < p.2 ∨ (q.2 = p.2 ∧ p.1 < q.1) then some p else b

/-- Going on from event `q`, the claim ends with `q` or a later one of the list, and none of them comes sooner. -/
theorem claim_foldl (l : List (Nat × Nat)) (q : Nat × Nat) :
    ∃ m, l.foldl claimStep (some q) = some m ∧ (m = q ∨ m ∈ l) ∧ NoSooner m q ∧ ∀ r ∈ l, NoSooner m r := by
  induction l generalizing q with
  | nil => exact ⟨q, rfl, .inl rfl, .inr ⟨rfl, Nat.le_refl _⟩, by simp⟩
  | cons p l ih =>
    rw [List.foldl_cons, claimStep]
    split
    next sooner =>
      obtain ⟨m, ans, from', hp, hl⟩ := ih p
      refine ⟨m, ans, .inr ?_, ?_, List.forall_mem_cons.mpr ⟨hp, hl⟩⟩
      · rcases from' with rfl | mem
        · exact List.mem_cons_self
        · exact List.mem_cons_of_mem p mem
      · unfold NoSooner at hp ⊢
        omega
    next later =>
      obtain ⟨m, ans, from', hq, hl⟩ := ih q
      refine ⟨m, ans, from'.imp_right (List.mem_cons_of_mem p), hq, List.forall_mem_cons.mpr ⟨?_, hl⟩⟩
      unfold NoSooner at hq ⊢
      omega

/-- A claim answers an event that is pending, and no pending event comes sooner. -/
theorem claimOf_spec {pend : List (Nat × Nat)} (h : pend ≠ []) :
    ∃ q ∈ pend, claimOf pend = some q ∧ ∀ r ∈ pend, NoSooner q r := by
  cases pend with
  | nil => exact absurd rfl h
  | cons p l =>
    obtain ⟨m, ans, from', hp, hl⟩ := claim_foldl l p
    exact ⟨m, List.mem_cons.mpr from', ans, List.forall_mem_cons.mpr ⟨hp, hl⟩⟩

theorem claim_nothing {c : CoreId} {d : Dev} (h : (core c d).pend = []) : claim c d = { d with rdata := 0 } := by
  simp [claim, h, claimOf]

/-- A core that has claimed event `q`. -/
def Core.without (q : Nat × Nat) (x : Core) : Core := { x with pend := x.pend.filter (fun r => r != q) }

theorem Core.mem_without {q r : Nat × Nat} {x : Core} : r ∈ (x.without q).pend ↔ r ∈ x.pend ∧ r ≠ q := by simp [Core.without]

theorem claim_some {c : CoreId} {d : Dev} {q : Nat × Nat} (h : claimOf (core c d).pend = some q) :
    claim c d = { onCore c (Core.without q) d with rdata := q.1 + q.2 * 2 ^ 15 + 2 ^ 31 } := by
  rw [claim, h]
  rfl

/-- The claiming core alone changes, and loses the event claimed. -/
theorem claim_cores {c : CoreId} {d : Dev} {q : Nat × Nat} (h : claimOf (core c d).pend = some q) :
    core c (claim c d) = (core c d).without q ∧ ∀ x, x ≠ c.val → core x (claim c d) = core x d := by
  rw [claim_some h]
  exact ⟨core_onCore c (Core.without q) d, fun x other => core_onCore_ne other (Core.without q) d⟩

/-! ## Route entries (R40) -/

/-- A field whose encodings above `top` are reserved takes a value up to it, and stays as it is otherwise. -/
def wrEnc (f : Fld) (top v : Nat) (d : Dev) : Dev := if top < v then d else wr f v d

/-- The fields of route entry `n` as a write leaves them. -/
def routeFields (n v : Nat) (d : Dev) : Dev :=
  wrEnc (EVT_ROUTE_SEV n) 4 (bits v 16 3) (wrEnc (EVT_ROUTE_VECTOR n) 64 (bits v 0 7)
    (wr (EVT_ROUTE_LOG n) (bits v 19 1) (wr (EVT_ROUTE_CORES n) (bits v 8 8) (wr (EVT_ROUTE_MSIX n) (bits v 7 1) d))))

/-- Each core that a rewritten route entry names no longer loses the event. -/
def routeDrop (n old new : Nat) (d : Dev) : Dev :=
  each 8 (fun c d =>
    if old.testBit c && !new.testBit c then onCore c (fun x => { x with pend := x.pend.filter (fun p => p.1 != n) }) d else d) d

/-- A write of an entry sets its fields and takes the event from the cores it no longer names; reserved encodings raise EVT event 0. -/
theorem routeWrite_eq {n v : Nat} {d : Dev} (unlocked : (page pgEvt d).lock = false) :
    routeWrite n v d =
      let e := routeDrop n (rd (EVT_ROUTE_CORES n) d) (bits v 8 8) (routeFields n v d)
      if 64 < bits v 0 7 ∨ 4 < bits v 16 3 then raise pgEvt 0 e else e := by
  simp [routeWrite, routeDrop, routeFields, wrEnc, wrs, unlocked]

theorem routeDrop_ev (n old new : Nat) (d : Dev) : EvOnly d (routeDrop n old new d) := by
  refine ev_foldl _ _ (fun e c => ?_) d
  simp only
  split
  · exact ev_onCore c _ e
  · exact .refl e

theorem routeWrite_ev {n v : Nat} {d : Dev} (unlocked : (page pgEvt d).lock = false) :
    EvOnly (routeFields n v d) (routeWrite n v d) := by
  rw [routeWrite_eq unlocked]
  simp only
  split
  · exact (routeDrop_ev n _ _ _).trans (ev_raise pgEvt 0 _)
  · exact routeDrop_ev n _ _ _

/-- A write of a field that starts at another bit of the same register leaves a field alone. -/
theorem rd_wr_lo {f g : Fld} (off : f.off = g.off) (lo : (f.lo == g.lo) = false) (v : Nat) (d : Dev) : rd f (wr g v d) = rd f d := by
  refine rd_wr_ne ?_ v d
  have := ne_of_beq_false lo
  unfold Fld.key
  omega

theorem rd_wr_fits (f : Fld) {v : Nat} (fits : v % 2 ^ f.w = v) (d : Dev) : rd f (wr f v d) = v := (rd_wr f v d).trans fits

theorem rd_wrEnc_lo {f g : Fld} (off : f.off = g.off) (lo : (f.lo == g.lo) = false) (top v : Nat) (d : Dev) :
    rd f (wrEnc g top v d) = rd f d := by
  unfold wrEnc
  split
  · rfl
  · exact rd_wr_lo off lo v d

theorem rd_wrEnc_fits (f : Fld) (top : Nat) {v : Nat} (fits : v % 2 ^ f.w = v) (d : Dev) :
    rd f (wrEnc f top v d) = if v ≤ top then v else rd f d := by
  unfold wrEnc
  split
  next reserved => rw [if_neg (Nat.not_le.mpr reserved)]
  next known => rw [if_pos (Nat.not_lt.mp known), rd_wr_fits f fits]

theorem ofe_wrEnc {fs : List Fld} (f : Fld) (top v : Nat) (d : Dev) (h : f.key ∈ fs.map Fld.key) :
    OnlyFieldsAndEvents fs d (wrEnc f top v d) := by
  unfold wrEnc
  split
  · exact ofe_refl d
  · exact ofe_wr f v d h

theorem bits_mod (v lo w : Nat) : bits v lo w % 2 ^ w = bits v lo w := Nat.mod_mod _ _

/-- The register of route entry `n`, field by field, as a write leaves it. -/
theorem routeFields_values (n v : Nat) (d : Dev) :
    rd (EVT_ROUTE_MSIX n) (routeFields n v d) = bits v 7 1 ∧ rd (EVT_ROUTE_CORES n) (routeFields n v d) = bits v 8 8
      ∧ rd (EVT_ROUTE_LOG n) (routeFields n v d) = bits v 19 1
      ∧ rd (EVT_ROUTE_VECTOR n) (routeFields n v d) = (if bits v 0 7 ≤ 64 then bits v 0 7 else rd (EVT_ROUTE_VECTOR n) d)
      ∧ rd (EVT_ROUTE_SEV n) (routeFields n v d) = (if bits v 16 3 ≤ 4 then bits v 16 3 else rd (EVT_ROUTE_SEV n) d) := by
  refine ⟨?msix, ?cores, ?log, ?vector, ?sev⟩
  case msix => rw [routeFields, rd_wrEnc_lo, rd_wrEnc_lo, rd_wr_lo, rd_wr_lo, rd_wr_fits _ (bits_mod v 7 1)] <;> rfl
  case cores => rw [routeFields, rd_wrEnc_lo, rd_wrEnc_lo, rd_wr_lo, rd_wr_fits _ (bits_mod v 8 8)] <;> rfl
  case log => rw [routeFields, rd_wrEnc_lo, rd_wrEnc_lo, rd_wr_fits _ (bits_mod v 19 1)] <;> rfl
  case vector =>
    rw [routeFields, rd_wrEnc_lo, rd_wrEnc_fits _ 64 (bits_mod v 0 7), rd_wr_lo, rd_wr_lo, rd_wr_lo] <;> rfl
  case sev =>
    rw [routeFields, rd_wrEnc_fits _ 4 (bits_mod v 16 3), rd_wrEnc_lo, rd_wr_lo, rd_wr_lo, rd_wr_lo] <;> rfl

theorem routeFields_frame (n v : Nat) (d : Dev) :
    OnlyFieldsAndEvents [EVT_ROUTE_MSIX n, EVT_ROUTE_CORES n, EVT_ROUTE_LOG n, EVT_ROUTE_VECTOR n, EVT_ROUTE_SEV n] d
      (routeFields n v d) := by
  refine ofe_trans (ofe_trans (ofe_trans (ofe_trans (ofe_wr _ _ d ?msix) (ofe_wr _ _ _ ?cores)) (ofe_wr _ _ _ ?log))
    (ofe_wrEnc _ _ _ _ ?vector)) (ofe_wrEnc _ _ _ _ ?sev)
  all_goals simp

/-- A core that the entry named and no longer names loses the event. -/
theorem routeDrop_pending {n old new c : Nat} (hc : c < 8) (was : old.testBit c = true) (gone : new.testBit c = false) (d : Dev) :
    ¬ pendingAt c n (routeDrop n old new d) := by
  refine rt_fold n (fun c => old.testBit c && !new.testBit c) _ d c (.inl ⟨List.mem_range.mpr hc, ?_⟩)
  simp [was, gone]

/-- Settles O10: software events are raised in turn, a claim takes the first in the order of claims, and a route write is its fields, then
the cores it no longer names, then at most the event of a reserved encoding. -/
theorem eventRouter : Obligations.EventRouter := by
  unfold Obligations.EventRouter
  intro s run
  refine ⟨fun v => ?_, fun c => ?_, fun n v unlocked => ?_⟩
  · refine answers_onDev run rfl ⟨fun k c hk hc written route => swSet_pending hk hc written route, ?_⟩
    exact (ev_foldl _ (swEvent v) (swEvent_ev v) s.dev).only
  · refine answers_onDev run rfl ⟨claim_nothing, fun some => ?_⟩
    obtain ⟨q, pending, ans, first⟩ := claimOf_spec some
    obtain ⟨here, others⟩ := claim_cores ans
    refine ⟨q, pending, first, ?_, fun r => ?_, ?_, others⟩
    · rw [claim_some ans]
    · rw [here]
      exact Core.mem_without
    · rw [claim_some ans]
      rfl
  · have ev := routeWrite_ev (n := n) (v := v) unlocked
    obtain ⟨msix, cores, log, vector, sev⟩ := routeFields_values n v s.dev
    refine answers_onDev run rfl ⟨(ev_rd ev _).trans msix, (ev_rd ev _).trans cores, (ev_rd ev _).trans log, (ev_rd ev _).trans vector,
      (ev_rd ev _).trans sev, ofe_trans (routeFields_frame n v s.dev) (ofe_ev ev), fun okV okS c hc was gone => ?_⟩
    simp only [routeWrite_eq unlocked, if_neg (not_or.mpr ⟨Nat.not_lt.mpr okV, Nat.not_lt.mpr okS⟩)]
    exact routeDrop_pending hc was gone _

end Sys2Proof.Machine

/-! Settling O19 (R39, R42): traps, interrupts and waiting of a core. What a trap, the retirement of an instruction and the fetch do
is said once, for O21 as well. -/
namespace Sys2Proof.Machine

/-! ## Control and status registers, integer registers -/

@[simp] theorem csrRaw_setCsr_same (c num v : Nat) (d : Dev) : csrRaw c num (setCsr c num v d) = v := by
  simp [csrRaw, setCsr]

theorem csrRaw_setCsr_ne {num k : Nat} (h : num ≠ k) (c v : Nat) (d : Dev) : csrRaw c num (setCsr c k v d) = csrRaw c num d := by
  simp [csrRaw, setCsr, Store.get_put_ne _ _ h]

/-- Two devices in which a core has the same integer registers read alike. -/
theorem xr_congr {c : Nat} {d e : Dev} (h : (core c e).x = (core c d).x) (r : Fin 32) : xr c r e = xr c r d := by
  simp [xr, h]

/-- An integer register reads what was written to it, in 64 bits. -/
theorem xr_setX_same {r : Fin 32} (h : r ≠ 0) (c v : Nat) (d : Dev) : xr c r (setX c r v d) = v % 2 ^ 64 := by
  simp [xr, setX, h]

@[simp] theorem setX_mem (c : Nat) (r : Fin 32) (v : Nat) (d : Dev) : (setX c r v d).mem = d.mem := by unfold setX; split <;> rfl
@[simp] theorem setX_cache (c : Nat) (r : Fin 32) (v : Nat) (d : Dev) : (setX c r v d).cache = d.cache := by unfold setX; split <;> rfl

/-- A write of an integer register leaves the reservation alone. -/
@[simp] theorem setX_resv (c : Nat) (r : Fin 32) (v : Nat) (d : Dev) : (core c (setX c r v d)).resv = (core c d).resv := by
  unfold setX
  split
  · rfl
  · rw [core_onCore]

/-! ## Retirement -/

/-- Retirement counts in a CSR; of the device only cores change, of the core only its CSRs. -/
theorem retire_core (c : Nat) (d : Dev) : core c (retire c d) = { core c d with csr := (core c (retire c d)).csr } := by
  unfold retire
  split
  · rfl
  · simp only [setCsr, core_onCore]

theorem retire_dev (c : Nat) (d : Dev) : retire c d = { d with cores := (retire c d).cores } := by
  unfold retire
  split <;> rfl

theorem advance_core (c : Nat) (short : Bool) (d : Dev) :
    core c (advance c short d)
      = { core c d with pc := ((core c d).pc + if short then 2 else 4) % 2 ^ 64, csr := (core c (advance c short d)).csr } := by
  rw [advance, retire_core, core_onCore]

theorem jumpTo_core (c a : Nat) (d : Dev) :
    core c (jumpTo c a d) = { core c d with pc := a, csr := (core c (jumpTo c a d)).csr } := by
  rw [jumpTo, retire_core, core_onCore]

@[simp] theorem advance_x (c : Nat) (short : Bool) (d : Dev) : (core c (advance c short d)).x = (core c d).x := by rw [advance_core]
@[simp] theorem advance_resv (c : Nat) (short : Bool) (d : Dev) : (core c (advance c short d)).resv = (core c d).resv := by
  rw [advance_core]
@[simp] theorem advance_icache (c : Nat) (short : Bool) (d : Dev) : (core c (advance c short d)).icache = (core c d).icache := by
  rw [advance_core]
@[simp] theorem advance_pc (c : Nat) (short : Bool) (d : Dev) :
    (core c (advance c short d)).pc = ((core c d).pc + if short then 2 else 4) % 2 ^ 64 := by
  rw [advance_core]
@[simp] theorem advance_mem (c : Nat) (short : Bool) (d : Dev) : (advance c short d).mem = d.mem := by rw [advance, retire_dev]; rfl
@[simp] theorem advance_cache (c : Nat) (short : Bool) (d : Dev) : (advance c short d).cache = d.cache := by rw [advance, retire_dev]; rfl
@[simp] theorem advance_xr (c : Nat) (short : Bool) (r : Fin 32) (d : Dev) : xr c r (advance c short d) = xr c r d :=
  xr_congr (advance_x c short d) r

theorem advance_sameMemory (c : Nat) (short : Bool) (d : Dev) : SameMemory d (advance c short d) := ⟨by simp, by simp⟩

/-! ## Traps -/

@[simp] theorem trap_regs (c cause tval : Nat) (intr : Bool) (d : Dev) : (trap c cause tval intr d).regs = d.regs := by
  simp only [trap, setCsr, onCore_regs]

theorem trap_sameMemory (c cause tval : Nat) (intr : Bool) (d : Dev) : SameMemory d (trap c cause tval intr d) := by
  simp only [SameMemory, trap, setCsr, onCore_mem, onCore_cache, and_self]

/-- Of the core itself a trap changes the pc, the mode, the interrupt-enable stack and CSRs. -/
theorem trap_core (c cause tval : Nat) (intr : Bool) (d : Dev) :
    core c (trap c cause tval intr d) = { core c d with
      mpie := (core c d).mie, mie := false, mppUser := (core c d).user, user := false, csr := (core c (trap c cause tval intr d)).csr,
      pc := (csrRaw c 0x305 d / 4 * 4 + if intr && csrRaw c 0x305 d % 4 == 1 then 4 * cause else 0) % 2 ^ 64 } := by
  simp only [trap, setCsr, core_onCore]

theorem trap_mepc (c cause tval : Nat) (intr : Bool) (d : Dev) : csrRaw c 0x341 (trap c cause tval intr d) = (core c d).pc := by
  simp [trap, setCsr, csrRaw, Store.get_put_ne]

theorem trap_mcause (c cause tval : Nat) (intr : Bool) (d : Dev) :
    csrRaw c 0x342 (trap c cause tval intr d) = cause + if intr then 2 ^ 63 else 0 := by
  simp [trap, setCsr, csrRaw, Store.get_put_ne]

theorem trap_mtval (c cause tval : Nat) (intr : Bool) (d : Dev) : csrRaw c 0x343 (trap c cause tval intr d) = tval := by
  simp [trap, setCsr, csrRaw]

/-- Core `c` has taken a trap with this cause from device `d` on its way from `s` to `t`: pc, cause and mode are saved, and it enters
machine mode at mtvec with interrupts off; integer registers, memories, registers and fuses are as they were. -/
def EntersTrap (c : CoreId) (cause : Nat) (d : Dev) (s t : State) : Prop :=
  csrRaw c 0x342 t.dev = cause ∧ csrRaw c 0x341 t.dev = (core c d).pc
    ∧ (core c t.dev).pc = csrRaw c 0x305 d / 4 * 4 % 2 ^ 64 ∧ (core c t.dev).user = false ∧ (core c t.dev).mie = false
    ∧ (core c t.dev).mpie = (core c d).mie ∧ (core c t.dev).mppUser = (core c d).user ∧ (core c t.dev).x = (core c d).x
    ∧ SameMemory d t.dev ∧ t.dev.regs = d.regs ∧ t.otp = s.otp

/-- An exception enters at mtvec, and so does an interrupt where mtvec is not vectored. -/
theorem trap_enters (c : CoreId) (cause tval : Nat) {intr : Bool} (d : Dev) (s : State)
    (direct : intr = true → csrRaw c 0x305 d % 4 ≠ 1) :
    EntersTrap c (cause + if intr then 2 ^ 63 else 0) d s { s with dev := trap c cause tval intr d } := by
  have vector : (intr && csrRaw c 0x305 d % 4 == 1) = false := by
    cases intr
    · rfl
    · simp [direct rfl]
  unfold EntersTrap
  rw [trap_core, vector]
  exact ⟨trap_mcause .., trap_mepc .., rfl, rfl, rfl, rfl, rfl, rfl, trap_sameMemory .., trap_regs .., rfl⟩

theorem exception_enters (c : CoreId) (cause tval : Nat) (d : Dev) (s : State) :
    EntersTrap c cause d s { s with dev := trap c cause tval false d } := trap_enters c cause tval d s (by simp)

theorem interrupt_enters (c : CoreId) (cause tval : Nat) {d : Dev} (direct : csrRaw c 0x305 d % 4 ≠ 1) (s : State) :
    EntersTrap c (2 ^ 63 + cause) d s { s with dev := trap c cause tval true d } := by
  rw [Nat.add_comm]
  exact trap_enters c cause tval d s (fun _ => direct)

/-- An illegal instruction draws the value of mtval, which changes nothing that a trap is judged by. -/
theorem illegal_enters (c : CoreId) (d : Dev) (s : State) : EntersTrap c 2 d s { s with dev := illegal c d } :=
  exception_enters c 2 ((draw d).2 % 2 ^ 32) (draw d).1 s

/-! ## The fetch -/

section
variable {c : CoreId} {short : Bool} {s : State} {f : Dev × Option Nat} {P : State → Prop}
  (run : running s) (live : coreLive c s.dev = true)
  (fetch : coreFetch c short (onCore c (fun y => { y with wfi := false }) s.dev) = f)

include live fetch in
/-- A core that runs carries out what it has fetched. -/
theorem onFetch_ok (ok : f.2 = none) (g : State → State) : onFetch c short g s = g { s with dev := f.1 } := by
  simp [onFetch, live, fetch, ok]

include live fetch in
/-- Where the fetch faults it takes the exception. -/
theorem onFetch_fault {a : Nat} (fault : f.2 = some a) (g : State → State) :
    onFetch c short g s = { s with dev := trap c 1 a false f.1 } := by
  simp [onFetch, live, fetch, fault]

include run live fetch

theorem answers_instruction {op : CoreOp} {env : RegEnv} (instruction : op ≠ .interrupt) (ok : f.2 = none)
    (p : P (coreOp c short op env { s with dev := f.1 })) : Answers (.coreInstruction c short op env) s P := by
  refine answers_onState run rfl ?_
  rwa [coreInstr, if_neg instruction, onFetch_ok live fetch ok]

theorem answers_fetch_fault {op : CoreOp} {env : RegEnv} (instruction : op ≠ .interrupt) {a : Nat} (fault : f.2 = some a)
    (p : P { s with dev := trap c 1 a false f.1 }) : Answers (.coreInstruction c short op env) s P := by
  refine answers_onState run rfl ?_
  rwa [coreInstr, if_neg instruction, onFetch_fault live fetch fault]

end

/-- A core that runs and is asked for a pending interrupt ends its wait and takes it. -/
theorem answers_interrupt {c : CoreId} {short : Bool} {env : RegEnv} {s : State} {P : State → Prop} (run : running s)
    (live : coreLive c s.dev = true)
    (p : P { s with dev := takeInterrupt c (onCore c (fun y => { y with wfi := false }) s.dev) }) :
    Answers (.coreInstruction c short .interrupt env) s P := by
  refine answers_onState run rfl ?_
  rwa [coreInstr, if_pos rfl, if_pos live]

/-! ## System instructions -/

/-- MRET in machine mode goes back to what the last trap saved. -/
theorem execMret_core {c : Nat} {d : Dev} (machine : (core c d).user = false) :
    core c (execMret c d) = { core c d with
      pc := csrRaw c 0x341 d, mie := (core c d).mpie, mpie := true, user := (core c d).mppUser, mppUser := true,
      mprv := (core c d).mprv && !(core c d).mppUser, csr := (core c (execMret c d)).csr } := by
  simp only [execMret, machine, Bool.false_eq_true, if_false]
  rw [jumpTo_core, core_onCore]

theorem execMret_user {c : Nat} {d : Dev} (user : (core c d).user = true) : execMret c d = illegal c d := by simp [execMret, user]

theorem execWfi_core {c : Nat} {d : Dev} (short : Bool) (allowed : ((core c d).user && (core c d).tw) = false) :
    (core c (execWfi c short d)).wfi = true
      ∧ (core c (execWfi c short d)).pc = ((core c d).pc + if short then 2 else 4) % 2 ^ 64 := by
  simp [execWfi, allowed]

/-- A CSR instruction on a register that the core does not have is illegal. -/
theorem csrExec_absent {c num : Nat} {d : Dev} (absent : csrRead c num d = none) (k : CsrKind) (rdst : Fin 32) (src : Src) :
    csrExec c k rdst num src d = none := by
  simp [csrExec, absent]

/-! ## Interrupts -/

/-- A non-maskable interrupt saves the pc and enters machine mode at its vector with interrupts off. -/
theorem nmiTrap_core (c : Nat) (d : Dev) :
    csrRaw c 0x341 (nmiTrap c d) = (core c d).pc ∧ (core c (nmiTrap c d)).user = false ∧ (core c (nmiTrap c d)).mie = false
      ∧ (core c (nmiTrap c d)).pc = Config.nmiVector c % 2 ^ 64 := by
  refine ⟨?_, ?_, ?_, ?_⟩ <;> simp [nmiTrap, setCsr, csrRaw, Store.get_put_ne]

theorem takeInterrupt_nmi {c : Nat} {d : Dev} (nmi : nmiPending c d = true) : takeInterrupt c d = nmiTrap c d := by
  simp [takeInterrupt, nmi]

/-- Without a non-maskable event the external interrupt comes before the timer's. -/
theorem takeInterrupt_enabled {c : Nat} {d : Dev} (maskable : nmiPending c d = false) (on : ((core c d).mie || (core c d).user) = true)
    (pending : enabledPending c d ≠ 0) :
    takeInterrupt c d = trap c (if (enabledPending c d).testBit 11 then 11 else 7) 0 true d := by
  simp [takeInterrupt, maskable, on, pending]

/-! ## The statement -/

section
variable {c : CoreId} {short : Bool} {env : RegEnv} {s : State} {f : Dev × Option Nat} (run : running s)
  (live : coreLive c s.dev = true) (fetch : coreFetch c short (onCore c (fun y => { y with wfi := false }) s.dev) = f)
include run live fetch

theorem ecall_answers (ok : f.2 = none) :
    Answers (.coreInstruction c short .ecall env) s (EntersTrap c (if (core c f.1).user then 8 else 11) f.1 s) :=
  answers_instruction run live fetch (by simp) ok (exception_enters c _ 0 f.1 s)

theorem ebreak_answers (ok : f.2 = none) : Answers (.coreInstruction c short .ebreak env) s (EntersTrap c 3 f.1 s) :=
  answers_instruction run live fetch (by simp) ok (exception_enters c 3 _ (draw f.1).1 s)

theorem illegal_answers (ok : f.2 = none) : Answers (.coreInstruction c short .illegal env) s (EntersTrap c 2 f.1 s) :=
  answers_instruction run live fetch (by simp) ok (illegal_enters c f.1 s)

theorem mret_user_answers (ok : f.2 = none) (user : (core c f.1).user = true) :
    Answers (.coreInstruction c short .mret env) s (EntersTrap c 2 f.1 s) := by
  refine answers_instruction run live fetch (by simp) ok ?_
  simp only [coreOp, inDev, execMret_user user]
  exact illegal_enters c f.1 s

theorem mret_answers (ok : f.2 = none) (machine : (core c f.1).user = false) :
    Answers (.coreInstruction c short .mret env) s (fun t =>
      (core c t.dev).pc = csrRaw c 0x341 f.1 ∧ (core c t.dev).mie = (core c f.1).mpie ∧ (core c t.dev).mpie = true
        ∧ (core c t.dev).user = (core c f.1).mppUser ∧ (core c t.dev).mppUser = true ∧ (core c t.dev).x = (core c f.1).x) := by
  refine answers_instruction run live fetch (by simp) ok ?_
  simp only [coreOp, inDev]
  rw [execMret_core machine]
  exact ⟨rfl, rfl, rfl, rfl, rfl, rfl⟩

theorem csr_absent_answers (ok : f.2 = none) {num : Nat} (absent : csrRead c num f.1 = none) (k : CsrKind) (rdst : Fin 32) (src : Src) :
    Answers (.coreInstruction c short (.csr k rdst num src) env) s (EntersTrap c 2 f.1 s) := by
  refine answers_instruction run live fetch (by simp) ok ?_
  simp only [coreOp, inDev, csrExec_absent absent]
  exact illegal_enters c f.1 s

end

/-- Settles O19: each instruction is one of the operations above, on the device as the fetch leaves it. -/
theorem trapsAndWaiting : Obligations.TrapsAndWaiting := by
  unfold Obligations.TrapsAndWaiting
  intro s c short env run live w f enters
  refine ⟨fun ok => ⟨ecall_answers run live rfl ok, ebreak_answers run live rfl ok, illegal_answers run live rfl ok,
    mret_user_answers run live rfl ok, mret_answers run live rfl ok, fun allowed => ?wfi, ?fence,
    fun rdst num absent => csr_absent_answers run live rfl ok absent .write rdst (.reg 0)⟩,
    fun a fault => ?fault, fun nmi => ?nmi, fun maskable on pending direct => ?interrupt⟩
  case wfi => exact answers_instruction run live rfl (by simp) ok (execWfi_core short allowed)
  case fence =>
    exact answers_instruction run live rfl (by simp) ok ⟨advance_x c short f.1, advance_sameMemory c short f.1, advance_pc c short f.1⟩
  case fault => exact answers_fetch_fault run live rfl (by simp) fault ⟨exception_enters c 1 a f.1 s, trap_mtval ..⟩
  case nmi =>
    refine answers_interrupt run live ?_
    rw [takeInterrupt_nmi nmi]
    exact nmiTrap_core c w
  case interrupt =>
    refine answers_interrupt run live ?_
    rw [takeInterrupt_enabled maskable on pending]
    exact interrupt_enters c _ 0 direct s

end Sys2Proof.Machine

/-! Settling O21 (R31, R43, R44): loads, stores, reservations and atomics of a core. First what an access through the hub cache leaves
alone, said once for any part of the device that its own steps leave alone. -/
namespace Sys2Proof.Machine

/-- A relation between a device and a later one that every step of an access through the hub cache keeps: the step writes a register,
changes a page header, raises an event, changes what a memory or the cache holds, or has the cores drop a line. -/
structure AccessFrame (R : Dev → Dev → Prop) : Prop where
  refl : ∀ d, R d d
  trans : ∀ {a b c}, R a b → R b c → R a c
  wr : ∀ f v d, R d (wr f v d)
  onPage : ∀ b g d, R d (onPage b g d)
  raise : ∀ b k d, R d (raise b k d)
  mem : ∀ x d, R d { d with mem := x }
  cache : ∀ x d, R d { d with cache := x }
  dInval : ∀ ln writer d, R d (dInval ln writer d)

namespace AccessFrame
variable {R : Dev → Dev → Prop}

theorem ite {p : Prop} [Decidable p] {d a b : Dev} (ha : R d a) (hb : R d b) : R d (if p then a else b) := by
  split
  · exact ha
  · exact hb

variable (F : AccessFrame R)
include F

theorem when' {f : Dev → Dev} (hf : ∀ d, R d (f d)) (b : Bool) (d : Dev) : R d (when' b f d) := ite (hf d) (F.refl d)

theorem foldl {α : Type} {f : Dev → α → Dev} (hf : ∀ d a, R d (f d a)) (l : List α) (d : Dev) : R d (l.foldl f d) :=
  List.foldlRecOn (motive := R d) l f (F.refl d) (fun e h a _ => F.trans h (hf e a))

/-! ## Registers, counters, error classes -/

theorem wrs (fs : List (Fld × Nat)) (d : Dev) : R d (wrs fs d) := by
  induction fs generalizing d with
  | nil => exact F.refl d
  | cons p fs ih => exact F.trans (F.wr p.1 p.2 d) (ih _)

theorem bumpEv (b : Nat) (f : Fld) (k n : Nat) (d : Dev) : R d (bumpEv b f k n d) :=
  ite (F.refl d) (ite (F.trans (F.wr f _ d) (F.raise b k _)) (F.wr f _ d))

theorem errClass (b : Nat) {act : Dev → Dev} (ha : ∀ d, R d (act d)) (d : Dev) : R d (errClass b act d) :=
  ite (F.trans (F.onPage b _ d) (ha _)) (F.onPage b _ d)

theorem reason (k : Nat) (d : Dev) : R d (reason k d) := ite (F.refl d) (F.trans (F.wr _ _ d) (F.raise pgGlb 5 _))

/-! ## Homes of lines and the victim buffer -/

theorem touch (row w : Nat) (d : Dev) : R d (touch row w d) := ite (F.refl d) (F.cache _ d)

theorem homeWrite (ln : Nat) (ws : List Cw) (d : Dev) : R d (homeWrite ln ws d) := by
  have awake : R d (wakeSdram ln d) := ite (F.wr _ _ d) (F.refl d)
  exact F.trans awake (ite (F.trans (F.mem _ _) (F.mem _ _)) (F.mem _ _))

theorem vbOffer (k : Nat) (repl : Option Nat) (d : Dev) : R d (vbOffer k repl d) := by
  unfold Machine.vbOffer
  split
  · exact F.refl d
  · refine ite (F.refl d) (ite (ite (F.cache _ d) (F.refl d)) ?_)
    split
    · exact F.cache _ d
    · exact ite (F.cache _ d) (F.trans (F.cache _ d) (F.bumpEv _ _ _ _ _))

theorem vbAccept (k : Nat) (d : Dev) : R d (vbAccept k d) := by
  have placed : ∀ b ln ws repl e, R e (areaPut b ln ws repl e) := fun b ln ws repl e =>
    F.trans (F.cache _ e) (F.trans (F.bumpEv _ _ _ _ _) (F.when' (F.raise pgBuf 0) _ _))
  unfold Machine.vbAccept
  split
  · exact F.refl d
  next e _ =>
    have home := F.trans (F.cache _ d) (F.when' (F.homeWrite e.line.ln e.line.ws) e.line.dirty (vbErase k d))
    refine ite (F.refl d) ?_
    split
    · exact F.trans home (ite (placed _ _ _ _ _) (F.refl _))
    · exact home

theorem vbDrain (d : Dev) : R d (vbDrain d) := by
  have settled : ∀ k e, R e (vbSettle k e) := fun k e => F.trans (F.vbOffer k none e) (ite (F.refl _) (F.vbAccept k _))
  refine ite (F.refl d) ?_
  simp only
  split
  · exact F.raise pgHcc 4 d
  · exact F.trans (F.raise pgHcc 4 d) (settled _ _)

/-! ## Errors found in a memory -/

theorem noteFixed (k : MemKind) (n : Nat) (d : Dev) : R d (noteFixed k n d) := by
  have counted : ∀ f, R d (Machine.raise pgMep 0 (Machine.bumpEv pgMep f 9 n d)) := fun f =>
    F.trans (F.bumpEv pgMep f 9 n d) (F.raise pgMep 0 _)
  exact ite (F.refl d) (ite (F.trans (counted _) (F.raise pgDrc 0 _)) (counted _))

theorem fenceWay (w : Nat) (d : Dev) : R d (fenceWay w d) := by
  have out : ∀ (l : CLine) (e : Dev), R e (writeOut l e) := fun l e => ite (F.homeWrite l.ln l.ws e) (F.cache _ e)
  have clean : R d (cleanWay w d) := by
    refine F.foldl (fun e p => ite ?_ (F.refl e)) _ d
    split
    next l _ => exact F.trans (F.when' (out l) l.dirty e) (F.cache _ _)
    · exact F.refl e
  exact F.trans (F.trans (ite (F.refl d) (F.trans clean (F.wr _ _ _))) (F.raise pgHcc 5 _)) (F.reason 4 _)

theorem fenceBlock (a : Nat) (d : Dev) : R d (fenceBlock a d) := by
  have counted : ∀ e, R e (Machine.wr (BUF_MIRSTAT_FENCED (bufDieOf a)) (rd (BUF_MIRSTAT_FENCED (bufDieOf a)) e + 256) e) :=
    fun e => F.wr _ _ e
  exact F.trans (F.trans (ite (F.refl d) (F.trans (F.cache _ d) (F.when' counted _ _))) (F.raise pgBuf 2 _)) (F.reason 4 _)

theorem fenceRank (a : Nat) (d : Dev) : R d (fenceRank a d) :=
  F.trans (F.trans (F.wr _ _ d) (F.onPage pgDrc _ _)) (F.raise pgDrc 2 _)

theorem lastingMep (d : Dev) : R d (lastingMep d) :=
  F.trans (F.trans (F.onPage pgMep _ d) (F.raise pgMep 7 _)) (F.reason 4 _)

theorem noteError (kind : MemKind) (way ln k synd : Nat) (scrub : Bool) (d : Dev) : R d (noteError kind way ln k synd scrub d) := by
  have logged := F.trans (F.trans (F.wrs [(MEP_ERRLOG0_ADDR, (ln * 128 + 8 * k) / 8), (MEP_ERRLOG1_SYND, synd),
    (MEP_ERRLOG1_MEM, kind.code), (MEP_ERRLOG1_SCRUB, if scrub then 1 else 0), (MEP_ERRLOG1_WORD, k)] d)
    (F.bumpEv pgMep (if kind = .sdram then MEP_UECNT_SDRAM else MEP_UECNT_SRAM) 9 1 _)) (F.raise pgMep 1 _)
  match kind with
  | .local => exact F.trans logged (F.errClass pgMep F.lastingMep _)
  | .hubCache => exact F.trans logged (F.errClass pgHcc (F.fenceWay way) _)
  | .buffer => exact F.trans logged (F.errClass pgBuf (F.fenceBlock _) _)
  | .sdram => exact F.trans (F.trans logged (F.raise pgDrc 1 _)) (F.errClass pgDrc (F.fenceRank _) _)

theorem homeRead (ln : Nat) (scrub : Bool) (d : Dev) : R d (homeRead ln scrub d).1 := by
  have awake : R d (wakeSdram ln d) := ite (F.wr _ _ d) (F.refl d)
  unfold Machine.homeRead
  simp only
  split
  · exact F.trans awake (F.noteFixed _ _ _)
  · exact awake
  · exact F.trans (F.trans awake (F.noteError _ _ _ _ _ _ _)) (ite (F.homeWrite _ _ _) (F.refl _))

/-! ## Lines -/

theorem makeRoom (ln : Nat) (d : Dev) : R d (makeRoom ln d).1 := by
  unfold Machine.makeRoom
  simp only
  split
  · exact F.refl d
  · split
    · exact F.trans (F.trans (F.vbDrain d) (F.cache _ _)) (F.cache _ _)
    · exact F.vbDrain d

theorem install (l : CLine) (d : Dev) : R d (install l d) := by
  have room := F.makeRoom l.ln d
  unfold Machine.install
  split
  next e row w h =>
    rw [h] at room
    exact F.trans (F.trans room (F.cache _ _)) (F.touch _ _ _)
  next e h =>
    rw [h] at room
    exact F.trans room (F.when' (F.homeWrite l.ln l.ws) _ _)

theorem fetch (ln : Nat) (d : Dev) : R d (fetch ln d) := by
  have fromHome : ∀ e, R e (Machine.install ⟨ln, false, (Machine.homeRead ln false e).2.1⟩ (Machine.homeRead ln false e).1) :=
    fun e => F.trans (F.homeRead ln false e) (F.install _ _)
  have counted : ∀ b f k e, R e (Machine.bumpEv b f k 1 e) := fun b f k e => F.bumpEv b f k 1 e
  have missed := counted pgHcc HCC_MISSCNT_MISSES 6 d
  unfold Machine.fetch
  split
  · exact F.trans (counted _ _ _ d) (F.touch _ _ _)
  simp only
  split
  · split
    · exact F.trans missed (F.trans (F.trans (F.cache _ _) (counted _ _ _ _)) (F.install _ _))
    · exact missed
  split
  · exact F.trans missed (ite (F.trans (F.cache _ _) (F.trans (counted _ _ _ _) (F.install _ _))) (fromHome _))
  · exact F.trans missed (fromHome _)

theorem lineRead (ln : Nat) (d : Dev) : R d (lineRead ln d).1 := by
  have found := F.fetch ln d
  unfold Machine.lineRead
  split
  · exact F.homeRead ln false d
  simp only
  split
  · exact F.trans found (F.homeRead ln false _)
  split
  · exact F.trans found (F.homeRead ln false _)
  split
  · exact F.trans found (F.noteFixed _ _ _)
  · exact found
  · exact F.trans (F.trans found (F.noteError _ _ _ _ _ _ _)) (ite (F.cache _ _) (F.refl _))

theorem lineStore (ln : Nat) (ws : List Cw) (writer : Option Nat) (d : Dev) : R d (lineStore ln ws writer d) := by
  have inval := F.dInval ln writer d
  refine ite (F.trans inval (F.homeWrite _ _ _)) ?_
  split
  · exact F.trans (F.trans inval (F.cache _ _)) (F.touch _ _ _)
  · refine F.trans (F.trans inval ?_) (F.install _ _)
    split
    · exact F.trans (F.trans (F.cache _ _) (F.bumpEv pgHcc HCC_VICCNT_REINST 6 1 _)) (F.cache _ _)
    · exact F.cache _ _

theorem lineWrite (ln : Nat) (data : List (BitVec 64)) (writer : Option Nat) (d : Dev) : R d (lineWrite ln data writer d) := by
  have noted : R d (noteAccess ln d) := ite (F.refl d) (ite (F.bumpEv _ _ _ _ d) (F.bumpEv _ _ _ _ d))
  exact F.trans noted (F.lineStore _ _ _ _)

theorem lineMerge (ln off : Nat) (bs : List Nat) (writer : Option Nat) (d : Dev) : R d (lineMerge ln off bs writer d) :=
  F.trans (F.lineRead ln d) (F.lineStore _ _ _ _)

/-- A write of memory keeps what its steps keep. -/
theorem memWrite (a : Nat) (bs : List Nat) (writer : Option Nat) (d : Dev) : R d (memWrite a bs writer d) :=
  F.foldl (fun e _ => ite (F.lineWrite _ _ _ e) (F.lineMerge _ _ _ _ e)) _ d

end AccessFrame

/-! ## Integer registers under memory accesses and events -/

/-- Every core keeps its integer registers. -/
def SameIntegers (d e : Dev) : Prop := ∀ c, (core c e).x = (core c d).x

/-- A core is put back with its integer registers as they were. -/
theorem Store.get_put_x {cs : Store Core} {c : Nat} {y : Core} (h : y.x = (Store.get Core.reset c cs).x) (b : Nat) :
    (Store.get Core.reset b (Store.put Core.reset c y cs)).x = (Store.get Core.reset b cs).x := by
  by_cases same : b = c
  · rw [same, Store.get_put_same, h]
  · rw [Store.get_put_ne _ _ same]

/-- So they stay through a repetition that puts cores back so. -/
theorem foldl_x {f : Store Core → Nat → Store Core}
    (hf : ∀ cs k b, (Store.get Core.reset b (f cs k)).x = (Store.get Core.reset b cs).x) (l : List Nat) (cs : Store Core) (b : Nat) :
    (Store.get Core.reset b (l.foldl f cs)).x = (Store.get Core.reset b cs).x :=
  List.foldlRecOn (motive := fun e => (Store.get Core.reset b e).x = (Store.get Core.reset b cs).x) l f rfl
    (fun e h k _ => (hf e k b).trans h)

namespace SameIntegers

theorem trans {a b c : Dev} (h : SameIntegers a b) (k : SameIntegers b c) : SameIntegers a c := fun n => (k n).trans (h n)

theorem ite {p : Prop} [Decidable p] {d a b : Dev} (ha : SameIntegers d a) (hb : SameIntegers d b) :
    SameIntegers d (if p then a else b) := AccessFrame.ite ha hb

theorem of_cores {d e : Dev} (h : e.cores = d.cores) : SameIntegers d e := fun _ => congrArg Core.x (core_congr h)

theorem deliver (e sev mask : Nat) (d : Dev) : SameIntegers d (deliver e sev mask d) := by
  refine foldl_x (fun cs k b => ?_) _ d.cores
  split
  · dsimp only
    split
    · rfl
    · exact Store.get_put_x (by rfl) b
  · rfl

theorem dInval (ln : Nat) (writer : Option Nat) (d : Dev) : SameIntegers d (dInval ln writer d) := by
  refine foldl_x (fun cs k b => ?_) _ d.cores
  split
  · rfl
  · exact Store.get_put_x (by rfl) b

theorem raiseDrop (d : Dev) : SameIntegers d (raiseDrop d) := by
  have sent := (deliver (evBase pgLog + 1) (rd (EVT_ROUTE_SEV (evBase pgLog + 1)) d) (rd (EVT_ROUTE_CORES (evBase pgLog + 1)) d) d).trans
    (of_cores (noteStat_cores pgLog 1 _))
  exact ite (ite sent sent) (of_cores rfl)

theorem queueRec (r : LogRec) (d : Dev) : SameIntegers d (queueRec r d) := by
  unfold Machine.queueRec
  simp only
  split
  · exact trans (b := { d with recd := (logPush d.time r d.recd).1 }) (of_cores rfl) (raiseDrop _)
  · exact of_cores rfl

theorem occur (b k : Nat) (own : Option (Nat × List Nat)) (d : Dev) : SameIntegers d (occur b k own d) := by
  have noted : SameIntegers d (noteStat b k d) := of_cores rfl
  have sent : ∀ (go : Bool) (e sev : Nat) (m : Dev → Nat), SameIntegers d
      (if go then Machine.deliver e sev (m (noteStat b k d)) (noteStat b k d) else noteStat b k d) := fun go e sev m =>
    ite (noted.trans (deliver e sev _ _)) noted
  unfold Machine.occur
  simp only
  split
  · exact (sent _ _ _ _).trans (queueRec _ _)
  · exact ite ((sent _ _ _ _).trans (queueRec _ _)) (sent _ _ _ _)

theorem raise (b k : Nat) (d : Dev) : SameIntegers d (raise b k d) := ite (of_cores rfl) (occur b k none d)

theorem frame : AccessFrame SameIntegers where
  refl _ _ := rfl
  trans := trans
  wr _ _ _ := of_cores rfl
  onPage _ _ _ := of_cores rfl
  raise := raise
  mem _ _ := of_cores rfl
  cache _ _ := of_cores rfl
  dInval := dInval

end SameIntegers

/-! ## Loads and stores (R31, R43) -/

@[simp] theorem dFill_mem (c ln : Nat) (d : Dev) : (dFill c ln d).mem = d.mem := by
  unfold dFill
  simp only [onCore_mem]
  split <;> rfl

/-- A load of memory that can be reached and read gives the bytes there. Of the memories it leaves what the read leaves. -/
theorem coreLoad_mem {c a n b : Nat} {bs : List Nat} {s : State} (place : coreMap c a n s.dev = .mem b) (up : memUp b s.dev = true)
    (read : (memRead b n s.dev).2 = some bs) :
    (coreLoad c a n s).2 = some (leNat bs) ∧ (coreLoad c a n s).1.dev.mem = (memRead b n s.dev).1.mem := by
  have loaded : coreLoad c a n s = (inDev (fun _ => if (memRead b n s.dev).2.isSome && cacheable b s.dev
      && !(core c (memRead b n s.dev).1).dlines.contains (b / 128) then dFill c (b / 128) (memRead b n s.dev).1
      else (memRead b n s.dev).1) s, (memRead b n s.dev).2.map leNat) := by
    simp only [coreLoad, place, up, if_true]
  rw [loaded, read]
  refine ⟨rfl, ?_⟩
  simp only [inDev]
  split
  · exact dFill_mem _ _ _
  · rfl

/-- A store to memory that can be reached writes its bytes. -/
theorem coreStore_mem {c a n b : Nat} {s : State} (place : coreMap c a n s.dev = .mem b) (up : memUp b s.dev = true) (env : RegEnv)
    (v : Nat) : coreStore env c a n v s = (inDev (memWrite b (leBytes v n) (some c)) s, true) := by
  simp only [coreStore, place, up, if_true]

theorem coreStore_nowhere {c a n : Nat} {s : State} (place : coreMap c a n s.dev = .nowhere) (env : RegEnv) (v : Nat) :
    coreStore env c a n v s = (s, false) := by
  simp only [coreStore, place]

section
variable {c : Nat} {short sext : Bool} {n a : Nat} {rdst : Fin 32} {s : State}

theorem execLoad_misaligned (h : a % n ≠ 0) : execLoad c short n sext rdst a s = inDev (trap c 4 a false) s := if_pos h

theorem execLoad_denied (aligned : a % n = 0) (denied : pmpAllows c (dataUser c s.dev) .read a n s.dev = false) :
    execLoad c short n sext rdst a s = inDev (trap c 5 a false) s := by
  simp [execLoad, aligned, denied]

/-- A load of memory gives what is there; the memories are as the read leaves them. -/
theorem execLoad_mem {b : Nat} {bs : List Nat} (aligned : a % n = 0)
    (allowed : pmpAllows c (dataUser c s.dev) .read a n s.dev = true) (place : coreMap c a n s.dev = .mem b) (up : memUp b s.dev = true)
    (read : (memRead b n s.dev).2 = some bs) (h : rdst ≠ 0) :
    xr c rdst (execLoad c short n sext rdst a s).dev = extend sext n (leNat bs) % 2 ^ 64
      ∧ (execLoad c short n sext rdst a s).dev.mem = (memRead b n s.dev).1.mem := by
  obtain ⟨value, mem⟩ := coreLoad_mem place up read
  have loaded : execLoad c short n sext rdst a s
      = inDev (fun d => advance c short (setX c rdst (extend sext n (leNat bs)) d)) (coreLoad c a n s).1 := by
    simp [execLoad, aligned, allowed, value]
  rw [loaded]
  simp only [inDev, advance_xr, advance_mem, setX_mem]
  exact ⟨xr_setX_same h _ _ _, mem⟩

variable {env : RegEnv} {v : Nat}

theorem execStore_misaligned (h : a % n ≠ 0) : execStore env c short n a v s = inDev (trap c 6 a false) s := if_pos h

theorem execStore_denied (aligned : a % n = 0) (denied : pmpAllows c (dataUser c s.dev) .write a n s.dev = false) :
    execStore env c short n a v s = inDev (trap c 7 a false) s := by
  simp [execStore, aligned, denied]

/-- A store that leads nowhere takes the access fault of one that is denied. -/
theorem execStore_nowhere (aligned : a % n = 0) (place : coreMap c a n s.dev = .nowhere) :
    execStore env c short n a v s = inDev (trap c 7 a false) s := by
  simp [execStore, aligned, coreStore_nowhere place]

theorem execStore_mem (aligned : a % n = 0) (allowed : pmpAllows c (dataUser c s.dev) .write a n s.dev = true) {b : Nat}
    (place : coreMap c a n s.dev = .mem b) (up : memUp b s.dev = true) :
    execStore env c short n a v s
      = { s with dev := advance c short (memWrite b (leBytes (v % 2 ^ (8 * n)) n) (some c) s.dev) } := by
  simp [execStore, aligned, allowed, coreStore_mem place up, inDev]

end

/-! ## Reservations and atomics (R43) -/

section
variable {c n : Nat} {rdst rs rt : Fin 32} {s : State} {b : Nat} (aligned : xr c rs s.dev % n = 0)
  (place : coreMap c (xr c rs s.dev) n s.dev = .mem b)
include aligned place

theorem atomOp_lr (allowed : pmpAllows c (dataUser c s.dev) .read (xr c rs s.dev) n s.dev = true) :
    atomOp c .lr n rdst rs rt s = atomLr c n rdst (xr c rs s.dev) b s := by
  simp [atomOp, atomKind, aligned, place, allowed]

theorem atomOp_sc (allowed : pmpAllows c (dataUser c s.dev) .write (xr c rs s.dev) n s.dev = true) :
    atomOp c .sc n rdst rs rt s = atomSc c n rdst (xr c rs s.dev) b (xr c rt s.dev % 2 ^ (8 * n)) s := by
  simp [atomOp, atomKind, aligned, place, allowed]

theorem atomOp_amo (op : AmoOp) (allowed : pmpAllows c (dataUser c s.dev) .amo (xr c rs s.dev) n s.dev = true) :
    atomOp c (.amo op) n rdst rs rt s = atomAmo op c n rdst (xr c rs s.dev) (xr c rt s.dev % 2 ^ (8 * n)) s := by
  simp [atomOp, atomKind, aligned, place, allowed]

end

section
variable {c n a b : Nat} {rdst : Fin 32} {s : State}

/-- LR reserves the line and gives the value. -/
theorem atomLr_effect {v : Nat} (value : (coreLoad c a n s).2 = some v) :
    (core c (atomLr c n rdst a b s).dev).resv = some (b / 128)
      ∧ (rdst ≠ 0 → xr c rdst (atomLr c n rdst a b s).dev = extend true n v % 2 ^ 64) := by
  simp only [atomLr, value, inDev, advance_resv, setX_resv, core_onCore, advance_xr, true_and]
  exact fun h => xr_setX_same h _ _ _

/-- SC without the reservation stores nothing, and ends a reservation of another line. -/
theorem atomSc_lost {v : Nat} (other : (core c s.dev).resv ≠ some (b / 128)) :
    (core c (atomSc c n rdst a b v s).dev).resv = none ∧ SameMemory s.dev (atomSc c n rdst a b v s).dev
      ∧ (rdst ≠ 0 → xr c rdst (atomSc c n rdst a b v s).dev = 1) := by
  simp only [atomSc, if_neg other, inDev, advance_resv, setX_resv, core_onCore, advance_xr, SameMemory, advance_mem, advance_cache,
    setX_mem, setX_cache, onCore_mem, onCore_cache, true_and, and_self]
  exact fun h => xr_setX_same h c 1 _

/-- SC while the reservation holds the line stores, with the reservation ended. -/
theorem atomSc_held {v : Nat} (held : (core c s.dev).resv = some (b / 128)) (place : coreMap c a n s.dev = .mem b)
    (up : memUp b s.dev = true) :
    (rdst ≠ 0 → xr c rdst (atomSc c n rdst a b v s).dev = 0)
      ∧ (atomSc c n rdst a b v s).dev.mem
        = (memWrite b (leBytes v n) (some c) (onCore c (fun y => { y with resv := none }) s.dev)).mem := by
  have stored := coreStore_mem (s := inDev (onCore c (fun y => { y with resv := none })) s) place up noEnv v
  simp only [atomSc, if_pos held]
  rw [stored]
  simp only [inDev, advance_xr, advance_mem, setX_mem, and_true]
  exact fun h => xr_setX_same h c 0 _

/-- An AMO gives the old value. -/
theorem atomAmo_value {v w : Nat} (op : AmoOp) (value : (coreLoad c a n s).2 = some v) (h : rdst ≠ 0) :
    xr c rdst (atomAmo op c n rdst a w s).dev = extend true n v % 2 ^ 64 := by
  simp only [atomAmo, value, inDev, advance_xr]
  exact xr_setX_same h _ _ _

end

/-! ## The statement -/

/-- Core `c` has taken an exception of a memory access from device `d`: its cause and its address are there to be read, and no memory,
integer register or register of the device has changed. -/
def AccessTrap (c : CoreId) (d : Dev) (cause tval : Nat) (t : State) : Prop :=
  csrRaw c 0x342 t.dev = cause ∧ csrRaw c 0x343 t.dev = tval ∧ SameMemory d t.dev ∧ (core c t.dev).x = (core c d).x
    ∧ t.dev.regs = d.regs

theorem trap_accessTrap (c : CoreId) (cause tval : Nat) (s : State) :
    AccessTrap c s.dev cause tval (inDev (trap c cause tval false) s) := by
  refine ⟨trap_mcause .., trap_mtval .., trap_sameMemory .., ?_, trap_regs ..⟩
  simp only [inDev]
  rw [trap_core]

section
variable {c : CoreId} {s : State} {f : Dev × Option Nat} {P : State → Prop}
  (run : running s) (live : coreLive c s.dev = true)
  (fetch : coreFetch c false (onCore c (fun y => { y with wfi := false }) s.dev) = f) (ok : f.2 = none)
include run live fetch ok

theorem answers_load {sz : MemSize} {sext : Bool} {rdst rs : Fin 32} {off : Int} {env : RegEnv}
    (p : P (execLoad c false sz.bytes sext rdst (addrOf (xr c rs f.1) off) { s with dev := f.1 })) :
    Answers (.coreInstruction c false (.load sz sext rdst rs off) env) s P :=
  answers_instruction run live fetch (by simp) ok p

theorem answers_store {sz : MemSize} {rt rs : Fin 32} {off : Int} {env : RegEnv}
    (p : P (execStore env c false sz.bytes (addrOf (xr c rs f.1) off) (xr c rt f.1) { s with dev := f.1 })) :
    Answers (.coreInstruction c false (.store sz rt rs off) env) s P :=
  answers_instruction run live fetch (by simp) ok p

theorem answers_atomic {op : AtomOp} {dbl : Bool} {rdst rs rt : Fin 32}
    (p : P (atomOp c op (if dbl then 8 else 4) rdst rs rt { s with dev := f.1 })) :
    Answers (.lrScAmo c op dbl rdst rs rt) s P := by
  refine answers_onState run rfl ?_
  rwa [onFetch_ok live fetch ok]

/-- FENCE.I empties the instruction cache and advances. -/
theorem fenceI_answers : Answers (.fenceI c) s (fun t => (core c t.dev).icache = [] ∧ (core c t.dev).x = (core c f.1).x
    ∧ SameMemory f.1 t.dev ∧ (core c t.dev).pc = ((core c f.1).pc + 4) % 2 ^ 64) := by
  refine answers_onState run rfl ?_
  rw [onFetch_ok live fetch ok]
  simp [inDev, fenceI, SameMemory]

end

/-- Settles O21: the command is carried out on the device as the fetch leaves it, by the operation that the lemmas above describe. -/
theorem memoryInstructions : Obligations.MemoryInstructions := by
  unfold Obligations.MemoryInstructions
  intro s c rdst rs rt off sz env run live
  generalize fetch : coreFetch c false (onCore c (fun y => { y with wfi := false }) s.dev) = g
  intro f ok a n traps
  let t : State := { s with dev := f.1 }
  refine ⟨fun misaligned sext => ⟨?loadMisaligned, ?storeMisaligned⟩, fun aligned denied sext => ?loadDenied,
    fun aligned refused => ?storeRefused, fun b bs aligned allowed place up read h sext => ?load,
    fun b aligned allowed place up => ?store, fun b bs dbl aligned allowed place up read => ?lr,
    fun b dbl aligned allowed place other => ?scLost, fun b dbl aligned allowed place up held => ?scHeld,
    fun b bs op dbl aligned allowed place up read h => ?amo, fenceI_answers run live fetch ok⟩
  case loadMisaligned =>
    refine answers_load run live fetch ok ?_
    rw [execLoad_misaligned (s := t) misaligned]
    exact trap_accessTrap c 4 a _
  case storeMisaligned =>
    refine answers_store run live fetch ok ?_
    rw [execStore_misaligned (s := t) misaligned]
    exact trap_accessTrap c 6 a _
  case loadDenied =>
    refine answers_load run live fetch ok ?_
    rw [execLoad_denied (s := t) aligned denied]
    exact trap_accessTrap c 5 a _
  case storeRefused =>
    refine answers_store run live fetch ok ?_
    rcases refused with denied | nowhere
    · rw [execStore_denied (s := t) aligned denied]
      exact trap_accessTrap c 7 a _
    · rw [execStore_nowhere (s := t) aligned nowhere]
      exact trap_accessTrap c 7 a _
  case load => exact answers_load run live fetch ok (execLoad_mem (s := t) aligned allowed place up read h)
  case store =>
    refine answers_store run live fetch ok ?_
    rw [execStore_mem (s := t) aligned allowed place up]
    exact ⟨advance_mem _ _ _, (advance_x _ _ _).trans (SameIntegers.frame.memWrite b _ _ f.1 c)⟩
  case lr =>
    refine answers_atomic run live fetch ok ?_
    rw [atomOp_lr (s := t) aligned place allowed]
    exact atomLr_effect (coreLoad_mem (s := t) place up read).1
  case scLost =>
    refine answers_atomic run live fetch ok ?_
    rw [atomOp_sc (s := t) aligned place allowed]
    exact atomSc_lost (s := t) other
  case scHeld =>
    refine answers_atomic run live fetch ok ?_
    rw [atomOp_sc (s := t) aligned place allowed]
    exact atomSc_held (s := t) held place up
  case amo =>
    refine answers_atomic run live fetch ok ?_
    rw [atomOp_amo (s := t) aligned place op allowed]
    exact atomAmo_value op (coreLoad_mem (s := t) place up read).1 h

end Sys2Proof.Machine

/-! Settling O32 (R81, R83, R87), the parameter sets of a read channel, and O33, whose statement fails at a revolution index (R71, R186). -/
namespace Sys2Proof.Machine

/-! ## Arm dies -/

@[simp] theorem arm_onArm (n : Nat) (f : Arm → Arm) (d : Dev) : arm n (onArm n f d) = f (arm n d) := by
  simp [arm, onArm, setArm]

@[simp] theorem arm_wr (n : Nat) (f : Fld) (v : Nat) (d : Dev) : arm n (wr f v d) = arm n d := rfl
@[simp] theorem rd_onArm (f : Fld) (n : Nat) (g : Arm → Arm) (d : Dev) : rd f (onArm n g d) = rd f d := rfl

/-! ## Ranges of a store -/

/-- Writing a range leaves the keys below it alone. -/
theorem Store.get_puts_below {β : Type} [DecidableEq β] (f : Nat → β) (d : β) {i : Nat} (vs : List β) :
    ∀ {k : Nat} (m : Store β), i < k → Store.get d i (Store.puts f k vs m) = Store.get d i m := by
  induction vs with
  | nil => exact fun _ _ => rfl
  | cons v vs ih =>
    intro k m below
    rw [Store.puts, ih _ (Nat.lt_succ_of_lt below), Store.get_put_ne _ _ (Nat.ne_of_lt below)]

/-- A range reads as it was written. -/
theorem Store.get_puts {β : Type} [DecidableEq β] (f : Nat → β) (vs : List β) :
    ∀ (k j : Nat) (m : Store β) (h : j < vs.length), Store.get (f (k + j)) (k + j) (Store.puts f k vs m) = vs[j] := by
  induction vs with
  | nil => exact fun _ _ _ h => absurd h (Nat.not_lt_zero _)
  | cons v vs ih =>
    intro k j m h
    cases j with
    | zero => exact (Store.get_puts_below f _ vs _ (Nat.lt_succ_self k)).trans (Store.get_put_same _ _ _ _)
    | succ j =>
      have next := ih (k + 1) j (Store.put (f k) k v m) (Nat.lt_of_succ_lt_succ h)
      rwa [Nat.add_right_comm] at next

/-! ## Sets and staging buffers (R81, R83) -/

@[simp] theorem setMem_wr (n c : Nat) (f : Fld) (v : Nat) (d : Dev) : setMem n c (wr f v d) = setMem n c d := rfl
@[simp] theorem stageOf_wr (n c : Nat) (f : Fld) (v : Nat) (d : Dev) : stageOf n c (wr f v d) = stageOf n c d := rfl

/-- A change of the arm that leaves the sets of both channels leaves the sets. -/
theorem setMem_onArm {n : Nat} {f : Arm → Arm} {d : Dev} (a : (f (arm n d)).sets = (arm n d).sets)
    (j : (f (arm n d)).setsJ = (arm n d).setsJ) (c : Nat) : setMem n c (onArm n f d) = setMem n c d := by
  simp only [setMem, arm_onArm, a, j]

@[simp] theorem stageOf_putStage (n c : Nat) (ws : List Nat) (d : Dev) : stageOf n c (putStage n c ws d) = ws := by
  unfold stageOf putStage
  split <;> simp [*]

@[simp] theorem setMem_putStage (n c : Nat) (ws : List Nat) (d : Dev) : setMem n c (putStage n c ws d) = setMem n c d :=
  setMem_onArm (by split <;> rfl) (by split <;> rfl) c

@[simp] theorem setMem_putSetMem (n c : Nat) (m : Store Nat) (d : Dev) : setMem n c (putSetMem n c m d) = m := by
  unfold setMem putSetMem
  split <;> simp [*]

/-- The joker's sets are replaced. -/
theorem arm_putSetMem_joker (n : Nat) (m : Store Nat) (d : Dev) : arm n (putSetMem n 1 m d) = { arm n d with setsJ := m } :=
  arm_onArm n _ d

@[simp] theorem setMem_calSkip (n c b : Nat) (d : Dev) : setMem n b (calSkip n c d) = setMem n b d := by
  unfold calSkip
  split
  · exact setMem_onArm rfl rfl b
  · rfl

@[simp] theorem rd_calSkip (f : Fld) (n c : Nat) (d : Dev) : rd f (calSkip n c d) = rd f d := by
  unfold calSkip
  split <;> rfl

/-- The words of a set as installed. -/
theorem setMem_installSet_word (n c key : Nat) {ws : List Nat} {j : Nat} (h : j < ws.length) (d : Dev) :
    Store.get 0 (key + j) (setMem n c (installSet n c key ws d)) = ws.getD j 0 := by
  have word : ws.getD j 0 = ws[j] := by simp only [List.getD_eq_getElem?_getD, List.getElem?_eq_getElem h, Option.getD_some]
  rw [installSet, setMem_putSetMem, word]
  exact Store.get_puts (fun _ => 0) ws key j _ h

/-! ## Selection, access, commit and copy (R83, R87) -/

/-- The set that channel `c` has selected. -/
def selectedKey (n c : Nat) (d : Dev) : Nat := setKey (rd (RCH_SETSEL_VARIANT n c) d) (rd (RCH_SETSEL_SLOT n c) d)

/-- The device once a write of RCH_SETSEL has named a set. -/
def selSet (n c v : Nat) (d : Dev) : Dev := wr (RCH_SETSEL_VARIANT n c) (bits v 6 2) (wr (RCH_SETSEL_SLOT n c) (bits v 0 6) d)

theorem selectedKey_selSet (n c v : Nat) (d : Dev) : selectedKey n c (selSet n c v d) = setKey (bits v 6 2) (bits v 0 6) := by
  rw [selectedKey, selSet, rd_wr_fits _ (bits_mod v 6 2), rd_wr_lo (f := RCH_SETSEL_SLOT n c) (g := RCH_SETSEL_VARIANT n c) rfl rfl,
    rd_wr_fits _ (bits_mod v 0 6)]

/-- The pointer after an access: it wraps behind the last of the 64 words. -/
theorem rd_ptr_next (n c p : Nat) (d : Dev) :
    rd (RCH_SETCTL_PTR n c) (wr (RCH_SETCTL_PTR n c) ((p + 1) % 64) d) = (p + 1) % 64 := rd_wr_fits _ (Nat.mod_mod _ _) d

section
variable {n : ArmId} {ch : Chan} {d : Dev}

theorem setSelect_eq {v : Nat} (up : reach (pgRch n (chanNo ch)) d = true)
    (known : (RCH_SETSEL_VARIANT n (chanNo ch)).allows (bits v 6 2) = true) :
    setSelect n ch v d
      = let c := chanNo ch
        let e := selSet n c v d
        wr (RCH_SETCTL_PTR n c) 0 (putStage n c (Store.gets (fun _ => 0) (selectedKey n c e) 64 (setMem n c e)) e) := by
  simp only [setSelect, ifReach, up, known, if_true, selectedKey, selSet]

theorem setData_read (up : reach (pgRch n (chanNo ch)) d = true) :
    setData n ch none d
      = let c := chanNo ch
        let p := rd (RCH_SETCTL_PTR n c) d
        wr (RCH_SETCTL_PTR n c) ((p + 1) % 64) { d with rdata := (stageOf n c d).getD p 0 } := by
  simp only [setData, up, if_true]

theorem setData_write (up : reach (pgRch n (chanNo ch)) d = true) (v : Nat) :
    setData n ch (some v) d
      = let c := chanNo ch
        let p := rd (RCH_SETCTL_PTR n c) d
        wr (RCH_SETCTL_PTR n c) ((p + 1) % 64) (putStage n c ((stageOf n c d).set p (v % 2 ^ 32)) d) := by
  simp only [setData, up, if_true]

/-- The staging buffer holds a set whose last word is the CRC of the others. -/
def stageGood (n c : Nat) (d : Dev) : Prop := crc32c (wordBytes ((stageOf n c d).take 63)) = (stageOf n c d).getD 63 0

theorem setCommit_bad (up : reach (pgRch n (chanNo ch)) d = true) (bad : ¬ stageGood n (chanNo ch) d) :
    setCommit n ch d = raise (pgRch n (chanNo ch)) 3 (wr (RCH_SETCTL_BAD n (chanNo ch)) 1 d) := by
  simp only [setCommit, ifReach, up, if_true]
  exact if_pos bad

/-- A set that waits for a sector boundary on channel `c`. -/
def putPending (n c : Nat) (p : Nat × List Nat) (d : Dev) : Dev :=
  onArm n (fun a => if c = 0 then { a with pendA := some p } else { a with pendJ := some p }) d

theorem setMem_putPending (n c b : Nat) (p : Nat × List Nat) (d : Dev) : setMem n b (putPending n c p d) = setMem n b d :=
  setMem_onArm (by split <;> rfl) (by split <;> rfl) b

/-- A good set is in use and waits, or is installed. -/
theorem setCommit_good (up : reach (pgRch n (chanNo ch)) d = true) (good : stageGood n (chanNo ch) d) :
    setCommit n ch d
      = let c := chanNo ch
        let key := selectedKey n c d
        if setInUse n c key d then calSkip n c (wr (RCH_SETCTL_PEND n c) 1 (putPending n c (key, stageOf n c d) d))
        else calSkip n c (installSet n c key (stageOf n c d) d) := by
  simp only [setCommit, ifReach, up, if_true, selectedKey, putPending]
  exact if_neg (fun bad => bad good)

theorem setCopy_eq {n : ArmId} (up : reach (pgRch n 1) d = true) (free : chMode n 1 d ≠ chLive) :
    setCopy n d = wr (RCH_SETCTL_COPYBUSY n 1) 1 (onArm n (fun a => { a with copySrc := some a.sets }) d) := by
  simp only [setCopy, ifReach, up, if_true, if_neg free]

/-- A copy to a live joker is discarded. -/
theorem setCopy_live {n : ArmId} (live : chMode n 1 d = chLive) : setCopy n d = d := by
  simp only [setCopy, ifReach, live, if_true]
  split <;> rfl

theorem setCopyDone_eq {n : ArmId} {m : Store Nat} (copying : (arm n d).copySrc = some m) :
    setCopyDone n d = wr (RCH_SETCTL_COPYBUSY n 1) 0 (putSetMem n 1 m (onArm n (fun a => { a with copySrc := none }) d)) := by
  simp only [setCopyDone, copying]

end

/-! ## The statement of O32 -/

section
variable {s : State} (run : running s) (n : ArmId)
include run

section
variable {ch : Chan} (up : reach (pgRch n (chanNo ch)) s.dev = true)
include up

theorem setSelect_answers {v : Nat} (known : (RCH_SETSEL_VARIANT n (chanNo ch)).allows (bits v 6 2) = true) :
    Answers (.setSelect n ch v) s (fun t =>
      stageOf n (chanNo ch) t.dev
          = Store.gets (fun _ => 0) (setKey (bits v 6 2) (bits v 0 6)) 64 (setMem n (chanNo ch) s.dev)
        ∧ rd (RCH_SETCTL_PTR n (chanNo ch)) t.dev = 0 ∧ setMem n (chanNo ch) t.dev = setMem n (chanNo ch) s.dev) := by
  refine answers_onDev run rfl ?_
  simp only [setSelect_eq up known, selectedKey_selSet, stageOf_wr, stageOf_putStage, setMem_wr, setMem_putStage, rd_wr]
  exact ⟨rfl, rfl, rfl⟩

theorem setDataRead_answers :
    let p := rd (RCH_SETCTL_PTR n (chanNo ch)) s.dev
    Answers (.setDataAccess n ch none) s (fun t => t.dev.rdata = (stageOf n (chanNo ch) s.dev).getD p 0
      ∧ rd (RCH_SETCTL_PTR n (chanNo ch)) t.dev = (p + 1) % 64 ∧ t.dev.arms = s.dev.arms) := by
  refine answers_onDev run rfl ?_
  simp only [setData_read up, rd_ptr_next, true_and]
  exact ⟨rfl, rfl⟩

theorem setDataWrite_answers (v : Nat) :
    let p := rd (RCH_SETCTL_PTR n (chanNo ch)) s.dev
    Answers (.setDataAccess n ch (some v)) s (fun t =>
      stageOf n (chanNo ch) t.dev = (stageOf n (chanNo ch) s.dev).set p (v % 2 ^ 32)
        ∧ rd (RCH_SETCTL_PTR n (chanNo ch)) t.dev = (p + 1) % 64
        ∧ setMem n (chanNo ch) t.dev = setMem n (chanNo ch) s.dev) := by
  refine answers_onDev run rfl ?_
  simp only [setData_write up, rd_ptr_next, stageOf_wr, stageOf_putStage, setMem_wr, setMem_putStage, and_self]

theorem setCommit_bad_answers (bad : ¬ stageGood n (chanNo ch) s.dev) :
    Answers (.setCommit n ch) s (fun t => rd (RCH_SETCTL_BAD n (chanNo ch)) t.dev = 1 ∧ t.dev.arms = s.dev.arms) := by
  refine answers_onDev run rfl ?_
  simp only [setCommit_bad up bad, rd_raise, rd_wr, raise_arms, wr_arms, and_true]
  rfl

section
variable (good : stageGood n (chanNo ch) s.dev)
include good

theorem setCommit_waits_answers (used : setInUse n (chanNo ch) (selectedKey n (chanNo ch) s.dev) s.dev = true) :
    Answers (.setCommit n ch) s (fun t => rd (RCH_SETCTL_PEND n (chanNo ch)) t.dev = 1
      ∧ setMem n (chanNo ch) t.dev = setMem n (chanNo ch) s.dev) := by
  refine answers_onDev run rfl ?_
  simp only [setCommit_good up good, used, if_true, rd_calSkip, setMem_calSkip, rd_wr, setMem_wr, setMem_putPending, and_true]
  rfl

theorem setCommit_installs_answers (free : setInUse n (chanNo ch) (selectedKey n (chanNo ch) s.dev) s.dev = false) :
    Answers (.setCommit n ch) s (fun t => ∀ j, j < (stageOf n (chanNo ch) s.dev).length →
      Store.get 0 (selectedKey n (chanNo ch) s.dev + j) (setMem n (chanNo ch) t.dev) = (stageOf n (chanNo ch) s.dev).getD j 0) := by
  refine answers_onDev run rfl (fun j h => ?_)
  simp only [setCommit_good up good, free, Bool.false_eq_true, if_false, setMem_calSkip]
  exact setMem_installSet_word n _ _ h _

end
end

theorem setCopy_answers (up : reach (pgRch n 1) s.dev = true) (free : chMode n 1 s.dev ≠ chLive) :
    Answers (.setCopy n) s (fun t => rd (RCH_SETCTL_COPYBUSY n 1) t.dev = 1
      ∧ (arm n t.dev).copySrc = some (arm n s.dev).sets ∧ setMem n 1 t.dev = setMem n 1 s.dev) := by
  refine answers_onDev run rfl ?_
  simp only [setCopy_eq up free, arm_wr, arm_onArm, setMem_wr, rd_wr, true_and]
  exact ⟨rfl, setMem_onArm rfl rfl 1⟩

theorem setCopy_live_next (live : chMode n 1 s.dev = chLive) : exec (.setCopy n) s = .next s := by
  have discarded : exec (.setCopy n) s = .next { s with dev := setCopy n s.dev } := onDev_running run _
  rw [discarded, setCopy_live live]

theorem setCopyDone_answers {m : Store Nat} (copying : (arm n s.dev).copySrc = some m) :
    Answers (.setCopyDone n) s (fun t => rd (RCH_SETCTL_COPYBUSY n 1) t.dev = 0 ∧ setMem n 1 t.dev = m
      ∧ (arm n t.dev).copySrc = none ∧ (arm n t.dev).sets = (arm n s.dev).sets) := by
  refine answers_onDev run rfl ?_
  simp only [setCopyDone_eq copying, setMem_wr, setMem_putSetMem, rd_wr, arm_wr, arm_putSetMem_joker, arm_onArm, and_true]
  rfl

end

/-- Settles O32: each command is the operation on staging buffer and sets that the lemmas above give, one answer for a clause. -/
theorem parameterSets : Obligations.ParameterSets := by
  unfold Obligations.ParameterSets
  intro s n ch v run up
  refine ⟨setSelect_answers run n up, setDataRead_answers run n up, setDataWrite_answers run n up v, setCommit_bad_answers run n up,
    fun good => ⟨setCommit_waits_answers run n up good, setCommit_installs_answers run n up good⟩, ?copy,
    fun _ live => setCopy_live_next run n live, fun m copying => setCopyDone_answers run n copying⟩
  case copy =>
    rintro rfl free
    exact setCopy_answers run n up free

/-! ## A revolution index without a calibration run (R71) -/

theorem calIndex_noRuns {n : Nat} {d : Dev} (idle : (arm n d).calRuns = []) (pt : CalRead) : calIndex n pt d = d := by
  simp [calIndex, idle]

theorem rd_pitchSet {g : Fld} {n : Nat} (other : g.key ≠ (SRV_PITCH_TP n).key) (d : Dev) : rd g (pitchSet n d) = rd g d := by
  unfold pitchSet
  split
  · exact rd_wr_ne other _ _
  · rfl

/-- ARM_FMTCTL once a table has been loaded (R71). -/
def tableLoaded (n bad ok : Nat) (d : Dev) : Dev :=
  wrs [(ARM_FMTCTL_PEND n, 0), (ARM_FMTCTL_LOAD n, 0), (ARM_FMTCTL_VALID n, 1), (ARM_FMTCTL_BADMAP n, bad),
    (ARM_FMTCTL_STEPOK n, ok)] d

theorem rd_tableLoaded (n bad ok : Nat) (d : Dev) :
    rd (ARM_FMTCTL_PEND n) (tableLoaded n bad ok d) = 0 ∧ rd (ARM_FMTCTL_VALID n) (tableLoaded n bad ok d) = 1 := by
  simp only [tableLoaded, wrs]
  constructor
  · rw [rd_wr_lo, rd_wr_lo, rd_wr_lo, rd_wr_lo, rd_wr] <;> rfl
  · rw [rd_wr_lo, rd_wr_lo, rd_wr] <;> rfl

/-- A load ends with the table in force, whatever was read. -/
theorem rd_bandLoad (n : Nat) (d : Dev) :
    rd (ARM_FMTCTL_PEND n) (bandLoad n d) = 0 ∧ rd (ARM_FMTCTL_VALID n) (bandLoad n d) = 1 := by
  obtain ⟨bad, ok, e, load⟩ : ∃ bad ok e, bandLoad n d
      = pitchSet n (if bad = 0 then tableLoaded n bad ok e else raise (pgArm n) 3 (tableLoaded n bad ok e)) := by
    unfold bandLoad tableLoaded
    generalize List.range 512 = entries
    exact ⟨_, _, _, rfl⟩
  have event : ∀ g, rd g (if bad = 0 then tableLoaded n bad ok e else raise (pgArm n) 3 (tableLoaded n bad ok e))
      = rd g (tableLoaded n bad ok e) := fun g => by split <;> simp
  have pend : (ARM_FMTCTL_PEND n).key ≠ (SRV_PITCH_TP n).key := by simp only [Fld.key, ARM_FMTCTL_PEND, SRV_PITCH_TP]; omega
  have valid : (ARM_FMTCTL_VALID n).key ≠ (SRV_PITCH_TP n).key := by simp only [Fld.key, ARM_FMTCTL_VALID, SRV_PITCH_TP]; omega
  rw [load, rd_pitchSet pend, rd_pitchSet valid, event, event]
  exact rd_tableLoaded n bad ok e

/-- With no calibration run a revolution index loads a table that waits, unless a write is in progress. -/
theorem revolutionIndex_loads {s : State} {n : ArmId} (run : running s) (loaded : unloaded n s.dev = false)
    (waits : isSet (ARM_FMTCTL_PEND n) s.dev = true) (noBurst : (arm n s.dev).burst = none)
    (noGate : isSet (ALK_STAT_WG n) s.dev = false) (idle : (arm n s.dev).calRuns = []) (pt : CalRead) :
    Answers (.revolutionIndex n pt) s (fun t => rd (ARM_FMTCTL_PEND n) t.dev = 0 ∧ rd (ARM_FMTCTL_VALID n) t.dev = 1) := by
  refine answers_onDev run rfl ?_
  have loads : revIndex n pt s.dev = bandLoad n s.dev := by
    simp [revIndex, loaded, calIndex_noRuns idle, waits, noBurst, noGate]
  simp only [loads]
  exact rd_bandLoad n s.dev

/-! ## The statement of O33: a run of no kind -/

/-- Arm 0 track-following and write-settled, with a band-table load that waits for an index (R71) and a run in its list whose kind is 4,
where R182 has the kinds 0 to 3. -/
def strayRun : State :=
  let d := onArm 0 (fun a => { a with calRuns := [CalRun.start 4 0 0 false 0] }) State.reset.dev
  { State.reset with dev := wrs [(SRV_STAT_STATE 0, svFollow), (SRV_STAT_WROK 0, 1), (ARM_FMTCTL_PEND 0, 1)] d }

/-- It meets what the statement asks of a revolution index: no run of the kinds 0 to 3, no burst, no write gate. -/
theorem strayRun_premises :
    running strayRun ∧ unloaded 0 strayRun.dev = false ∧ isSet (ARM_FMTCTL_PEND 0) strayRun.dev = true
      ∧ (arm 0 strayRun.dev).burst = none ∧ isSet (ALK_STAT_WG 0) strayRun.dev = false
      ∧ (∀ q : Fin 4, calRun 0 q strayRun.dev = none) := by
  unfold running
  decide +kernel

/-- At the index the run takes its turn and raises write gate (R186), so the load goes on waiting. -/
theorem strayRun_waits :
    isSet (ALK_STAT_WG 0) (calIndex 0 ⟨false, 0, 0⟩ strayRun.dev) = true
      ∧ rd (ARM_FMTCTL_PEND 0) (revIndex 0 ⟨false, 0, 0⟩ strayRun.dev) = 1 := by
  decide +kernel

/-- Refutes O33: at a revolution index it looks for calibration runs of the kinds 0 to 3 only, and the model's state may list one of
another kind, whose write revolution holds a waiting band-table load back. No command starts such a run, and with no run in the list
the clause holds (`revolutionIndex_loads`): the statement lacks that premise. -/
theorem not_channelRolesAndBoundaries : ¬ Obligations.ChannelRolesAndBoundaries := by
  unfold Obligations.ChannelRolesAndBoundaries
  intro h
  obtain ⟨run, loaded, waits, noBurst, noGate, noRun⟩ := strayRun_premises
  obtain ⟨-, -, -, -, -, -, index⟩ := h strayRun 0 run
  obtain ⟨t, next, done, -⟩ := index ⟨false, 0, 0⟩ loaded waits noBurst noGate noRun
  have here : exec (.revolutionIndex 0 ⟨false, 0, 0⟩) strayRun
      = .next { strayRun with dev := revIndex 0 ⟨false, 0, 0⟩ strayRun.dev } := onDev_running run _
  obtain rfl := Host.Outcome.next.inj (next.symm.trans here)
  obtain ⟨-, pending⟩ := strayRun_waits
  exact absurd (pending.symm.trans done) (by decide)

end Sys2Proof.Machine

/-! Settling O36 (R101, R105, R114 to R119): frames on the arm link. First what the operations that the units of an arm die share do to
its registers and its state. -/
namespace Sys2Proof.Machine

/-! ## Arm dies and their registers -/

/-- Devices with the same arm dies have the same arm `n`. -/
theorem arm_congr {d e : Dev} (h : e.arms = d.arms) (n : Nat) : arm n e = arm n d := by simp [arm, h]

@[simp] theorem arm_onPage (n b : Nat) (g : PageHdr → PageHdr) (d : Dev) : arm n (onPage b g d) = arm n d := rfl
@[simp] theorem arm_raise (n b k : Nat) (d : Dev) : arm n (raise b k d) = arm n d := arm_congr (by simp) n
@[simp] theorem arm_setRaw (n b k : Nat) (v : Bool) (d : Dev) : arm n (setRaw b k v d) = arm n d := arm_congr (by simp) n
@[simp] theorem onArm_mem (n : Nat) (f : Arm → Arm) (d : Dev) : (onArm n f d).mem = d.mem := rfl
@[simp] theorem onArm_cache (n : Nat) (f : Arm → Arm) (d : Dev) : (onArm n f d).cache = d.cache := rfl
@[simp] theorem page_onArm (b n : Nat) (f : Arm → Arm) (d : Dev) : page b (onArm n f d) = page b d := rfl

/-- What a counter's step may change: the counter itself. -/
theorem bump_eq (b : Nat) (f : Fld) (k : Nat) (d : Dev) : ∃ v, bump b f k d = d ∨ bump b f k d = wr f v d := by
  unfold bump
  split
  · exact ⟨0, .inl rfl⟩
  · exact ⟨_, .inr rfl⟩

theorem bumpEv_eq (b : Nat) (f : Fld) (k n : Nat) (d : Dev) :
    ∃ v, bumpEv b f k n d = d ∨ bumpEv b f k n d = wr f v d ∨ bumpEv b f k n d = raise b k (wr f v d) := by
  unfold bumpEv
  split
  · exact ⟨0, .inl rfl⟩
  split
  · exact ⟨_, .inr (.inr rfl)⟩
  · exact ⟨_, .inr (.inl rfl)⟩

section
variable (b : Nat) (f : Fld) (k : Nat) (d : Dev)

@[simp] theorem bump_arms : (bump b f k d).arms = d.arms := by obtain ⟨v, e | e⟩ := bump_eq b f k d <;> simp [e]
@[simp] theorem bump_mem : (bump b f k d).mem = d.mem := by obtain ⟨v, e | e⟩ := bump_eq b f k d <;> simp [e]
@[simp] theorem bump_cache : (bump b f k d).cache = d.cache := by obtain ⟨v, e | e⟩ := bump_eq b f k d <;> simp [e]
@[simp] theorem arm_bump (n : Nat) : arm n (bump b f k d) = arm n d := arm_congr (bump_arms b f k d) n
@[simp] theorem page_bump (c : Nat) : page c (bump b f k d) = page c d := by obtain ⟨v, e | e⟩ := bump_eq b f k d <;> simp [e]

variable (n : Nat)

@[simp] theorem bumpEv_arms : (bumpEv b f k n d).arms = d.arms := by obtain ⟨v, e | e | e⟩ := bumpEv_eq b f k n d <;> simp [e]
@[simp] theorem bumpEv_mem : (bumpEv b f k n d).mem = d.mem := by obtain ⟨v, e | e | e⟩ := bumpEv_eq b f k n d <;> simp [e]
@[simp] theorem bumpEv_cache : (bumpEv b f k n d).cache = d.cache := by obtain ⟨v, e | e | e⟩ := bumpEv_eq b f k n d <;> simp [e]
@[simp] theorem arm_bumpEv (m : Nat) : arm m (bumpEv b f k n d) = arm m d := arm_congr (bumpEv_arms b f k d n) m

theorem rd_bumpEv_ne {g : Fld} (h : g.key ≠ f.key) : rd g (bumpEv b f k n d) = rd g d := by
  obtain ⟨v, e | e | e⟩ := bumpEv_eq b f k n d <;> simp [e, rd_wr_ne h]

end

/-! ## Inhibits (R103) -/

/-- In a field as wide as its number asks, bit `j` is the bit written. -/
theorem testBit_rd_wr {f : Fld} {j : Nat} (h : j < f.w) (v : Nat) (d : Dev) : (rd f (wr f v d)).testBit j = v.testBit j := by
  rw [rd_wr, Nat.testBit_mod_two_pow, decide_eq_true h, Bool.true_and]

theorem testBit_rd_setBit {f : Fld} {j k : Nat} (h : j < f.w) (d : Dev) :
    (rd f (setBit f k d)).testBit j = ((rd f d).testBit j || j == k) := by
  rw [setBit, testBit_rd_wr h, Nat.testBit_or, Nat.testBit_two_pow]
  simp [eq_comm, Bool.beq_eq_decide_eq]

/-- A bit that is cleared reads 0. -/
theorem testBit_rd_clrBit {f : Fld} {k : Nat} (h : k < f.w) (d : Dev) : (rd f (clrBit f k d)).testBit k = false := by
  unfold clrBit
  split
  next set =>
    rw [testBit_rd_wr h]
    rw [Nat.testBit_eq_decide_div_mod_eq] at set ⊢
    have down := Nat.sub_mul_div (rd f d) (2 ^ k) 1
    simp only [decide_eq_true_eq, decide_eq_false_iff_not, Nat.mul_one] at set down ⊢
    omega
  next clear => exact Bool.eq_false_iff.mpr clear

/-- The calibration runs of an arm as an inhibit that comes into force leaves them (R187). -/
def runsInhibited (n : Nat) (d : Dev) : Dev :=
  each 2 (fun q d => onCalRun n (q + 2) (fun r => { r with inhibited := r.inhibited || r.phase == 1 }) d) d

theorem inhibitSet_eq (n k : Nat) (d : Dev) : inhibitSet n k d =
    if (rd (WRP_WISTAT_SRC n) d).testBit k then d else inhibitRaw n (setBit (WRP_WISTAT_SRC n) k (runsInhibited n d)) := rfl

theorem arm_runsInhibited (n : Nat) (d : Dev) :
    arm n (runsInhibited n d) = { arm n d with calRuns := (arm n (runsInhibited n d)).calRuns } := by
  simp [runsInhibited, each, List.range_succ, onCalRun]

section
variable (n k : Nat) (d : Dev)

/-- An inhibit changes nothing of its arm but calibration runs, a lift only the inhibits that wait. -/
theorem arm_inhibitSet : arm n (inhibitSet n k d) = { arm n d with calRuns := (arm n (inhibitSet n k d)).calRuns } := by
  rw [inhibitSet_eq]
  split
  · rfl
  · simp only [inhibitRaw, setBit, arm_setRaw, arm_wr]
    exact arm_runsInhibited n d

theorem arm_inhibitLift : arm n (inhibitLift n k d) = { arm n d with inhNext := (arm n d).inhNext &&& (0x7FF - 2 ^ k) } := by
  simp only [inhibitLift, inhibitRaw, arm_setRaw, clrBit]
  split <;> simp

@[simp] theorem inhibitSet_mem : (inhibitSet n k d).mem = d.mem := by
  rw [inhibitSet_eq]
  split
  · rfl
  · simp [inhibitRaw, setBit, runsInhibited, each, List.range_succ, onCalRun, onArm, setArm]

@[simp] theorem inhibitSet_cache : (inhibitSet n k d).cache = d.cache := by
  rw [inhibitSet_eq]
  split
  · rfl
  · simp [inhibitRaw, setBit, runsInhibited, each, List.range_succ, onCalRun, onArm, setArm]

theorem rd_inhibitSet_ne {g : Fld} (h : g.key ≠ (WRP_WISTAT_SRC n).key) : rd g (inhibitSet n k d) = rd g d := by
  rw [inhibitSet_eq]
  split
  · rfl
  · simp only [inhibitRaw, rd_setRaw, setBit, rd_wr_ne h]
    rfl

theorem rd_inhibitLift_ne {g : Fld} (h : g.key ≠ (WRP_WISTAT_SRC n).key) : rd g (inhibitLift n k d) = rd g d := by
  simp only [inhibitLift, inhibitRaw, rd_setRaw, clrBit]
  split <;> simp [rd_wr_ne h]

/-- The sources in force after one more has come into force: those before, and this one. -/
theorem src_inhibitSet {j : Nat} (h : j < 11) :
    (rd (WRP_WISTAT_SRC n) (inhibitSet n k d)).testBit j = ((rd (WRP_WISTAT_SRC n) d).testBit j || j == k) := by
  rw [inhibitSet_eq]
  split
  next set =>
    by_cases e : j = k
    · simp [e, set]
    · simp [e]
  · rw [inhibitRaw, rd_setRaw, testBit_rd_setBit h]
    rfl

/-- A source that lifts is no longer in force. -/
theorem src_inhibitLift (h : k < 11) : (rd (WRP_WISTAT_SRC n) (inhibitLift n k d)).testBit k = false := by
  rw [inhibitLift, inhibitRaw, rd_setRaw, testBit_rd_clrBit h]

end

/-! ## A frame goes out (R105, R114, R119) -/

section
variable (n h v : Nat) (d : Dev)

/-- A code is sent as it is, or cut down to the limit of the heads that it reaches. -/
theorem clampCode_code : (clampCode n h v d).2 = min v (assistLim n h d) := by
  unfold clampCode
  split <;> simp <;> omega

@[simp] theorem clampCode_arms : (clampCode n h v d).1.arms = d.arms := by unfold clampCode; split <;> simp
@[simp] theorem clampCode_mem : (clampCode n h v d).1.mem = d.mem := by unfold clampCode; split <;> simp
@[simp] theorem clampCode_cache : (clampCode n h v d).1.cache = d.cache := by unfold clampCode; split <;> simp
@[simp] theorem arm_clampCode (m : Nat) : arm m (clampCode n h v d).1 = arm m d := arm_congr (clampCode_arms n h v d) m

theorem rd_clampCode_ne {g : Fld} (ne : g.key ≠ (WRP_ASSTAT_CLAMPS n).key) : rd g (clampCode n h v d).1 = rd g d := by
  unfold clampCode
  split
  · simp [rd_bumpEv_ne _ _ _ _ _ ne]
  · rfl

end

/-- A frame as it goes out: an ACODE or STBY code is cut down to the limit (R105). -/
def sentFrame (n : Nat) (f : Frame) (d : Dev) : Frame :=
  if frameClass f = 4 ∧ f.addr % 0x100 ≤ 1 ∧ f.read = false then
    { f with data := min f.data (assistLim n (f.addr / 0x100 % 16) d) }
  else f

/-- The arm link once a frame of those that wait is on it. -/
def linkTaken (f g : Frame) (a : Arm) : Arm := { a with frames := a.frames.erase f, frame := some g, sdio := requestBits g }

/-- With the link free the first frame that may go out is sent. -/
theorem sendFrame_first {n : ArmId} {f : Frame} {fs : List Frame} {d : Dev} (free : (arm n d).frame = none)
    (first : (arm n d).frames = f :: fs) (goes : (waitsForGate f && isSet (ALK_STAT_WG n) d) = false) :
    ∃ e : Dev, e.arms = d.arms ∧ SameMemory d e ∧ sendFrame n d = onArm n (linkTaken f (sentFrame n f d)) e := by
  have found : (f :: fs).find? (fun f => !(waitsForGate f && isSet (ALK_STAT_WG n) d)) = some f :=
    List.find?_cons_of_pos (by simp only [goes, Bool.not_false])
  by_cases code : frameClass f = 4 ∧ f.addr % 0x100 ≤ 1 ∧ f.read = false
  · refine ⟨(clampCode n (f.addr / 0x100 % 16) f.data d).1, by simp, ⟨by simp, by simp⟩, ?_⟩
    simp only [sendFrame, free, first, found, Option.isSome_none, Bool.false_eq_true, if_false, if_pos code, sentFrame, clampCode_code]
    rfl
  · refine ⟨d, rfl, ⟨rfl, rfl⟩, ?_⟩
    simp only [sendFrame, free, first, found, Option.isSome_none, Bool.false_eq_true, if_false, if_neg code, sentFrame]
    rfl

/-! ## The response (R114 to R117, R119, R120) -/

/-- The response that the frame on the link gets has been received, or has not come. -/
def frameHeard (n : ArmId) (f : Frame) (x : Option FrameRsp) (d : Dev) : Dev :=
  let d := onArm n (fun a => { a with frame := none }) d
  match x with
  | none => d
  | some y =>
    let d := when' f.raw (wr (ALK_FRMD_STATUS n) y.status) d
    when' (!f.raw) (onArm n (fun a => { a with frameAt := d.time })) d

/-- The frame has got no good response: it is to go out once more, or has failed after three retries. -/
def frameAgain (n : ArmId) (f : Frame) (c : Fld) (d : Dev) : Dev :=
  let d := linkFault n (bump (pgAlk n) c 1 d)
  if 3 ≤ f.tries then frameFailed n f d
  else onArm n (fun a => { a with frames := { f with tries := f.tries + 1 } :: a.frames }) d

/-- The CRC of a response does not fit what it covers (R115). -/
def crcBad (f : Frame) (y : FrameRsp) : Prop :=
  crc8 (if f.read then y.data * 256 + y.status else y.status) (if f.read then 24 else 8) ≠ y.crc

/-- No response, or one that asks for the frame once more (R116, R117). -/
def noGoodResponse (f : Frame) (x : Option FrameRsp) : Prop :=
  x = none ∨ ∃ y, x = some y ∧
    (crcBad f y ∨ (bits y.status 6 2 = 1 ∧ bits y.status 0 4 = 1) ∨ bits y.status 6 2 = 0 ∨ bits y.status 6 2 = 3)

section
variable {n : ArmId} {f : Frame} {d : Dev} (onLink : (arm n d).frame = some f)
include onLink

theorem frameResponse_none : frameResponse n none d = frameAgain n f (ALK_ERRCNT_NORESP n) (frameHeard n f none d) := by
  simp only [frameResponse, onLink]
  rfl

/-- A response by its CRC and its code. -/
theorem frameResponse_some (y : FrameRsp) : frameResponse n (some y) d =
    let e := frameHeard n f (some y) d
    if crc8 (if f.read then y.data * 256 + y.status else y.status) (if f.read then 24 else 8) ≠ y.crc then
      frameAgain n f (ALK_ERRCNT_CRCERR n) e
    else if bits y.status 6 2 = 2 then frameDone n f y e
    else if bits y.status 6 2 = 1 then
      if bits y.status 0 4 = 1 then frameAgain n f (ALK_ERRCNT_NAK n) e else frameFailed n f (bump (pgAlk n) (ALK_ERRCNT_NAK n) 1 e)
    else frameAgain n f (ALK_ERRCNT_NORESP n) e := by
  simp only [frameResponse, onLink]
  rfl

theorem frameResponse_again {x : Option FrameRsp} (bad : noGoodResponse f x) :
    ∃ c, frameResponse n x d = frameAgain n f c (frameHeard n f x d) := by
  rcases bad with rfl | ⟨y, rfl, bad⟩
  · exact ⟨_, frameResponse_none onLink⟩
  rw [frameResponse_some onLink]
  by_cases crc : crcBad f y
  · exact ⟨_, if_pos crc⟩
  simp only [crcBad] at bad crc
  simp only [if_neg crc]
  rcases bad with bad | ⟨code, reason⟩ | code | code
  · exact absurd bad crc
  · exact ⟨_, by simp only [code, reason]; rfl⟩
  · exact ⟨_, by simp only [code]; rfl⟩
  · exact ⟨_, by simp only [code]; rfl⟩

theorem frameResponse_good {y : FrameRsp} (code : bits y.status 6 2 = 2)
    (crc : crc8 (if f.read then y.data * 256 + y.status else y.status) (if f.read then 24 else 8) = y.crc) :
    frameResponse n (some y) d = frameDone n f y (frameHeard n f (some y) d) := by
  rw [frameResponse_some onLink]
  simp only [crc, code, ne_eq, not_true_eq_false, if_false, if_true]

end

section
variable (n : ArmId) (f : Frame) (x : Option FrameRsp) (d : Dev)

/-- With the response the link is free; its time is noted. -/
theorem arm_frameHeard : arm n (frameHeard n f x d) = { arm n d with frame := none, frameAt := (arm n (frameHeard n f x d)).frameAt } := by
  unfold frameHeard
  cases x with
  | none => simp
  | some y => cases h : f.raw <;> simp [when']

@[simp] theorem page_frameHeard (b : Nat) : page b (frameHeard n f x d) = page b d := by
  unfold frameHeard
  cases x with
  | none => rfl
  | some y => cases h : f.raw <;> simp [when']

theorem frameHeard_sameErrors : SameErrors d (frameHeard n f x d) := by
  refine ⟨?_, fun b => by simp⟩
  unfold frameHeard
  cases x with
  | none => rfl
  | some y => cases h : f.raw <;> rfl

theorem frameHeard_sameMemory : SameMemory d (frameHeard n f x d) := by
  unfold frameHeard
  cases x with
  | none => exact ⟨rfl, rfl⟩
  | some y => cases h : f.raw <;> exact ⟨rfl, rfl⟩

end

/-- A frame that goes out once more: it is counted in the ALK class and is the first of those that wait. -/
theorem frameAgain_retries {n : ArmId} {f : Frame} {c : Fld} {d : Dev} (quiet : promotes (pgAlk n) d = false) (tries : f.tries < 3) :
    frameAgain n f c d = onArm n (fun a => { a with frames := { f with tries := f.tries + 1 } :: a.frames })
      (countErr (pgAlk n) (bump (pgAlk n) c 1 d)) := by
  have counted := errClass_counts ((SameErrors.bump (pgAlk n) c 1 d).promotes (pgAlk n) |>.trans quiet)
  simp only [frameAgain, if_neg (Nat.not_le.mpr tries), linkFault, counted]

theorem frameAgain_fails {n : ArmId} {f : Frame} {c : Fld} {d : Dev} (quiet : promotes (pgAlk n) d = false) (tries : f.tries = 3) :
    frameAgain n f c d = frameFailed n f (countErr (pgAlk n) (bump (pgAlk n) c 1 d)) := by
  have counted := errClass_counts ((SameErrors.bump (pgAlk n) c 1 d).promotes (pgAlk n) |>.trans quiet)
  simp only [frameAgain, if_pos (Nat.le_of_eq tries.symm), linkFault, counted]

/-! ## A frame that has failed, and one that is done -/

/-- A failed frame: counted, and reported to firmware (R119). -/
def failReported (n : ArmId) (d : Dev) : Dev := raise (pgAlk n) 1 (wr (ALK_FRMCTL_FAIL n) 1 (bump (pgAlk n) (ALK_ERRCNT_FAILED n) 1 d))

/-- The state of the preamplifier's mode is not known to the die any more. -/
def modeLost (a : Arm) : Arm := { a with modeBad := true, framed := none }

/-- A frame of firmware's that fails leaves the request no longer busy. -/
theorem frameFailed_raw {n : ArmId} {f : Frame} (raw : f.raw = true) (d : Dev) :
    frameFailed n f d = wr (ALK_FRMCTL_BUSY n) 0 (failReported n d) := by
  simp only [frameFailed, raw, if_true]
  rfl

/-- A mode frame of the die's own that fails inhibits writing (R101). -/
theorem frameFailed_mode {n : ArmId} {f : Frame} (own : f.raw = false)
    (mode : frameClass f = 1 ∨ frameClass f = 4 ∨ frameClass f = 5) (d : Dev) :
    frameFailed n f d = inhibitSet n 6 (onArm n modeLost (failReported n d)) := by
  simp only [frameFailed, own, Bool.false_eq_true, if_false, if_pos mode]
  rfl

section
variable (n : ArmId) (d : Dev)

@[simp] theorem failReported_arms : (failReported n d).arms = d.arms := by simp [failReported]
@[simp] theorem failReported_mem : (failReported n d).mem = d.mem := by simp [failReported]
@[simp] theorem failReported_cache : (failReported n d).cache = d.cache := by simp [failReported]
@[simp] theorem arm_failReported (m : Nat) : arm m (failReported n d) = arm m d := arm_congr (failReported_arms n d) m

theorem rd_failReported : rd (ALK_FRMCTL_FAIL n) (failReported n d) = 1 := by
  rw [failReported, rd_raise, rd_wr]
  rfl

end

/-- A good response of a read of firmware's gives it the data (R114). -/
theorem frameDone_rawRead {n : ArmId} {f : Frame} (raw : f.raw = true) (read : f.read = true) (x : FrameRsp) (d : Dev) :
    frameDone n f x d = wr (ALK_FRMCTL_DONE n) 1 (wr (ALK_FRMCTL_BUSY n) 0 (wr (ALK_FRMD_DATA n) x.data d)) := by
  simp only [frameDone, raw, read, Bool.true_eq_false, and_false, if_false, if_true]
  rfl

/-- What a good response of the die's own write of HEADSEL says (R101): the inhibit of a lost mode may lift. -/
theorem frameDone_headsel {n : ArmId} {f : Frame} (addr : f.addr = 0x1000) (write : f.read = false) (own : f.raw = false) (x : FrameRsp)
    (d : Dev) : let e := wrs [(ALK_STAT_HEAD n, f.data % 8), (ALK_STAT_MODE n, bits f.data 4 2)] d
    frameDone n f x d = e ∨ frameDone n f x d = inhibitLift n 6 (onArm n (fun a => { a with modeBad := false }) e) := by
  simp only [frameDone, addr, write, own, and_self, if_true, Bool.false_eq_true, if_false]
  split
  · exact .inr rfl
  · exact .inl rfl

/-! ## The clauses of O36 -/

section
variable {n : ArmId} {f : Frame} {d : Dev}

/-- Whatever the response, the link is free with it, and the frames that wait are those before. -/
theorem frameHeard_free (x : Option FrameRsp) : (arm n (frameHeard n f x d)).frame = none := by rw [arm_frameHeard]
theorem frameHeard_frames (x : Option FrameRsp) : (arm n (frameHeard n f x d)).frames = (arm n d).frames := by rw [arm_frameHeard]

theorem total_countErr (b : Nat) (d : Dev) : (page b (countErr b d)).total = min 0xFFFF ((page b d).total + 1) := by
  rw [countErr, page_onPage]

@[simp] theorem countErr_mem (b : Nat) (d : Dev) : (countErr b d).mem = d.mem := rfl
@[simp] theorem countErr_cache (b : Nat) (d : Dev) : (countErr b d).cache = d.cache := rfl
@[simp] theorem arm_countErr (n b : Nat) (d : Dev) : arm n (countErr b d) = arm n d := rfl

/-- The error of a frame, counted in its counter and in its class. -/
def frameCounted (n : ArmId) (f : Frame) (c : Fld) (x : Option FrameRsp) (d : Dev) : Dev :=
  countErr (pgAlk n) (bump (pgAlk n) c 1 (frameHeard n f x d))

theorem frameCounted_sameMemory (c : Fld) (x : Option FrameRsp) : SameMemory d (frameCounted n f c x d) := by
  obtain ⟨mem, cache⟩ := frameHeard_sameMemory n f x d
  exact ⟨by simp [frameCounted, mem], by simp [frameCounted, cache]⟩

theorem arm_frameCounted (c : Fld) (x : Option FrameRsp) : arm n (frameCounted n f c x d) = arm n (frameHeard n f x d) := by
  simp [frameCounted]

theorem total_frameCounted (c : Fld) (x : Option FrameRsp) :
    (page (pgAlk n) (frameCounted n f c x d)).total = min 0xFFFF ((page (pgAlk n) d).total + 1) := by
  rw [frameCounted, total_countErr, page_bump, page_frameHeard]

variable (onLink : (arm n d).frame = some f) {x : Option FrameRsp} (bad : noGoodResponse f x) (quiet : promotes (pgAlk n) d = false)
include onLink bad quiet

/-- Without a good response a frame goes out once more, at most three times (R117). -/
theorem frameResponse_retries (tries : f.tries < 3) : ∃ c, frameResponse n x d =
    onArm n (fun a => { a with frames := { f with tries := f.tries + 1 } :: a.frames }) (frameCounted n f c x d) := by
  obtain ⟨c, again⟩ := frameResponse_again onLink bad
  exact ⟨c, again.trans (frameAgain_retries (((frameHeard_sameErrors n f x d).promotes _).trans quiet) tries)⟩

theorem frameResponse_fails (tries : f.tries = 3) : ∃ c, frameResponse n x d = frameFailed n f (frameCounted n f c x d) := by
  obtain ⟨c, again⟩ := frameResponse_again onLink bad
  exact ⟨c, again.trans (frameAgain_fails (((frameHeard_sameErrors n f x d).promotes _).trans quiet) tries)⟩

end

/-- The failure of a frame of firmware's: reported, the request no longer busy, nothing more. -/
theorem frameFailed_raw_clause {n : ArmId} {f : Frame} (raw : f.raw = true) (d : Dev) :
    rd (ALK_FRMCTL_FAIL n) (frameFailed n f d) = 1 ∧ rd (ALK_FRMCTL_BUSY n) (frameFailed n f d) = 0
      ∧ arm n (frameFailed n f d) = arm n d ∧ SameMemory d (frameFailed n f d) := by
  rw [frameFailed_raw raw]
  have apart : (ALK_FRMCTL_FAIL n).key ≠ (ALK_FRMCTL_BUSY n).key := by decide +revert
  exact ⟨(rd_wr_ne apart _ _).trans (rd_failReported n d), by rw [rd_wr]; rfl, by simp, by simp [SameMemory]⟩

/-- The failure of a mode frame: reported, writing inhibited, the mode not known. -/
theorem frameFailed_mode_clause {n : ArmId} {f : Frame} (own : f.raw = false)
    (mode : frameClass f = 1 ∨ frameClass f = 4 ∨ frameClass f = 5) (d : Dev) :
    rd (ALK_FRMCTL_FAIL n) (frameFailed n f d) = 1 ∧ (rd (WRP_WISTAT_SRC n) (frameFailed n f d)).testBit 6 = true
      ∧ (arm n (frameFailed n f d)).modeBad = true ∧ (arm n (frameFailed n f d)).frame = (arm n d).frame
      ∧ (arm n (frameFailed n f d)).frames = (arm n d).frames ∧ SameMemory d (frameFailed n f d) := by
  rw [frameFailed_mode own mode]
  have apart : (ALK_FRMCTL_FAIL n).key ≠ (WRP_WISTAT_SRC n).key := by decide +revert
  have after : arm n (inhibitSet n 6 (onArm n modeLost (failReported n d))) = _ := arm_inhibitSet n 6 _
  rw [arm_onArm, arm_failReported] at after
  refine ⟨(rd_inhibitSet_ne n 6 _ apart).trans (rd_failReported n d), ?_, ?_, ?_, ?_, by simp [SameMemory]⟩
  · rw [src_inhibitSet n 6 _ (by decide)]
    exact Bool.or_true _
  all_goals rw [after]; rfl

/-- A good response of firmware's read (R114): the request is done, and its data and status stand in FRMD. -/
theorem rawRead_clause {n : ArmId} {f : Frame} {d : Dev} (x : FrameRsp) (raw : f.raw = true) (read : f.read = true) :
    let e := frameDone n f x (frameHeard n f (some x) d)
    (arm n e).frame = none ∧ rd (ALK_FRMCTL_DONE n) e = 1 ∧ rd (ALK_FRMCTL_BUSY n) e = 0 ∧ rd (ALK_FRMD_DATA n) e = x.data % 2 ^ 16
      ∧ rd (ALK_FRMD_STATUS n) e = x.status % 256 := by
  have busyDone : (ALK_FRMCTL_BUSY n).key ≠ (ALK_FRMCTL_DONE n).key := by decide +revert
  have dataDone : (ALK_FRMD_DATA n).key ≠ (ALK_FRMCTL_DONE n).key := by decide +revert
  have dataBusy : (ALK_FRMD_DATA n).key ≠ (ALK_FRMCTL_BUSY n).key := by decide +revert
  have statusDone : (ALK_FRMD_STATUS n).key ≠ (ALK_FRMCTL_DONE n).key := by decide +revert
  have statusBusy : (ALK_FRMD_STATUS n).key ≠ (ALK_FRMCTL_BUSY n).key := by decide +revert
  have statusData : (ALK_FRMD_STATUS n).key ≠ (ALK_FRMD_DATA n).key := by decide +revert
  have status : rd (ALK_FRMD_STATUS n) (frameHeard n f (some x) d) = x.status % 256 := by
    simp only [frameHeard, raw, when', if_true, Bool.not_true, Bool.false_eq_true, if_false, rd_wr]
    rfl
  simp only [frameDone_rawRead raw read, arm_wr, rd_wr, rd_wr_ne busyDone, rd_wr_ne dataDone, rd_wr_ne dataBusy, rd_wr_ne statusDone,
    rd_wr_ne statusBusy, rd_wr_ne statusData, status]
  exact ⟨frameHeard_free _, rfl, rfl, rfl, trivial⟩

/-- A good response of a write of HEADSEL (R101): STAT shows the head and the mode that it names. -/
theorem headsel_clause {n : ArmId} {f : Frame} {d : Dev} (x : FrameRsp) (addr : f.addr = 0x1000) (write : f.read = false)
    (own : f.raw = false) (free : (arm n d).frame = none) :
    let e := frameDone n f x d
    (arm n e).frame = none ∧ rd (ALK_STAT_HEAD n) e = f.data % 8 ∧ rd (ALK_STAT_MODE n) e = bits f.data 4 2 := by
  have headMode : ∀ m : ArmId, (ALK_STAT_HEAD m).key ≠ (ALK_STAT_MODE m).key := by decide
  have headSrc : ∀ m : ArmId, (ALK_STAT_HEAD m).key ≠ (WRP_WISTAT_SRC m).key := by decide
  have modeSrc : ∀ m : ArmId, (ALK_STAT_MODE m).key ≠ (WRP_WISTAT_SRC m).key := by decide
  have head : f.data % 8 % 8 = f.data % 8 := Nat.mod_mod _ _
  have mode : bits f.data 4 2 % 2 ^ 2 = bits f.data 4 2 := bits_mod _ _ _
  dsimp only
  rcases frameDone_headsel addr write own x d with e | e <;> rw [e]
  · simp only [wrs, arm_wr, rd_wr_ne (headMode n), rd_wr]
    exact ⟨free, head, mode⟩
  · simp only [arm_inhibitLift, rd_inhibitLift_ne n 6 _ (headSrc n), rd_inhibitLift_ne n 6 _ (modeSrc n), wrs, arm_onArm, rd_onArm, arm_wr,
      rd_wr_ne (headMode n), rd_wr]
    exact ⟨free, head, mode⟩

/-- Firmware's frame as the registers of ALK give it (R119). -/
def askedFrame (n : ArmId) (d : Dev) : Frame := ⟨rd (ALK_FRMA_ADDR n) d, rd (ALK_FRMD_DATA n) d, isSet (ALK_FRMA_READ n) d, true, 0⟩

/-- It is refused for class 0xF, and as a write of MODE while a hand uses the link. -/
def askRefused (n : ArmId) (d : Dev) : Prop :=
  frameClass (askedFrame n d) = 15
    ∨ (frameClass (askedFrame n d) = 1 ∧ (askedFrame n d).read = false ∧ (framesOpen n d || handBusy n d) = true)

section
variable {s : State} {n : ArmId} (run : running s) (up : reach (pgAlk n) s.dev = true) (ready : rd (ALK_FRMCTL_BUSY n) s.dev = 0)
include run up ready

theorem rawFrame_refused (refused : askRefused n s.dev) :
    Answers (.rawFrameQueue n) s (fun t => rd (ALK_FRMCTL_REFUSED n) t.dev = 1 ∧ t.dev.arms = s.dev.arms) := by
  have notBusy : isSet (ALK_FRMCTL_BUSY n) s.dev = false := by simp [isSet, ready]
  refine answers_ifReach run up rfl ?_
  unfold askRefused askedFrame at refused
  simp only [notBusy, Bool.false_eq_true, if_false, if_pos refused, rd_raise, rd_wr, raise_arms]
  exact ⟨rfl, rfl⟩

theorem rawFrame_queued (taken : ¬askRefused n s.dev) :
    Answers (.rawFrameQueue n) s (fun t => rd (ALK_FRMCTL_BUSY n) t.dev = 1
      ∧ (arm n t.dev).frames = (arm n s.dev).frames ++ [askedFrame n s.dev]) := by
  have notBusy : isSet (ALK_FRMCTL_BUSY n) s.dev = false := by simp [isSet, ready]
  refine answers_ifReach run up rfl ?_
  unfold askRefused askedFrame at taken
  simp only [notBusy, Bool.false_eq_true, if_false, if_neg taken, rd_wr, arm_wr, arm_onArm]
  exact ⟨rfl, rfl⟩

end

/-- After the idle time in READ or WRITE mode the die sends its preamplifier back to READ mode (R118). -/
theorem preampIdle_queues {n : ArmId} {d : Dev} (mode : rd (ALK_STAT_MODE n) d = 2) (idle : (arm n d).burst = none)
    (passed : idleOver n d = true) :
    (⟨0x1000, selHead n d + 16, false, false, 0⟩ : Frame) ∈ (arm n (preampIdle n d)).frames
      ∧ preampIdle n d = { d with arms := (preampIdle n d).arms } := by
  have queued : preampIdle n d = headsel n (selHead n d) 1 d := if_pos ⟨mode, by simp [idle], passed⟩
  rw [queued]
  exact ⟨by simp [headsel, queueFrame], rfl⟩

/-- Settles O36: each clause is the equation of the link's operation that it names; only `frameResponse` has cases, its response by CRC
and code, and its retries by the number already spent. -/
theorem armLinkFrames : Obligations.ArmLinkFrames := by
  unfold Obligations.ArmLinkFrames
  intro s n f fs run
  refine ⟨fun free first goes => ?_, fun onLink x bad quiet => ⟨fun tries => ?_, fun tries raw => ?_, fun tries own mode => ?_⟩,
    fun x onLink code crc => ⟨fun raw read => ?_, fun addr write own => ?_⟩,
    fun up ready => ⟨fun refused => rawFrame_refused run up ready refused, fun taken => rawFrame_queued run up ready taken⟩,
    fun mode idle passed => answers_onDev run rfl (preampIdle_queues mode idle passed)⟩
  · obtain ⟨e, arms, memory, sent⟩ := sendFrame_first free first goes
    refine answers_onDev run rfl ?_
    rw [sent]
    have taken : arm n (onArm n (linkTaken f (sentFrame n f s.dev)) e) = linkTaken f (sentFrame n f s.dev) (arm n s.dev) := by
      rw [arm_onArm, arm_congr arms]
    exact ⟨by rw [taken]; rfl, by rw [taken]; rfl, by rw [taken, linkTaken, first, List.erase_cons_head], memory⟩
  · obtain ⟨c, again⟩ := frameResponse_retries onLink bad quiet tries
    refine answers_onDev run rfl ?_
    rw [again]
    simp only [arm_onArm, page_onArm, arm_frameCounted, frameHeard_free, frameHeard_frames, total_frameCounted, and_self]
  · obtain ⟨c, failed⟩ := frameResponse_fails onLink bad quiet tries
    obtain ⟨fail, busy, same, mem, cache⟩ := frameFailed_raw_clause (n := n) raw (frameCounted n f c x s.dev)
    obtain ⟨memory, cached⟩ := frameCounted_sameMemory (d := s.dev) (n := n) (f := f) c x
    refine answers_onDev run rfl ?_
    rw [failed]
    simp only [same, arm_frameCounted, frameHeard_free, frameHeard_frames]
    exact ⟨trivial, fail, busy, trivial, mem.trans memory, cache.trans cached⟩
  · obtain ⟨c, failed⟩ := frameResponse_fails onLink bad quiet tries
    obtain ⟨fail, src, lost, frame, frames, mem, cache⟩ := frameFailed_mode_clause (n := n) own mode (frameCounted n f c x s.dev)
    obtain ⟨memory, cached⟩ := frameCounted_sameMemory (d := s.dev) (n := n) (f := f) c x
    refine answers_onDev run rfl ?_
    rw [failed]
    simp only [frame, frames, arm_frameCounted, frameHeard_free, frameHeard_frames]
    exact ⟨trivial, trivial, fail, src, lost, mem.trans memory, cache.trans cached⟩
  · refine answers_onDev run rfl ?_
    rw [frameResponse_good onLink code crc]
    exact rawRead_clause x raw read
  · refine answers_onDev run rfl ?_
    rw [frameResponse_good onLink code crc]
    exact headsel_clause x addr write own (frameHeard_free _)

end Sys2Proof.Machine

/-! Settling O34 (R100, R101, R103, R104): the bit that shows write gate. -/
namespace Sys2Proof.Machine

/-- A write of sectors 0 to 7 that has started, for head 0 and track 9. -/
def startedWrite : Work := ⟨5, .hostWrite, 0, some 1, 0, noRec, 0, 8, 0, 9, 0, 0, false, 0, 0, 4, 0, true, 0, 0, []⟩

/-- Arm 0 write-settled on the band of that write, in WRITE mode, its assist type confirmed and its mode frames done. -/
def settledWrite : State :=
  let d := setHand 0 [startedWrite] State.reset.dev
  let d := onArm 0 (fun a => { a with bands := [⟨0, 0, 0, 9, 16, 8, 0, false, 0, 0, true⟩], caps := 16, framed := some 0 }) d
  let d := wrs [(SRV_STAT_STATE 0, svFollow), (SRV_STAT_WROK 0, 1), (ALK_STAT_MODE 0, 2), (ALK_CFG_PRESENT 0, 1), (ALK_ASSIST_TYPE 0, 1)] d
  { State.reset with dev := { d with time := 1000 } }

/-- The same state with 2 listed for the one bit of ALK_STAT.WG, which no write of a register leaves there. -/
def strayGate : State :=
  { settledWrite with dev := { settledWrite.dev with regs := Store.put 0 (ALK_STAT_WG 0).key 2 settledWrite.dev.regs } }

/-- It meets what the statement asks of a burst that may begin. -/
theorem strayGate_premises :
    let d := strayGate.dev
    running strayGate ∧ writingWork 0 d = some startedWrite ∧ isSet (SRV_STAT_WROK 0) d = true ∧ (arm 0 d).burst = none
      ∧ isSet (ALK_CFG_PRESENT 0) d = true ∧ trackWaits 0 (burstPlace 0 startedWrite d).2.1 d = false ∧ assistOk 0 d = true
      ∧ framesOpen 0 d = false
      ∧ (arm 0 d).framed = some (slotAt 0 (burstPlace 0 startedWrite d).1 (burstPlace 0 startedWrite d).2.1 d)
      ∧ rd (ALK_STAT_MODE 0) d = 2 ∧ (arm 0 d).frameAt + 125 ≤ d.time ∧ isSet (ALK_STAT_FLT 0) d = false ∧ (arm 0 d).fltBits ≤ 1
      ∧ selHead 0 d = (burstPlace 0 startedWrite d).1 ∧ rd (WRP_WISTAT_SRC 0) d = 0 := by
  unfold running
  decide +kernel

/-- The burst opens, and write gate, which reads as set already, stays as it is; from a clear bit it rises. -/
theorem burstStart_strayGate : (arm 0 (burstStart 0 strayGate.dev)).burst = some 5 ∧ rd (ALK_STAT_WG 0) (burstStart 0 strayGate.dev) = 2 := by
  decide +kernel

theorem burstStart_settledWrite :
    (arm 0 (burstStart 0 settledWrite.dev)).burst = some 5 ∧ rd (ALK_STAT_WG 0) (burstStart 0 settledWrite.dev) = 1 := by
  decide +kernel

/-- Refutes O34: with no burst under way ALK_STAT.WG may still be set, since no premise says that it is clear, and `gateOn` leaves a gate
that is up as it is. So where the registers list 2 for that one-bit field, the field does not read 1 after the burst's start. From the
same state with the bit clear the gate rises (`burstStart_settledWrite`): the statement wants `rd (ALK_STAT_WG n) s.dev ≤ 1`. -/
theorem not_handsAndBursts : ¬ Obligations.HandsAndBursts := by
  unfold Obligations.HandsAndBursts
  intro h
  obtain ⟨run, work, settled, noBurst, present, turn, assist, frames, framed, mode, done, noFlt, bits, head, noInhibit⟩ := strayGate_premises
  obtain ⟨-, -, bursts, -⟩ := h strayGate 0 startedWrite run
  obtain ⟨opens, -⟩ := bursts work settled noBurst present turn
  obtain ⟨t, next, -, gate, -⟩ := opens assist frames framed mode done noFlt bits head (.inl noInhibit)
  have here : exec (.writeBurstStart 0) strayGate = .next { strayGate with dev := burstStart 0 strayGate.dev } := onDev_running run _
  obtain rfl := Host.Outcome.next.inj (next.symm.trans here)
  obtain ⟨-, two⟩ := burstStart_strayGate
  exact absurd (two.symm.trans gate) (by decide)

end Sys2Proof.Machine

/-! Settling O35 (R105, R108 to R111): the sector whose result is judged. -/
namespace Sys2Proof.Machine

/-- A write of a relocation that is done but for the sectors that await their read-after-write; it belongs to command 1 and, unlike any
write that has written, is not marked as started. A read of a relocation under the same number. A read of command 1. -/
def twinWrite : Work := ⟨5, .relocWrite, 0, some 1, 0, noRec, 0, 0, 0, 9, 1, 0, false, 0, 0, 0, 0, false, 0, 0, []⟩
def twinRead : Work := { twinWrite with kind := .relocRead, ctx := none, started := true }
def ownRead : Work := { twinWrite with id := 6, kind := .hostRead, len := 8 }

/-- The sector of the write that has come round, and a read in flight. -/
def twinSector : RawSec := ⟨5, 7, 0, 36960, 0, 9, 0⟩
def inFlight (id sec : Nat) : Flight := ⟨id, sec, 0, [], [0], 37152, [], [], [], [], false, false, none, false⟩

/-- Arm 0 with channel A live and the joker failed, and the relocation of a zone whose buffer holds nothing yet. -/
def twinWork : State :=
  let d := setHand 0 [twinWrite, twinRead, ownRead] State.reset.dev
  let d := onArm 0 (fun a => { a with raws := [twinSector], flights := [inFlight 5 0, inFlight 6 0, inFlight 5 7] }) d
  let d := wrs [(GLB_FLXSTAT_UP 0, 1), (RCH_MODE_MODE 0 0, chLive), (RCH_MODE_MODE 0 1, chFailed)] d
  { State.reset with dev := { d with zon := { d.zon with cur := some ⟨0, 0, 0, [], []⟩ } } }

/-- The sector comes round without samples, with sync found at 0 and at 1; the check of the first decode fails. -/
def faultyCheck : RawIn := ⟨⟨[0, 1], [], [], false, false⟩, true, []⟩

/-- The device after a decode whose self-check has failed. -/
def checkFailed (n c : Nat) (d : Dev) : Dev :=
  selfCheckFail n c (bumpEv (pgRch n c) (RCH_ITERSUM_ITER n c) 7 1 (bumpEv (pgRch n c) (RCH_SECCNT_SECTORS n c) 7 1 d))

/-- The decoder of channel `c` may end early, and has an iteration. -/
def mayDecode (n c : Nat) (d : Dev) : Prop := isSet (RCH_LDPCCTL_ETERM n c) d = true ∧ 1 ≤ rd (WRP_RAWTHR_ITERMAX n) d

/-- The codeword of zeros carries reference tag 0. -/
theorem tagOf_zeros : tagOf (((List.replicate 4620 0).drop 4096).take 16) = 0 := by
  rw [List.drop_replicate, List.take_replicate]
  rfl

/-- The first decode of a sector without samples fails its self-check; the second, at the other sync, is the codeword of zeros and
passes only where the block is lost, as the device stands by then. -/
theorem rawDecode_faultyCheck {n c : Nat} {w : Work} {r : RawSec} {d : Dev} (serving : servePage n d = c)
    (syncs : positions n (rd (RCH_SYNCWIN_WIN n) d) [0, 1] d = ([0, 1], false, false)) (unfit : tagFits w r.sec 0 = false)
    (before : mayDecode n c d) (after : mayDecode n c (checkFailed n c d)) :
    (rawDecode n w r faultyCheck false d).2 =
      if lostBlk w r.sec (checkFailed n c d) then (some (some 1, 1), false) else (none, true) := by
  obtain ⟨eterm, iters⟩ := before
  obtain ⟨eterm', iters'⟩ := after
  simp only [rawDecode, serving, faultyCheck, syncs, Bool.false_eq_true, if_false, List.append_nil, List.zipIdx, List.foldl_cons,
    List.foldl_nil, channelDecode_nil _ _ _ _ eterm iters, flipBits, Bool.true_and, beq_self_eq_true, Bool.true_or, if_true]
  have failed : selfCheckFail n c (bumpEv (pgRch n c) (RCH_ITERSUM_ITER n c) 7 1 (bumpEv (pgRch n c) (RCH_SECCNT_SECTORS n c) 7 1 d))
      = checkFailed n c d := rfl
  simp only [failed, channelDecode_nil _ _ _ _ eterm' iters', zeros_are_a_codeword, tagOf_zeros, unfit, Bool.false_or, Bool.not_true,
    Bool.and_false]
  cases lostBlk w r.sec (checkFailed n c d) <;> rfl

/-- The verdict rests on those two decodes: the sector has no cause yet, the TRR reads it on channel `c`, and both syncs are tried. -/
def judgedByZeros (n c : Nat) (w : Work) (r : RawSec) (d : Dev) : Prop :=
  (r.cause = 0 ∧ deferring n d = false ∧ servePage n d = c ∧ tagFits w r.sec 0 = false)
    ∧ (1 ≤ rd (WRP_RAWTHR_ITERWEAK n) d ∧ 1 ≤ rd (WRP_RAWTHR_SYNCWEAK n) d
      ∧ positions n (rd (RCH_SYNCWIN_WIN n) d) [0, 1] d = ([0, 1], false, false))
    ∧ mayDecode n c d ∧ mayDecode n c (checkFailed n c d)

/-- The verdict is then a pass with the block lost, and a failed check without. -/
theorem rawVerdict_faultyCheck {n c : Nat} {w : Work} {r : RawSec} {d : Dev} (judged : judgedByZeros n c w r d) :
    (rawVerdict n w r faultyCheck false d).2 = if lostBlk w r.sec (checkFailed n c d) then (true, 0) else (false, 2) := by
  obtain ⟨⟨fresh, byTrr, serving, unfit⟩, ⟨iters, sync, syncs⟩, before, after⟩ := judged
  have sound : adcFailed faultyCheck.io.t faultyCheck.io.l faultyCheck.io.openT = false := by decide
  have decoded := rawDecode_faultyCheck serving syncs unfit before after
  simp only [rawVerdict, fresh, ne_eq, not_true_eq_false, if_false, byTrr, Bool.false_eq_true, sound]
  cases lost : lostBlk w r.sec (checkFailed n c d) <;> simp only [lost, if_true, Bool.false_eq_true, if_false] at decoded
  · simp [decoded]
  · simp [decoded, b2n]
    omega

/-- A sector that fails is appended to those to be rewritten. -/
theorem rawOne_fails {n k : Nat} {w : Work} {r : RawSec} {rs : List RawSec} {x : RawIn} {d : Dev} (raws : (arm n d).raws = r :: rs)
    (item : work n r.work d = some w) (unforced : isSet (TST_FRC_RAW n) d = false)
    (fails : (rawVerdict n w r x false (onArm n (fun a => { a with raws := rs }) d)).2 = (false, k)) :
    (arm n (rawOne n x d)).rewrites ≠ [] := by
  have unforced' : isSet (TST_FRC_RAW n) (onArm n (fun a => { a with raws := rs }) d) = false := unforced
  have item' : work n r.work (onArm n (fun a => { a with raws := rs }) d) = some w := item
  simp [rawOne, raws, item', unforced', fails, when']

/-- The device of `twinWork` as the model judges its sector: taken out of those that await their result. -/
def twinJudged : Dev := onArm 0 (fun a => { a with raws := [] }) twinWork.dev

theorem twinWork_premises :
    running twinWork ∧ (arm 0 twinWork.dev).raws = [twinSector] ∧ work 0 5 twinWork.dev = some twinWrite
      ∧ rd (TST_FRC_RAW 0) twinWork.dev = 0 ∧ dieUp (.arm 0) twinWork.dev = true ∧ twinSector.ready ≤ twinWork.dev.time
      ∧ hasChannel 0 twinWork.dev = true ∧ (rdrs 0 twinWork.dev).contains 1 = true := by
  unfold running
  decide +kernel

/-- The failed check leaves the arm without a channel. While the sector still awaits its result, its write stays in the hand until the
end of command 1 takes it, and the last read in flight is then found under its number and lost. -/
theorem twinWork_passes : (rawVerdict 0 twinWrite twinSector faultyCheck false twinWork.dev).2 = (true, 0) := by
  have judged : judgedByZeros 0 0 twinWrite twinSector twinWork.dev := by
    unfold judgedByZeros mayDecode
    decide +kernel
  have lost : lostBlk twinWrite twinSector.sec (checkFailed 0 0 twinWork.dev) = true := by decide +kernel
  rw [rawVerdict_faultyCheck judged, lost]
  rfl

/-- As the model judges it, the first read in flight takes every item of that number out of the hand: nothing is lost. -/
theorem twinJudged_fails : (rawVerdict 0 twinWrite twinSector faultyCheck false twinJudged).2 = (false, 2) := by
  have judged : judgedByZeros 0 0 twinWrite twinSector twinJudged := by
    unfold judgedByZeros mayDecode
    decide +kernel
  have kept : lostBlk twinWrite twinSector.sec (checkFailed 0 0 twinJudged) = false := by decide +kernel
  rw [rawVerdict_faultyCheck judged, kept]
  rfl

/-- Refutes O35: the statement judges the sector on the state before the step (`rawVerdict … s.dev`), in which the sector still awaits its
result, where the model first takes it out of `raws` (`rawOne`). The two differ when a failed check leaves the arm without a channel: the
reads in flight are then declared lost, and `workEnd` drops a finished item unless a sector of it stands in `raws`. With a read and a
write under one number, which no premise shuts out, the verdict on `s.dev` is a pass, and the model's a failure: the sector is to be
rewritten though the statement says that `rewrites` stays. -/
theorem not_assistTripsAndVerification : ¬ Obligations.AssistTripsAndVerification := by
  unfold Obligations.AssistTripsAndVerification
  intro h
  obtain ⟨run, raws, item, unforced, up, ready, channel, trr⟩ := twinWork_premises
  obtain ⟨-, -, -, sectors⟩ := h twinWork 0 run
  obtain ⟨byTrr, -⟩ := sectors twinSector [] twinWrite faultyCheck raws item unforced up
  obtain ⟨t, next, -, -, passed⟩ := byTrr (.inr ⟨ready, channel, trr⟩)
  have here : exec (.rawResult 0 faultyCheck) twinWork = .next { twinWork with dev := rawResult 0 faultyCheck twinWork.dev } :=
    onDev_running run _
  obtain rfl := Host.Outcome.next.inj (next.symm.trans here)
  have judged : rawResult 0 faultyCheck twinWork.dev = rawOne 0 faultyCheck twinWork.dev := by
    simp [rawResult, up, raws, ready, channel, List.contains_iff_mem.mp trr]
  have notForced : isSet (TST_FRC_RAW 0) twinWork.dev = false := by rw [isSet, unforced]; rfl
  have fails : (arm 0 (rawOne 0 faultyCheck twinWork.dev)).rewrites ≠ [] :=
    rawOne_fails (r := twinSector) raws item notForced twinJudged_fails
  have noRewrite : (arm 0 twinWork.dev).rewrites = [] := by decide +kernel
  have same := passed twinWork_passes
  dsimp only at same
  rw [show ((0 : ArmId) : Nat) = 0 from rfl, judged, noRewrite] at same
  exact fails same

end Sys2Proof.Machine

/-! Settling O37 (R104, R106, R120, R123): preamplifier faults and the power-up of an arm die. First what the hub does, in its caches,
memories and zone table, that leaves the arm dies alone. -/
namespace Sys2Proof.Machine

/-! ## What the hub does leaves the arm dies alone -/

/-- A register that the hub may write while it works on its memories and zones: before the pages of the arm dies, or BUF_MIRSTAT.FENCED,
whose place in its word no register of an arm shares. -/
abbrev HubField (f : Fld) : Prop := f.key < 0x120000 * 32 ∨ f.key % 32 = 16

/-- From `d` to `e` the arm dies stay, and so do the registers that the hub does not write. -/
structure ArmsKept (d e : Dev) : Prop where
  arms : e.arms = d.arms
  regs : ∀ g : Fld, ¬HubField g → rd g e = rd g d

namespace ArmsKept

theorem refl (d : Dev) : ArmsKept d d := ⟨rfl, fun _ _ => rfl⟩

theorem trans {a b c : Dev} (h : ArmsKept a b) (k : ArmsKept b c) : ArmsKept a c :=
  ⟨k.arms.trans h.arms, fun g hg => (k.regs g hg).trans (h.regs g hg)⟩

theorem ite {p : Prop} [Decidable p] {d a b : Dev} (ha : ArmsKept d a) (hb : ArmsKept d b) : ArmsKept d (if p then a else b) :=
  AccessFrame.ite ha hb

theorem when' {f : Dev → Dev} (hf : ∀ d, ArmsKept d (f d)) (b : Bool) (d : Dev) : ArmsKept d (when' b f d) := ite (hf d) (refl d)

theorem foldl {α : Type} {f : Dev → α → Dev} (hf : ∀ d a, ArmsKept d (f d a)) (l : List α) (d : Dev) : ArmsKept d (l.foldl f d) :=
  List.foldlRecOn (motive := ArmsKept d) l f (refl d) (fun e h a _ => h.trans (hf e a))

theorem each {f : Nat → Dev → Dev} (hf : ∀ k d, ArmsKept d (f k d)) (n : Nat) (d : Dev) : ArmsKept d (each n f d) :=
  foldl (fun d k => hf k d) _ d

theorem mem (x : Memory) (d : Dev) : ArmsKept d { d with mem := x } := ⟨rfl, fun _ _ => rfl⟩
theorem cache (x : Cache) (d : Dev) : ArmsKept d { d with cache := x } := ⟨rfl, fun _ _ => rfl⟩
theorem zon (x : ZoneEng) (d : Dev) : ArmsKept d { d with zon := x } := ⟨rfl, fun _ _ => rfl⟩
theorem onPage (b : Nat) (f : PageHdr → PageHdr) (d : Dev) : ArmsKept d (onPage b f d) := ⟨rfl, fun _ _ => rfl⟩
theorem dInval (ln : Nat) (writer : Option Nat) (d : Dev) : ArmsKept d (dInval ln writer d) := ⟨rfl, fun _ _ => rfl⟩
theorem raise (b k : Nat) (d : Dev) : ArmsKept d (raise b k d) := ⟨raise_arms b k d, fun g _ => rd_raise g b k d⟩

theorem wr (f : Fld) (v : Nat) (d : Dev) (h : HubField f) : ArmsKept d (wr f v d) :=
  ⟨rfl, fun g hg => rd_wr_ne (fun same => hg (by rwa [HubField, same])) v d⟩

theorem wrs (fs : List (Fld × Nat)) (d : Dev) (h : ∀ p ∈ fs, HubField p.1) : ArmsKept d (wrs fs d) := by
  induction fs generalizing d with
  | nil => exact refl d
  | cons p fs ih => exact (wr p.1 p.2 d (h p List.mem_cons_self)).trans (ih _ fun q hq => h q (List.mem_cons_of_mem p hq))

theorem bumpEv (b : Nat) (f : Fld) (k n : Nat) (d : Dev) (h : HubField f) : ArmsKept d (bumpEv b f k n d) :=
  ite (refl d) (ite ((wr f _ d h).trans (raise b k _)) (wr f _ d h))

theorem errClass (b : Nat) {act : Dev → Dev} (ha : ∀ d, ArmsKept d (act d)) (d : Dev) : ArmsKept d (errClass b act d) :=
  ite ((onPage b _ d).trans (ha _)) (onPage b _ d)

theorem reason (k : Nat) (d : Dev) : ArmsKept d (reason k d) := ite (refl d) ((wr _ _ d (by decide)).trans (raise pgGlb 5 _))

/-! ### The hub cache and the memories behind it -/

theorem touch (row w : Nat) (d : Dev) : ArmsKept d (touch row w d) := ite (refl d) (cache _ d)

theorem wakeSdram (ln : Nat) (d : Dev) : ArmsKept d (wakeSdram ln d) := ite (wr _ _ d (by decide)) (refl d)

theorem homeWrite (ln : Nat) (ws : List Cw) (d : Dev) : ArmsKept d (homeWrite ln ws d) :=
  (wakeSdram ln d).trans (ite ((mem _ _).trans (mem _ _)) (mem _ _))

theorem vbOffer (k : Nat) (repl : Option Nat) (d : Dev) : ArmsKept d (vbOffer k repl d) := by
  unfold Machine.vbOffer
  split
  · exact refl d
  · refine ite (refl d) (ite (ite (cache _ d) (refl d)) ?_)
    split
    · exact cache _ d
    · exact ite (cache _ d) ((cache _ d).trans (bumpEv _ _ _ _ _ (by decide)))

theorem vbAccept (k : Nat) (d : Dev) : ArmsKept d (vbAccept k d) := by
  have placed : ∀ b ln ws repl e, ArmsKept e (areaPut b ln ws repl e) := fun b ln ws repl e =>
    (cache _ e).trans ((bumpEv _ _ _ _ _ (by decide)).trans (when' (raise pgBuf 0) _ _))
  unfold Machine.vbAccept
  split
  · exact refl d
  next e _ =>
    have home : ArmsKept d (Machine.when' e.line.dirty (Machine.homeWrite e.line.ln e.line.ws) (vbErase k d)) :=
      (cache _ d).trans (when' (homeWrite e.line.ln e.line.ws) e.line.dirty _)
    refine ite (refl d) ?_
    split
    · exact home.trans (ite (placed _ _ _ _ _) (refl _))
    · exact home

theorem vbDrain (d : Dev) : ArmsKept d (vbDrain d) := by
  have settled : ∀ k e, ArmsKept e (vbSettle k e) := fun k e => (vbOffer k none e).trans (ite (refl _) (vbAccept k _))
  refine ite (refl d) ?_
  simp only
  split
  · exact raise pgHcc 4 d
  · exact (raise pgHcc 4 d).trans (settled _ _)

theorem noteFixed (k : MemKind) (n : Nat) (d : Dev) : ArmsKept d (noteFixed k n d) :=
  ite (refl d) (ite (((bumpEv _ _ _ _ d (by decide)).trans (raise pgMep 0 _)).trans (raise pgDrc 0 _))
    ((bumpEv _ _ _ _ d (by decide)).trans (raise pgMep 0 _)))

theorem fenceWay (w : Nat) (d : Dev) : ArmsKept d (fenceWay w d) := by
  have out : ∀ (l : CLine) (e : Dev), ArmsKept e (writeOut l e) := fun l e => ite (homeWrite l.ln l.ws e) (cache _ e)
  have clean : ArmsKept d (cleanWay w d) := by
    refine foldl (fun e p => ite ?_ (refl e)) _ d
    split
    next l _ => exact (when' (out l) l.dirty e).trans (cache _ _)
    · exact refl e
  exact ((ite (refl d) (clean.trans (wr _ _ _ (by decide)))).trans (raise pgHcc 5 _)).trans (reason 4 _)

theorem fenceBlock (a : Nat) (d : Dev) : ArmsKept d (fenceBlock a d) := by
  have half : HubField (BUF_MIRSTAT_FENCED (bufDieOf a)) := .inr (by simp only [Fld.key, BUF_MIRSTAT_FENCED]; omega)
  have counted : ∀ e, ArmsKept e (Machine.wr (BUF_MIRSTAT_FENCED (bufDieOf a)) (rd (BUF_MIRSTAT_FENCED (bufDieOf a)) e + 256) e) :=
    fun e => wr _ _ e half
  exact ((ite (refl d) ((cache _ d).trans (when' counted _ _))).trans (raise pgBuf 2 _)).trans (reason 4 _)

theorem noteError (kind : MemKind) (way ln k synd : Nat) (scrub : Bool) (d : Dev) : ArmsKept d (noteError kind way ln k synd scrub d) := by
  have counted : ∀ e, ArmsKept e (Machine.bumpEv pgMep (if kind = .sdram then MEP_UECNT_SDRAM else MEP_UECNT_SRAM) 9 1 e) :=
    fun e => bumpEv _ _ _ _ e (by split <;> decide)
  have logged := ((wrs [(MEP_ERRLOG0_ADDR, (ln * 128 + 8 * k) / 8), (MEP_ERRLOG1_SYND, synd), (MEP_ERRLOG1_MEM, kind.code),
    (MEP_ERRLOG1_SCRUB, if scrub then 1 else 0), (MEP_ERRLOG1_WORD, k)] d (by simp; decide)).trans (counted _)).trans (raise pgMep 1 _)
  have lasting : ∀ e, ArmsKept e (lastingMep e) := fun e => ((onPage pgMep _ e).trans (raise pgMep 7 _)).trans (reason 4 _)
  have fenced : ∀ a e, ArmsKept e (fenceRank a e) := fun a e => ((wr _ _ e (by decide)).trans (onPage pgDrc _ _)).trans (raise pgDrc 2 _)
  match kind with
  | .local => exact logged.trans (errClass pgMep lasting _)
  | .hubCache => exact logged.trans (errClass pgHcc (fenceWay way) _)
  | .buffer => exact logged.trans (errClass pgBuf (fenceBlock _) _)
  | .sdram => exact (logged.trans (raise pgDrc 1 _)).trans (errClass pgDrc (fenced _) _)

theorem homeRead (ln : Nat) (scrub : Bool) (d : Dev) : ArmsKept d (homeRead ln scrub d).1 := by
  unfold Machine.homeRead
  simp only
  split
  · exact (wakeSdram ln d).trans (noteFixed _ _ _)
  · exact wakeSdram ln d
  · exact ((wakeSdram ln d).trans (noteError _ _ _ _ _ _ _)).trans (ite (homeWrite _ _ _) (refl _))

theorem install (l : CLine) (d : Dev) : ArmsKept d (install l d) := by
  have room : ArmsKept d (makeRoom l.ln d).1 := by
    unfold makeRoom
    simp only
    split
    · exact refl d
    · split
      · exact ((vbDrain d).trans (cache _ _)).trans (cache _ _)
      · exact vbDrain d
  unfold Machine.install
  split
  next e row w h => exact ((h ▸ room).trans (cache _ _)).trans (touch _ _ _)
  next e h => exact (h ▸ room).trans (when' (homeWrite l.ln l.ws) _ _)

theorem fetch (ln : Nat) (d : Dev) : ArmsKept d (fetch ln d) := by
  have fromHome : ∀ e, ArmsKept e (Machine.install ⟨ln, false, (Machine.homeRead ln false e).2.1⟩ (Machine.homeRead ln false e).1) :=
    fun e => (homeRead ln false e).trans (install _ _)
  have missed := bumpEv pgHcc HCC_MISSCNT_MISSES 6 1 d (by decide)
  unfold Machine.fetch
  split
  · exact (bumpEv _ _ _ _ d (by decide)).trans (touch _ _ _)
  simp only
  split
  · split
    · exact missed.trans (((cache _ _).trans (bumpEv _ _ _ _ _ (by decide))).trans (install _ _))
    · exact missed
  split
  · exact missed.trans (ite ((cache _ _).trans ((bumpEv _ _ _ _ _ (by decide)).trans (install _ _))) (fromHome _))
  · exact missed.trans (fromHome _)

theorem lineRead (ln : Nat) (d : Dev) : ArmsKept d (lineRead ln d).1 := by
  have found := fetch ln d
  unfold Machine.lineRead
  split
  · exact homeRead ln false d
  simp only
  split
  · exact found.trans (homeRead ln false _)
  split
  · exact found.trans (homeRead ln false _)
  split
  · exact found.trans (noteFixed _ _ _)
  · exact found
  · exact (found.trans (noteError _ _ _ _ _ _ _)).trans (ite (cache _ _) (refl _))

theorem lineStore (ln : Nat) (ws : List Cw) (writer : Option Nat) (d : Dev) : ArmsKept d (lineStore ln ws writer d) := by
  have inval := dInval ln writer d
  refine ite (inval.trans (homeWrite _ _ _)) ?_
  split
  · exact (inval.trans (cache _ _)).trans (touch _ _ _)
  · refine (inval.trans ?_).trans (install _ _)
    split
    · exact ((cache _ _).trans (bumpEv pgHcc HCC_VICCNT_REINST 6 1 _ (by decide))).trans (cache _ _)
    · exact cache _ _

theorem memRead (a n : Nat) (d : Dev) : ArmsKept d (memRead a n d).1 := by
  refine List.foldlRecOn (motive := fun st : Dev × Option (List Nat) => ArmsKept d st.1) _ _ (refl d) (fun st h p _ => ?_)
  simp only
  split
  · exact (h.trans (lineRead _ _)).trans (raise pgMep 2 _)
  · exact h.trans (lineRead _ _)

theorem memWrite (a : Nat) (bs : List Nat) (writer : Option Nat) (d : Dev) : ArmsKept d (memWrite a bs writer d) := by
  have whole : ∀ ln data e, ArmsKept e (lineWrite ln data writer e) := fun ln data e =>
    ArmsKept.trans (b := noteAccess ln e)
      (ite (refl e) (ite (bumpEv _ _ _ _ e (by decide)) (bumpEv _ _ _ _ e (by decide)))) (lineStore _ _ _ _)
  exact foldl (fun e _ => ite (whole _ _ e) ((lineRead _ e).trans (lineStore _ _ _ _))) _ d

/-! ### The zone table and the retirement of a head (R206) -/

theorem zoneGet (r : Nat) (d : Dev) : ArmsKept d (zoneGet r d).1 := by
  unfold Machine.zoneGet
  split
  · exact refl d
  · split
    · exact refl d
    · exact memRead _ _ d

theorem jnlAppend (head body : List Nat) (d : Dev) : ArmsKept d (jnlAppend head body d) := by
  have written : ∀ a b bs z v, ArmsKept d
      (Machine.wr GLB_JNLHEAD_HEAD v { Machine.memWrite b bs none (Machine.memWrite a bs none d) with zon := z }) := fun _ _ _ _ _ =>
    ((memWrite _ _ none d).trans (memWrite _ _ none _)).trans ((zon _ _).trans (wr GLB_JNLHEAD_HEAD _ _ (by decide)))
  unfold Machine.jnlAppend
  split
  · exact refl d
  · exact ite ((written _ _ _ _ _).trans (raise pgGlb 15 _)) (written _ _ _ _ _)

theorem zonePut (r : Nat) (z : Zone) (slip : Nat) (d : Dev) : ArmsKept d (zonePut r z slip d) := by
  have generation : ∀ e, ArmsKept e (genGet r e).1 := fun e => by
    unfold genGet
    split
    · exact refl e
    · exact memRead _ _ e
  exact ite (((memWrite _ _ none d).trans (generation _)).trans (jnlAppend _ _ _)) (zon _ d)

theorem report (r ofs kind rung seq : Nat) (d : Dev) : ArmsKept d (report r ofs kind rung seq d) :=
  ite ((bumpEv _ _ _ _ d (by decide)).trans (raise pgZon 10 _)) ((memWrite _ _ none d).trans (wr ZON_RPTHEAD_HEAD _ _ (by decide)))

theorem retireZone (n h r : Nat) (d : Dev) : ArmsKept d (retireZone n h r d) := by
  have got := zoneGet r d
  have queued : ∀ e, ArmsKept e (relocQueue r e) := fun e => ite (refl e) ((zon _ e).trans (wr ZON_RELOC_BUSY _ _ (by decide)))
  have put : ∀ z e, ArmsKept e (Machine.raise pgZon 5 (Machine.zonePut r z 0 e)) := fun z e => (zonePut r z 0 e).trans (raise pgZon 5 _)
  unfold Machine.retireZone
  generalize Machine.zoneGet r d = p at got
  dsimp only
  refine ite got (ite (got.trans (report _ _ _ _ _ _)) (ite (got.trans (put _ _)) (ite (got.trans (queued _)) ?_)))
  exact ite (got.trans (put _ _)) got

theorem retireZones (n h : Nat) (d : Dev) : ArmsKept d (retireZones n h d) := ite (each (retireZone n h) _ d) (refl d)

theorem retireBands (n h : Nat) (d : Dev) : ArmsKept d (retireBands n h d) := by
  unfold Machine.retireBands
  refine ite (refl d) (foldl (fun e b => ?_) _ d)
  exact report _ _ _ _ _ e

end ArmsKept

/-! ## Write gate drops -/

section
variable (n : Nat) (d : Dev)

theorem rd_breakBurst_gate : rd (ALK_STAT_WG n) (breakBurst n d) = 0 := by
  rw [breakBurst, rd_onArm, gateOff, gateOffAt, rd_wr, Nat.zero_mod]

theorem rd_breakBurst_ne {g : Fld} (h : g.key ≠ (ALK_STAT_WG n).key) : rd g (breakBurst n d) = rd g d := by
  rw [breakBurst, rd_onArm, gateOff, gateOffAt, rd_wr_ne h, rd_onArm]

/-- With write gate the burst ends; the arm's bands and what its preamplifier answered stay. -/
theorem arm_breakBurst : (arm n (breakBurst n d)).burst = none ∧ (arm n (breakBurst n d)).bands = (arm n d).bands
    ∧ (arm n (breakBurst n d)).caps = (arm n d).caps := by
  rw [breakBurst, arm_onArm, gateOff, gateOffAt, arm_wr, arm_onArm]
  cases (arm n d).wsec with
  | some r => exact ⟨rfl, rfl, rfl⟩
  | none => cases (arm n d).burst <;> simp

end

/-! ## FLT_N (R120) -/

/-- FLT_N is asserted and no burst is under way. -/
structure FltLow (n : ArmId) (d : Dev) : Prop where
  flt : rd (ALK_STAT_FLT n) d = 1
  gate : rd (ALK_STAT_WG n) d = 0
  burst : (arm n d).burst = none

/-- Besides, its inhibit is in force. -/
structure FltHeld (n : ArmId) (d : Dev) : Prop extends FltLow n d where
  src : (rd (WRP_WISTAT_SRC n) d).testBit 2 = true

section
variable (n : ArmId)

theorem flt_src : (ALK_STAT_FLT n).key ≠ (WRP_WISTAT_SRC n).key := by decide +revert
theorem gate_src : (ALK_STAT_WG n).key ≠ (WRP_WISTAT_SRC n).key := by decide +revert
theorem flt_gate : (ALK_STAT_FLT n).key ≠ (ALK_STAT_WG n).key := by decide +revert
theorem src_gate : (WRP_WISTAT_SRC n).key ≠ (ALK_STAT_WG n).key := by decide +revert
theorem flt_not_hub : ¬HubField (ALK_STAT_FLT n) := by decide +revert
theorem gate_not_hub : ¬HubField (ALK_STAT_WG n) := by decide +revert
theorem src_not_hub : ¬HubField (WRP_WISTAT_SRC n) := by decide +revert

end

section
variable {n : ArmId} {d e : Dev}

theorem FltLow.breaks (flt : rd (ALK_STAT_FLT n) d = 1) : FltLow n (breakBurst n d) :=
  ⟨(rd_breakBurst_ne n d (flt_gate n)).trans flt, rd_breakBurst_gate n d, (arm_breakBurst n d).1⟩

theorem FltLow.kept (h : FltLow n d) (same : ArmsKept d e) : FltLow n e :=
  ⟨(same.regs _ (flt_not_hub n)).trans h.flt, (same.regs _ (gate_not_hub n)).trans h.gate, by rw [arm_congr same.arms]; exact h.burst⟩

/-- A change of the arm's state that spares its burst. -/
theorem FltLow.onArm {f : Arm → Arm} (h : FltLow n d) (same : ∀ a, (f a).burst = a.burst) : FltLow n (onArm n f d) :=
  ⟨h.flt, h.gate, by rw [arm_onArm, same]; exact h.burst⟩

theorem FltLow.wr {f : Fld} (h : FltLow n d) (flt : (ALK_STAT_FLT n).key ≠ f.key) (gate : (ALK_STAT_WG n).key ≠ f.key) (v : Nat) :
    FltLow n (wr f v d) := ⟨(rd_wr_ne flt v d).trans h.flt, (rd_wr_ne gate v d).trans h.gate, h.burst⟩

theorem FltLow.bump {f : Fld} (h : FltLow n d) (flt : (ALK_STAT_FLT n).key ≠ f.key) (gate : (ALK_STAT_WG n).key ≠ f.key) (b k : Nat) :
    FltLow n (bump b f k d) := by
  obtain ⟨v, same | changed⟩ := bump_eq b f k d
  · rwa [same]
  · rw [changed]
    exact h.wr flt gate v

theorem FltLow.setRaw (h : FltLow n d) (b k : Nat) (v : Bool) : FltLow n (setRaw b k v d) :=
  ⟨(rd_setRaw _ b k v d).trans h.flt, (rd_setRaw _ b k v d).trans h.gate, by rw [arm_setRaw]; exact h.burst⟩

theorem FltLow.inhibitSet (h : FltLow n d) (k : Nat) : FltLow n (inhibitSet n k d) :=
  ⟨(rd_inhibitSet_ne n k d (flt_src n)).trans h.flt, (rd_inhibitSet_ne n k d (gate_src n)).trans h.gate,
    by rw [arm_inhibitSet]; exact h.burst⟩

/-- While FLT_N is asserted its inhibit comes into force. -/
theorem FltLow.inhibits (h : FltLow n d) : FltHeld n (fltInhibit n d) := by
  have set : fltInhibit n d = Machine.inhibitSet n 2 d := if_pos (by simp [isSet, h.flt])
  rw [set]
  exact ⟨h.inhibitSet 2, by rw [src_inhibitSet n 2 d (by decide)]; exact Bool.or_true _⟩

theorem FltHeld.kept (h : FltHeld n d) (same : ArmsKept d e) : FltHeld n e :=
  ⟨h.toFltLow.kept same, by rw [same.regs _ (src_not_hub n)]; exact h.src⟩

theorem FltHeld.onArm {f : Arm → Arm} (h : FltHeld n d) (same : ∀ a, (f a).burst = a.burst) : FltHeld n (onArm n f d) :=
  ⟨h.toFltLow.onArm same, h.src⟩

theorem FltHeld.queueFrame (h : FltHeld n d) (addr data : Nat) (read : Bool) : FltHeld n (queueFrame n addr data read d) := by
  have same : (arm n (Machine.queueFrame n addr data read d)).burst = (arm n d).burst := by rw [Machine.queueFrame, arm_onArm]
  exact ⟨⟨h.flt, h.gate, same.trans h.burst⟩, h.src⟩

theorem FltHeld.inhibitNow (h : FltHeld n d) (k : Nat) : FltHeld n (inhibitNow n k d) := by
  refine ⟨(FltLow.breaks h.flt).inhibitSet k, ?_⟩
  rw [Machine.inhibitNow, src_inhibitSet n k _ (by decide), rd_breakBurst_ne n d (src_gate n), h.src]
  rfl

/-- The retirement of a head changes neither. -/
theorem FltHeld.retireHead (h : FltHeld n d) (k : Nat) : FltHeld n (retireHead n k d) := by
  have retired : FltHeld n (Machine.onArm n (fun a => { a with retired := a.retired ||| 2 ^ k }) d) := h.onArm fun _ => rfl
  unfold Machine.retireHead
  refine FltHeld.kept ?_ (((ArmsKept.reason 1 _).trans (ArmsKept.retireZones n k _)).trans (ArmsKept.retireBands n k _))
  split
  · exact retired.inhibitNow 5
  · exact retired

/-- An error that is counted, and what its promotion does. -/
theorem FltHeld.errClass {act : Dev → Dev} (h : FltHeld n d) (b : Nat) (hact : ∀ d, FltHeld n d → FltHeld n (act d)) :
    FltHeld n (errClass b act d) := by
  have counted : FltHeld n (countErr b d) := h.kept (.onPage b _ d)
  unfold Machine.errClass
  split
  · exact hact _ counted
  · exact counted

theorem FltHeld.writeSafety (h : FltHeld n d) : FltHeld n (writeSafety n d) :=
  h.errClass _ fun d h => (h.retireHead (selHead n d)).kept (.raise _ 1 _)

theorem FltHeld.linkFault (h : FltHeld n d) : FltHeld n (linkFault n d) := by
  refine h.errClass _ fun d h => FltHeld.kept ?_ ((ArmsKept.onPage (pgAlk n) _ _).trans (ArmsKept.raise _ 2 _))
  exact List.foldlRecOn (motive := FltHeld n) _ _ h (fun e h k _ => h.retireHead k)

end

/-- FLT_N is logged: its status, its count and its condition. -/
def fltLogged (n : ArmId) (status : Nat) (d : Dev) : Dev :=
  setRaw (pgAlk n) 0 true (bump (pgAlk n) (ALK_FLTLOG_COUNT n) 1 (wr (ALK_FLTLOG_STATUS n) status (breakBurst n (wr (ALK_STAT_FLT n) 1 d))))

theorem fltLogged_low (n : ArmId) (status : Nat) (d : Dev) : FltLow n (fltLogged n status d) := by
  have fromStatus : ∀ m : ArmId,
      (ALK_STAT_FLT m).key ≠ (ALK_FLTLOG_STATUS m).key ∧ (ALK_STAT_WG m).key ≠ (ALK_FLTLOG_STATUS m).key := by decide
  have fromCount : ∀ m : ArmId,
      (ALK_STAT_FLT m).key ≠ (ALK_FLTLOG_COUNT m).key ∧ (ALK_STAT_WG m).key ≠ (ALK_FLTLOG_COUNT m).key := by decide
  obtain ⟨fltStatus, gateStatus⟩ := fromStatus n
  obtain ⟨fltCount, gateCount⟩ := fromCount n
  have low : FltLow n (breakBurst n (wr (ALK_STAT_FLT n) 1 d)) := .breaks (by rw [rd_wr]; rfl)
  exact ((low.wr fltStatus gateStatus status).bump fltCount gateCount _ 1).setRaw _ 0 true

/-- FLT_N drops write gate and inhibits writing, whatever the status read says. -/
theorem fltAssert_holds (n : ArmId) (status : Nat) (d : Dev) : FltHeld n (fltAssert n status d) := by
  have held : ∀ f : Arm → Arm, (∀ a, (f a).burst = a.burst) → FltHeld n (fltInhibit n (onArm n f (fltLogged n status d))) :=
    fun f same => ((fltLogged_low n status d).onArm same).inhibits
  have cleared : ∀ (p : Bool) (st : Nat) (e : Dev), FltHeld n e →
      FltHeld n (if p then queueFrame n 0x6001 st false (writeSafety n e) else e) := fun p st e h => by
    cases p
    · exact h
    · exact h.writeSafety.queueFrame 0x6001 st false
  unfold fltAssert
  dsimp only
  split
  · exact FltHeld.linkFault (cleared _ _ _ (held _ fun _ => rfl))
  · exact cleared _ _ _ (held _ fun _ => rfl)

/-! ### The release, and a fault that stays -/

section
variable {n : ArmId} {d : Dev}

theorem fltInhibit_sets
    (waits : isSet (ALK_STAT_FLT n) d = true ∨ (arm n d).fltBits ≠ 0 ∨ (arm n d).fltHeads.testBit (selHead n d) = true) :
    fltInhibit n d = inhibitSet n 2 d := if_pos (by simpa [or_assoc] using waits)

theorem fltInhibit_lifts (released : isSet (ALK_STAT_FLT n) d = false) (bits : (arm n d).fltBits = 0)
    (head : (arm n d).fltHeads.testBit (selHead n d) = false) : fltInhibit n d = inhibitLift n 2 d :=
  if_neg (by simp [released, bits, head])

theorem rd_fltInhibit_ne {g : Fld} (h : g.key ≠ (WRP_WISTAT_SRC n).key) : rd g (fltInhibit n d) = rd g d := by
  unfold fltInhibit
  dsimp only
  split
  · exact rd_inhibitSet_ne n 2 d h
  · exact rd_inhibitLift_ne n 2 d h

theorem arm_fltInhibit_fltBits : (arm n (fltInhibit n d)).fltBits = (arm n d).fltBits := by
  unfold fltInhibit
  dsimp only
  split
  · rw [arm_inhibitSet]
  · rw [arm_inhibitLift]

/-- FLT_N is released, before its inhibit is looked at: a fault that waited for the release is over. -/
def fltReleased (n : ArmId) (d : Dev) : Dev :=
  onArm n (fun a => { a with openIn := 0, fltBits := if a.fltBits = 2 then 0 else a.fltBits })
    (raise (pgAlk n) 4 (setRaw (pgAlk n) 0 false (wr (ALK_STAT_FLT n) 0 d)))

theorem fltRelease_eq (asserted : rd (ALK_STAT_FLT n) d = 1) : fltRelease n d = fltInhibit n (fltReleased n d) :=
  if_pos (by simp [isSet, asserted])

theorem rd_fltReleased : rd (ALK_STAT_FLT n) (fltReleased n d) = 0 := by
  rw [fltReleased, rd_onArm, rd_raise, rd_setRaw, rd_wr, Nat.zero_mod]

theorem arm_fltReleased : arm n (fltReleased n d) =
    { arm n d with openIn := 0, fltBits := if (arm n d).fltBits = 2 then 0 else (arm n d).fltBits } := by
  rw [fltReleased, arm_onArm, arm_raise, arm_setRaw, arm_wr]

theorem selHead_fltReleased : selHead n (fltReleased n d) = selHead n d := by
  have apart : ∀ m : ArmId, (SRV_STAT_HEAD m).key ≠ (ALK_STAT_FLT m).key := by decide
  rw [selHead, fltReleased, rd_onArm, rd_raise, rd_setRaw, rd_wr_ne (apart n)]
  rfl

theorem fltRelease_clause (asserted : rd (ALK_STAT_FLT n) d = 1) :
    rd (ALK_STAT_FLT n) (fltRelease n d) = 0
      ∧ ((arm n d).fltBits ≠ 1 → (arm n d).fltBits ≤ 2 → (arm n d).fltHeads.testBit (selHead n d) = false →
          (rd (WRP_WISTAT_SRC n) (fltRelease n d)).testBit 2 = false ∧ (arm n (fltRelease n d)).fltBits = 0)
      ∧ ((arm n d).fltBits = 1 ∨ (arm n d).fltHeads.testBit (selHead n d) = true →
          (rd (WRP_WISTAT_SRC n) (fltRelease n d)).testBit 2 = true) := by
  rw [fltRelease_eq asserted]
  have low : isSet (ALK_STAT_FLT n) (fltReleased n d) = false := by rw [isSet, rd_fltReleased]; rfl
  refine ⟨(rd_fltInhibit_ne (flt_src n)).trans rd_fltReleased, fun no1 most head => ?_, fun waits => ?_⟩
  · have over2 : (arm n (fltReleased n d)).fltBits = 0 := by
      rw [arm_fltReleased]
      dsimp only
      split <;> omega
    refine ⟨?_, arm_fltInhibit_fltBits.trans over2⟩
    rw [fltInhibit_lifts low over2 (by rw [arm_fltReleased, selHead_fltReleased]; exact head), src_inhibitLift n 2 _ (by decide)]
  · have still : (arm n (fltReleased n d)).fltBits ≠ 0
        ∨ (arm n (fltReleased n d)).fltHeads.testBit (selHead n (fltReleased n d)) = true := by
      rw [arm_fltReleased, selHead_fltReleased]
      exact waits.imp (fun one => by simp [one]) id
    rw [fltInhibit_sets (.inr still), src_inhibitSet n 2 _ (by decide)]
    exact Bool.or_true _

theorem fltPersist_clause (asserted : rd (ALK_STAT_FLT n) d = 1) :
    (arm n (fltPersist n d)).fltBits = 2 ∧ rd (ALK_STAT_FLT n) (fltPersist n d) = 1 ∧ SameMemory d (fltPersist n d) := by
  have again : fltPersist n d = occur (pgAlk n) 0 none (onArm n (fun a => { a with fltBits := 2 }) d) :=
    if_pos (by simp [isSet, asserted])
  have same := occur_arms (pgAlk n) 0 none (onArm n (fun a => { a with fltBits := 2 }) d)
  rw [again]
  exact ⟨by rw [arm_congr same, arm_onArm], by rw [rd_occur, rd_onArm, asserted], by simp [SameMemory]⟩

end

/-! ## Events and inhibits spare LOCK and READY of every page -/

/-- Every page header keeps LOCK and READY. -/
def SameGuards (d e : Dev) : Prop := ∀ b, (page b e).lock = (page b d).lock ∧ (page b e).ready = (page b d).ready

namespace SameGuards

theorem refl (d : Dev) : SameGuards d d := fun _ => ⟨rfl, rfl⟩

theorem trans {a b c : Dev} (h : SameGuards a b) (k : SameGuards b c) : SameGuards a c := fun p =>
  ⟨(k p).1.trans (h p).1, (k p).2.trans (h p).2⟩

theorem ite {p : Prop} [Decidable p] {d a b : Dev} (ha : SameGuards d a) (hb : SameGuards d b) : SameGuards d (if p then a else b) :=
  AccessFrame.ite ha hb

theorem of_pages {d e : Dev} (pages : e.pages = d.pages) : SameGuards d e := fun b => by simp [page, pages]

theorem onPage (b : Nat) (f : PageHdr → PageHdr) (d : Dev) (hf : ∀ h, (f h).lock = h.lock ∧ (f h).ready = h.ready) :
    SameGuards d (onPage b f d) := by
  intro p
  by_cases hp : p = b
  · subst hp
    rw [page_onPage]
    exact hf _
  · simp [page_onPage_ne hp]

theorem noteStat (b k : Nat) (d : Dev) : SameGuards d (noteStat b k d) := onPage b _ d fun _ => ⟨rfl, rfl⟩

theorem queueRec (r : LogRec) (d : Dev) : SameGuards d (queueRec r d) := by
  have sent : ∀ e sev mask f, SameGuards f (Machine.noteStat pgLog 1 (deliver e sev mask f)) := fun e sev mask f =>
    (of_pages rfl : SameGuards f (deliver e sev mask f)).trans (noteStat pgLog 1 _)
  have dropped : ∀ e, SameGuards e (raiseDrop e) := fun e =>
    ite (ite ((sent _ _ _ e).trans (of_pages rfl)) (sent _ _ _ e)) (noteStat pgLog 1 e)
  have queued : ∀ x, SameGuards d { d with recd := x } := fun _ => of_pages rfl
  exact ite ((queued _).trans (dropped _)) (queued _)

theorem occur (b k : Nat) (d : Dev) : SameGuards d (occur b k none d) := by
  have noted : ∀ (go : Prop) [Decidable go] (e sev : Nat) (m : Dev → Nat), SameGuards d
      (if go then Machine.deliver e sev (m (Machine.noteStat b k d)) (Machine.noteStat b k d) else Machine.noteStat b k d) :=
    fun _ _ _ _ _ => (noteStat b k d).trans (ite (of_pages rfl) (refl _))
  exact (noted _ _ _ _).trans (ite (queueRec _ _) (refl _))

theorem raise (b k : Nat) (d : Dev) : SameGuards d (raise b k d) := ite (refl d) (occur b k d)

theorem setRaw (b k : Nat) (v : Bool) (d : Dev) : SameGuards d (setRaw b k v d) :=
  ite (ite (refl d) ((occur b k d).trans (onPage b _ _ fun _ => ⟨rfl, rfl⟩))) (onPage b _ d fun _ => ⟨rfl, rfl⟩)

theorem bumpEv (b : Nat) (f : Fld) (k n : Nat) (d : Dev) : SameGuards d (bumpEv b f k n d) := by
  have put : ∀ v, SameGuards d (wr f v d) := fun _ => of_pages rfl
  exact ite (refl d) (ite ((put _).trans (raise b k _)) (put _))

theorem inhibitSet (n k : Nat) (d : Dev) : SameGuards d (inhibitSet n k d) := by
  have runs : (runsInhibited n d).pages = d.pages := by simp [runsInhibited, each, List.range_succ, onCalRun, onArm, setArm]
  rw [inhibitSet_eq]
  exact ite (refl d) ((of_pages runs : SameGuards d (setBit (WRP_WISTAT_SRC n) k (runsInhibited n d))).trans (setRaw _ 4 _ _))

theorem inhibitNow (n k : Nat) (d : Dev) : SameGuards d (inhibitNow n k d) :=
  (of_pages rfl : SameGuards d (breakBurst n d)).trans (inhibitSet n k _)

theorem inhibitLift (n k : Nat) (d : Dev) : SameGuards d (inhibitLift n k d) := by
  have cleared : ∀ f e, SameGuards e (clrBit f k e) := fun _ _ => ite (of_pages rfl) (refl _)
  exact ((of_pages rfl : SameGuards d (onArm n _ d)).trans (cleared _ _)).trans (setRaw _ 4 _ _)

theorem stbyFrame (n h : Nat) (d : Dev) : SameGuards d (stbyFrame n h d) := by
  have clamped : SameGuards d (clampCode n h (rd (ALK_ASSIST_STBY n) d) d).1 := by
    unfold clampCode
    split
    · exact (bumpEv _ _ _ _ d).trans (raise _ 5 _)
    · exact refl d
  exact clamped.trans (of_pages rfl)

end SameGuards

/-! ## An arm die has come up (R106, R123) -/

/-- A store cut down to the keys that a test takes reads as before there, and as nothing listed elsewhere. -/
theorem Store.get_filter {β : Type} (d : β) (p : Nat → Bool) (k : Nat) (m : Store β) :
    Store.get d k (m.filter fun q => p q.1) = if p k then Store.get d k m else d := by
  induction m with
  | nil => simp
  | cons q m ih =>
    obtain ⟨j, v⟩ := q
    by_cases here : j = k
    · subst here
      cases keep : p j <;> simp [keep, Store.get, ih]
    · cases keep : p j <;> simp [keep, Store.get, here, ih]

/-- Of pages set one after the other each has the header that it was given. -/
theorem page_each_setPage (lo : Nat) (h : Nat → PageHdr) {m k : Nat} (lt : k < m) (d : Dev) :
    page (lo + 0x1000 * k) (each m (fun k x => setPage (lo + 0x1000 * k) (h k) x) d) = h k := by
  induction m with
  | zero => omega
  | succ m ih =>
    simp only [each, List.range_succ, List.foldl_append, List.foldl_cons, List.foldl_nil] at ih ⊢
    by_cases last : k = m
    · rw [last, page_setPage]
    · rw [page_setPage_ne (by omega), ih (by omega)]

/-- A register stays when arm `n` loses its state: it lies elsewhere, or is an RWL field, which the hub writes back (R106). -/
def keptAtPowerUp (n key : Nat) : Bool :=
  !(decide ((0x120000 + 0x10000 * n) * 32 ≤ key) && decide (key < (0x120000 + 0x10000 * n + 0x10000) * 32)) || accAt key == some .rwl

section
variable (n : Nat) (d : Dev)

/-- What arm `n`'s loss of its state leaves of the registers and headers, and the headers that its eight pages then get. -/
def armCut : Dev :=
  { d with
    regs := d.regs.filter (fun q => keptAtPowerUp n q.1)
    pages := Store.cut (0x120000 + 0x10000 * n) (0x120000 + 0x10000 * n + 0x10000) d.pages }

def armHeaders : Dev :=
  let lo := 0x120000 + 0x10000 * n
  each 8 (fun k x => setPage (lo + 0x1000 * k) (PageHdr.kept (lo + 0x1000 * k) (page (lo + 0x1000 * k) d)) x) (armCut n d)

theorem armClear_eq : armClear n d = setArm n { Arm.reset with retired := (arm n d).retired } (armHeaders n d) := rfl

theorem rd_armClear (g : Fld) : rd g (armClear n d) = if keptAtPowerUp n g.key then rd g d else g.rst := by
  have cut : (armClear n d).regs = (armCut n d).regs := by
    simp [armClear_eq, setArm, armHeaders, each, List.range_succ, setPage]
  rw [rd, cut, armCut, Store.get_filter]
  rfl

theorem arm_armClear : arm n (armClear n d) = { Arm.reset with retired := (arm n d).retired } := by
  simp [armClear_eq, arm, setArm]

/-- The hub writes back PG_CTL.LOCK of the arm's pages. -/
theorem lock_armClear : (page (pgWrp n) (armClear n d)).lock = (page (pgWrp n) d).lock := by
  have place : pgWrp n = 0x120000 + 0x10000 * n + 0x1000 * 3 := by
    unfold pgWrp
    omega
  have kept : ∀ b h, (PageHdr.kept b h).lock = h.lock := fun _ _ => rfl
  have spared : ∀ b x e, page b (setArm n x e) = page b e := fun _ _ _ => rfl
  rw [armClear_eq, spared, place, armHeaders, page_each_setPage _ (fun k => PageHdr.kept _ (page _ d)) (by decide), kept]

end

/-! ### The preamplifier is asked, and its assist type compared (R104, R123) -/

/-- The assist type is compared with what the preamplifier answered. -/
def assistCompared (n : Nat) (d : Dev) : Dev :=
  let d := wrB (ALK_ASSIST_MISMATCH n) (rd (ALK_ASSIST_TYPE n) d != bits (arm n d).caps 4 2) d
  setRaw (pgAlk n) 3 (!assistOk n d) d

section
variable (n : Nat) (d : Dev)

theorem assistCheck_eq : assistCheck n d =
    if assistOk n (assistCompared n d) then
      if (arm n (assistCompared n d)).modeBad then assistCompared n d else inhibitLift n 6 (assistCompared n d)
    else inhibitNow n 6 (assistCompared n d) := rfl

@[simp] theorem arm_assistCompared : arm n (assistCompared n d) = arm n d := by
  simp only [assistCompared, arm_setRaw, wrB, arm_wr]

theorem rd_assistCompared_ne {g : Fld} (h : g.key ≠ (ALK_ASSIST_MISMATCH n).key) : rd g (assistCompared n d) = rd g d := by
  simp only [assistCompared, rd_setRaw, wrB, rd_wr_ne h]

/-- The check may write the type's verdict, the inhibits, and write gate. -/
theorem rd_assistCheck_ne {g : Fld} (mismatch : g.key ≠ (ALK_ASSIST_MISMATCH n).key) (src : g.key ≠ (WRP_WISTAT_SRC n).key)
    (gate : g.key ≠ (ALK_STAT_WG n).key) : rd g (assistCheck n d) = rd g d := by
  have compared := rd_assistCompared_ne n d mismatch
  rw [assistCheck_eq]
  split
  · split
    · exact compared
    · exact (rd_inhibitLift_ne n 6 _ src).trans compared
  · exact (rd_inhibitSet_ne n 6 _ src).trans ((rd_breakBurst_ne n _ gate).trans compared)

theorem arm_assistCheck : (arm n (assistCheck n d)).bands = (arm n d).bands ∧ (arm n (assistCheck n d)).caps = (arm n d).caps := by
  rw [assistCheck_eq]
  split
  · split
    · rw [arm_assistCompared]
      exact ⟨rfl, rfl⟩
    · rw [arm_inhibitLift, arm_assistCompared]
      exact ⟨rfl, rfl⟩
  · obtain ⟨-, bands, caps⟩ := arm_breakBurst n (assistCompared n d)
    rw [inhibitNow, arm_inhibitSet]
    rw [arm_assistCompared] at bands caps
    exact ⟨bands, caps⟩

theorem SameGuards.assistCheck : SameGuards d (assistCheck n d) := by
  have compared : SameGuards d (assistCompared n d) :=
    (of_pages rfl : SameGuards d (wrB (ALK_ASSIST_MISMATCH n) _ d)).trans (setRaw _ 3 _ _)
  rw [assistCheck_eq]
  exact compared.trans (ite (ite (refl _) (inhibitLift n 6 _)) (inhibitNow n 6 _))

theorem rd_stbyFrame_ne (h : Nat) {g : Fld} (ne : g.key ≠ (WRP_ASSTAT_CLAMPS n).key) : rd g (stbyFrame n h d) = rd g d :=
  rd_clampCode_ne n h _ d ne

theorem arm_stbyFrame (h : Nat) :
    (arm n (stbyFrame n h d)).bands = (arm n d).bands ∧ (arm n (stbyFrame n h d)).caps = (arm n d).caps := by
  rw [stbyFrame, queueFrame, arm_onArm, arm_clampCode]
  exact ⟨rfl, rfl⟩

end

/-- A type that is not confirmed inhibits writing. -/
theorem assistCheck_inhibits {n : ArmId} {d : Dev} (bad : assistOk n d = false) :
    (rd (WRP_WISTAT_SRC n) (assistCheck n d)).testBit 6 = true := by
  have apart : ∀ m : ArmId, (ALK_ASSIST_TYPE m).key ≠ (ALK_ASSIST_MISMATCH m).key := by decide
  have still : assistOk n (assistCompared n d) = false := by
    rw [assistOk, rd_assistCompared_ne _ _ (apart n), arm_assistCompared]
    exact bad
  rw [assistCheck_eq, still, if_neg Bool.false_ne_true, inhibitNow, src_inhibitSet _ _ _ (by decide)]
  exact Bool.or_true _

/-! ### The clause of O37 -/

/-- The arm link starts, with the preamplifier in SLEEP and what it answered. -/
def linkStarted (n : ArmId) (caps : Option Nat) (e : Dev) : Dev :=
  wrs [(ALK_STAT_MODE n, 0), (ALK_CFG_PRESENT n, b2n caps.isSome), (ALK_CFG_NHEADS n, bits (caps.getD 0) 0 4)]
    (onArm n (fun a => { a with caps := caps.getD 0 }) e)

/-- Registers that nothing after the start writes, and those that the start does not write either. -/
abbrev SetAtStart (n : ArmId) (g : Fld) : Prop :=
  g.key ≠ (WRP_ASSTAT_CLAMPS n).key ∧ g.key ≠ (ALK_ASSIST_MISMATCH n).key ∧ g.key ≠ (WRP_WISTAT_SRC n).key
    ∧ g.key ≠ (ALK_STAT_WG n).key
abbrev LeftAtStart (n : ArmId) (g : Fld) : Prop :=
  g.key ≠ (ALK_STAT_MODE n).key ∧ g.key ≠ (ALK_CFG_PRESENT n).key ∧ g.key ≠ (ALK_CFG_NHEADS n).key

section
variable {n : ArmId} {caps : Option Nat} {d : Dev}

theorem arm_linkStarted (e : Dev) : arm n (linkStarted n caps e) = { arm n e with caps := caps.getD 0 } := by
  simp only [linkStarted, wrs, arm_wr, arm_onArm]

theorem rd_linkStarted_left (e : Dev) {g : Fld} (left : LeftAtStart n g) : rd g (linkStarted n caps e) = rd g e := by
  obtain ⟨mode, present, heads⟩ := left
  simp only [linkStarted, wrs, rd_wr_ne mode, rd_wr_ne present, rd_wr_ne heads, rd_onArm]

theorem rd_linkStarted (e : Dev) : rd (ALK_STAT_MODE n) (linkStarted n caps e) = 0
    ∧ rd (ALK_CFG_PRESENT n) (linkStarted n caps e) = (if caps.isSome then 1 else 0)
    ∧ rd (ALK_CFG_NHEADS n) (linkStarted n caps e) = caps.getD 0 % 16 := by
  have order : ∀ m : ArmId, (ALK_STAT_MODE m).key ≠ (ALK_CFG_PRESENT m).key ∧ (ALK_STAT_MODE m).key ≠ (ALK_CFG_NHEADS m).key
      ∧ (ALK_CFG_PRESENT m).key ≠ (ALK_CFG_NHEADS m).key := by decide
  obtain ⟨modePresent, modeHeads, presentHeads⟩ := order n
  have heads : bits (caps.getD 0) 0 4 % 2 ^ 4 = caps.getD 0 % 16 := by simp [bits]
  refine ⟨?_, ?_, ?_⟩
  · simp only [linkStarted, wrs, rd_wr_ne modePresent, rd_wr_ne modeHeads, rd_wr, Nat.zero_mod]
  · simp only [linkStarted, wrs, rd_wr_ne presentHeads, rd_wr]
    cases caps <;> rfl
  · simp only [linkStarted, wrs, rd_wr]
    exact heads

/-- Once the die's page is ready, the standby level goes out and the assist type is compared. -/
theorem armPowerUp_eq (there : fitted (.arm n) d = true) : ∃ h, armPowerUp n caps d =
    assistCheck n (stbyFrame n h (setReady (pgArm n) true (linkStarted n caps (armClear n d)))) := ⟨_, if_pos there⟩

theorem rd_armPowerUp (there : fitted (.arm n) d = true) {g : Fld} (set : SetAtStart n g) :
    rd g (armPowerUp n caps d) = rd g (linkStarted n caps (armClear n d)) := by
  obtain ⟨clamps, mismatch, src, gate⟩ := set
  obtain ⟨h, up⟩ := armPowerUp_eq (caps := caps) there
  have ready : ∀ e, rd g (setReady (pgArm n) true e) = rd g e := fun _ => rfl
  rw [up, rd_assistCheck_ne n _ mismatch src gate, rd_stbyFrame_ne n _ _ clamps, ready]

/-- A register of the arm that the hub writes back, or one that starts at its reset value. -/
theorem rd_armPowerUp_left (there : fitted (.arm n) d = true) {g : Fld} (set : SetAtStart n g) (left : LeftAtStart n g) :
    rd g (armPowerUp n caps d) = if keptAtPowerUp n g.key then rd g d else g.rst := by
  rw [rd_armPowerUp there set, rd_linkStarted_left _ left, rd_armClear]

theorem armPowerUp_registers (there : fitted (.arm n) d = true) :
    rd (ALK_STAT_MODE n) (armPowerUp n caps d) = 0 ∧ rd (ALK_CFG_PRESENT n) (armPowerUp n caps d) = (if caps.isSome then 1 else 0)
      ∧ rd (ALK_CFG_NHEADS n) (armPowerUp n caps d) = caps.getD 0 % 16 ∧ servo n (armPowerUp n caps d) = svParked
      ∧ ∀ h, h < 8 → rd (WRP_ASLIM_ILIM n h) (armPowerUp n caps d) = rd (WRP_ASLIM_ILIM n h) d := by
  have set : ∀ m : ArmId, SetAtStart m (ALK_STAT_MODE m) ∧ SetAtStart m (ALK_CFG_PRESENT m) ∧ SetAtStart m (ALK_CFG_NHEADS m) := by
    decide
  have state : ∀ m : ArmId, SetAtStart m (SRV_STAT_STATE m) ∧ LeftAtStart m (SRV_STAT_STATE m)
      ∧ keptAtPowerUp m (SRV_STAT_STATE m).key = false := by decide +kernel
  have limits : ∀ (m : ArmId) (h : Fin 8), SetAtStart m (WRP_ASLIM_ILIM m h) ∧ LeftAtStart m (WRP_ASLIM_ILIM m h)
      ∧ keptAtPowerUp m (WRP_ASLIM_ILIM m h).key = true := by decide +kernel
  obtain ⟨setMode, setPresent, setHeads⟩ := set n
  obtain ⟨setState, leftState, lost⟩ := state n
  obtain ⟨mode, present, heads⟩ := rd_linkStarted (n := n) (caps := caps) (armClear n d)
  refine ⟨(rd_armPowerUp there setMode).trans mode, (rd_armPowerUp there setPresent).trans present,
    (rd_armPowerUp there setHeads).trans heads, ?_, fun h small => ?_⟩
  · rw [servo, rd_armPowerUp_left there setState leftState, lost]
    rfl
  · obtain ⟨setLimit, leftLimit, kept⟩ := limits n ⟨h, small⟩
    rw [rd_armPowerUp_left there setLimit leftLimit, kept]
    rfl

theorem armPowerUp_arm (there : fitted (.arm n) d = true) :
    (arm n (armPowerUp n caps d)).bands = [] ∧ (arm n (armPowerUp n caps d)).caps = caps.getD 0 := by
  obtain ⟨h, up⟩ := armPowerUp_eq (caps := caps) there
  have ready : ∀ e, arm n (setReady (pgArm n) true e) = arm n e := fun _ => rfl
  have started := arm_linkStarted (n := n) (caps := caps) (armClear n d)
  rw [arm_armClear] at started
  obtain ⟨bands, answered⟩ := arm_assistCheck n (stbyFrame n h (setReady (pgArm n) true (linkStarted n caps (armClear n d))))
  obtain ⟨bands', answered'⟩ := arm_stbyFrame n (setReady (pgArm n) true (linkStarted n caps (armClear n d))) h
  rw [ready, started] at bands' answered'
  rw [up]
  exact ⟨bands.trans bands', answered.trans answered'⟩

theorem armPowerUp_guards (there : fitted (.arm n) d = true) :
    (page (pgArm n) (armPowerUp n caps d)).ready = true ∧ (page (pgWrp n) (armPowerUp n caps d)).lock = (page (pgWrp n) d).lock := by
  obtain ⟨h, up⟩ := armPowerUp_eq (caps := caps) there
  have same : SameGuards (setReady (pgArm n) true (linkStarted n caps (armClear n d))) (armPowerUp n caps d) := by
    rw [up]
    exact (SameGuards.stbyFrame n h _).trans (SameGuards.assistCheck n _)
  have apart : pgWrp n ≠ pgArm n := by
    unfold pgWrp pgArm
    omega
  have started : ∀ b e, page b (linkStarted n caps e) = page b e := fun _ _ => rfl
  refine ⟨(same (pgArm n)).2.trans ?_, (same (pgWrp n)).1.trans ?_⟩
  · rw [setReady, page_onPage]
  · rw [setReady, page_onPage_ne apart, started, lock_armClear]

/-- The assist type, which the hub writes back, is not confirmed by what the preamplifier answered. -/
theorem armPowerUp_inhibits (there : fitted (.arm n) d = true)
    (unconfirmed : rd (ALK_ASSIST_TYPE n) d = 0 ∨ rd (ALK_ASSIST_TYPE n) d ≠ bits (caps.getD 0) 4 2) :
    (rd (WRP_WISTAT_SRC n) (armPowerUp n caps d)).testBit 6 = true := by
  obtain ⟨h, up⟩ := armPowerUp_eq (caps := caps) there
  have type : ∀ m : ArmId, (ALK_ASSIST_TYPE m).key ≠ (WRP_ASSTAT_CLAMPS m).key ∧ LeftAtStart m (ALK_ASSIST_TYPE m)
      ∧ keptAtPowerUp m (ALK_ASSIST_TYPE m).key = true := by decide +kernel
  obtain ⟨clamps, left, kept⟩ := type n
  have ready : ∀ g e, rd g (setReady (pgArm n) true e) = rd g e := fun _ _ => rfl
  have armReady : ∀ e, arm n (setReady (pgArm n) true e) = arm n e := fun _ => rfl
  obtain ⟨-, answered⟩ := arm_stbyFrame n (setReady (pgArm n) true (linkStarted n caps (armClear n d))) h
  rw [armReady, arm_linkStarted] at answered
  have same : rd (ALK_ASSIST_TYPE n) (stbyFrame n h (setReady (pgArm n) true (linkStarted n caps (armClear n d))))
      = rd (ALK_ASSIST_TYPE n) d := by
    rw [rd_stbyFrame_ne n _ h clamps, ready, rd_linkStarted_left _ left, rd_armClear, kept]
    rfl
  rw [up]
  refine assistCheck_inhibits ?_
  rw [assistOk, same, answered]
  rcases unconfirmed with none | other
  · simp [none]
  · simp [other]

end

/-- Settles O37: FLT_N's invariant (`FltHeld`) holds once the burst is broken and is kept by all that the fault's error classes do, up to
the retirement of heads; the release and the power-up are the equations of `fltInhibit` and `armClear`. -/
theorem preamplifierFaults : Obligations.PreamplifierFaults := by
  unfold Obligations.PreamplifierFaults
  intro s n run
  refine ⟨fun st => answers_onDev run rfl ?_, fun asserted => answers_onDev run rfl (fltRelease_clause asserted),
    fun asserted => answers_onDev run rfl (fltPersist_clause asserted), fun there caps => answers_onDev run rfl ?_⟩
  · obtain ⟨⟨flt, gate, burst⟩, src⟩ := fltAssert_holds n st s.dev
    exact ⟨flt, gate, src, burst⟩
  · obtain ⟨mode, present, heads, parked, limits⟩ := armPowerUp_registers (caps := caps) there
    obtain ⟨bands, answered⟩ := armPowerUp_arm (caps := caps) there
    obtain ⟨ready, lock⟩ := armPowerUp_guards (caps := caps) there
    exact ⟨mode, present, heads, parked, bands, ready, answered, limits, lock, armPowerUp_inhibits there⟩

end Sys2Proof.Machine
